-- ==== Sys2Proof/Word.lean ====
section
/-!
DEFINITION. The word types of the Jantris 5210 (Introduction 3.2, R188 to R190): bytes of the suite link, code
values and infrared values of a sample, identities read from cans and film, and the alert word.
-/
namespace Sys2Proof

/-- One byte of a link frame (R188). -/
abbrev Byte := BitVec 8

/-- A 12-bit unsigned code value, 0 to 4095 (Introduction 3.2). -/
abbrev CodeValue := BitVec 12

/-- An infrared transmission value, 0 to 255 (Introduction 3.2). -/
abbrev IrValue := BitVec 8

/-- The 64-bit identity printed on a can (R1). -/
abbrev CanTag := BitVec 64

/-- The 32-bit identity read from the film leader (R1). -/
abbrev HeadMark := BitVec 32

/-- The host's 32-bit reference for a reel (R1). -/
abbrev TitleNumber := BitVec 32

/-- The request number a host chooses and the part copies into the reply (R190). -/
abbrev RequestNumber := BitVec 16

/-- The alert word: one bit for each of the 22 flags (R182). -/
abbrev AlertWord := BitVec 22

/-- A station port, 0 to 3. A port is a fixed connection of the part, so no other number exists there. -/
abbrev StationId := Fin 4

end Sys2Proof
end

