-- ==== Sys2Proof/Syntax.lean ====
section
/-!
DEFINITION. The commands of the part: one constructor of `Instr` for each row of spec/opcode_table.json, with the
operands the rules give them, and the named values those operands are made of. A host request also exists as a
`Request`, the form in which it waits in the request queue (R178).
-/
namespace Sys2Proof

/-- Frame geometry and nominal perforation pitch (Introduction 3.3). -/
inductive Gauge where
  | g35x4 | g35x3 | g16x1
  deriving DecidableEq, Repr, Inhabited

/-- Film base (R1). -/
inductive Base where
  | nitrate | acetate | polyester
  deriving DecidableEq, Repr, Inhabited

/-- Emulsion: COLOUR selects IR mode, MONO selects TEMPORAL mode (R1, R132). -/
inductive Emulsion where
  | colour | mono
  deriving DecidableEq, Repr, Inhabited

/-- Class of a reel, naming the shelf zone that may hold it (R15). -/
inductive ReelClass where
  | n | a | q | p
  deriving DecidableEq, Repr, Inhabited

/-- A came-from zone: a shelf zone, or WARM (R1, R33). -/
inductive Zone where
  | n | a | q | p | warm
  deriving DecidableEq, Repr, Inhabited

/-- A place a reel can be (R2), also the form of a position of the lift (R53). -/
inductive Location where
  | cell (c : Nat)
  | staging (s : Nat)
  | chamber (station : Nat)
  | carriage
  | unknown
  deriving DecidableEq, Repr, Inhabited

/-- Kind of a segment (R10). -/
inductive SegmentKind where
  | picture | leader | gap
  deriving DecidableEq, Repr, Inhabited

/-- Repair mode of a segment (R10, R134). -/
inductive RepairMode where
  | conceal | mark | none
  deriving DecidableEq, Repr, Inhabited

/-- Grade mode of a segment (R10, R162). -/
inductive GradeMode where
  | apply | bypass
  deriving DecidableEq, Repr, Inhabited

/-- One segment of a segment map (R10). -/
structure Segment where
  first : Nat
  last : Nat
  kind : SegmentKind
  repair : RepairMode
  grade : GradeMode
  spliceStart : Bool
  deriving DecidableEq, Repr, Inhabited

/-- Transition of a keyframe (R151). -/
inductive Transition where
  | cut | ramp
  deriving DecidableEq, Repr, Inhabited

/-- Three values, one for each colour channel. -/
structure Rgb (α : Type) where
  red : α
  green : α
  blue : α
  deriving DecidableEq, Repr, Inhabited

/-- The parameter set of a keyframe: seven numbers (R151). -/
structure ParamSet where
  lift : Rgb Int
  gain : Rgb Nat
  saturation : Nat
  deriving DecidableEq, Repr, Inhabited

/-- Transport profile, fastest first (R77). -/
inductive Profile where
  | fast | standard | step
  deriving DecidableEq, Repr, Inhabited

/-- Action of a cue (R103). -/
inductive CueAction where
  | pause | note
  deriving DecidableEq, Repr, Inhabited

/-- One cue of a work order (R103). -/
structure Cue where
  frame : Nat
  action : CueAction
  deriving DecidableEq, Repr, Inhabited

/-- A tile span within one tile row (R128). -/
structure TileSpan where
  row : Nat
  firstCol : Nat
  lastCol : Nat
  deriving DecidableEq, Repr, Inhabited

/-- One sample of a frame: three code values and an infrared value (Introduction 3.2). -/
structure Sample where
  colour : Rgb CodeValue
  ir : IrValue
  deriving DecidableEq, Repr, Inhabited

/-- The set of gauges a transport supports (R60, R66). -/
structure GaugeSet where
  g35x4 : Bool
  g35x3 : Bool
  g16x1 : Bool
  deriving DecidableEq, Repr, Inhabited

/-- What the perforation sense sees (R73). -/
inductive Level where
  | film | hole
  deriving DecidableEq, Repr, Inhabited

/-- One raw transition of a PERF INTERVAL report: encoder position and new level (R63). -/
structure PerfTransition where
  position : Nat
  level : Level
  deriving DecidableEq, Repr, Inhabited

/-- A capture lane (R88). -/
inductive LaneId where
  | a | b
  deriving DecidableEq, Repr, Inhabited

/-- The fields of ENROLL REEL (R3). -/
structure EnrollFields where
  tag : CanTag
  title : TitleNumber
  gauge : Gauge
  base : Base
  emulsion : Emulsion
  length : Nat
  location : Location
  reading : Option Nat
  passLimit : Option Nat
  deriving DecidableEq, Repr, Inhabited

/-- The optional fields of AMEND REEL (R5). -/
structure AmendFields where
  title : Option TitleNumber
  base : Option Base
  emulsion : Option Emulsion
  passLimit : Option Nat
  reading : Option Nat
  deriving DecidableEq, Repr, Inhabited

/-- What QUERY SHELF names (R30). -/
inductive ShelfName where
  | cell (c : Nat)
  | zone (z : Zone)
  deriving DecidableEq, Repr, Inhabited

/-- What CANCEL MOVE names (R42). -/
inductive MoveName where
  | reel (r : Nat)
  | station (st : Nat)
  deriving DecidableEq, Repr, Inhabited

/-- What OPEN WORK ORDER asks for: a reel and a range (R103), or a loopback frame count (R105). -/
inductive OrderSubject where
  | reel (r first last : Nat)
  | loopback (count : Nat)
  deriving DecidableEq, Repr, Inhabited

/-- The fields of OPEN WORK ORDER (R103, R105). -/
structure OpenFields where
  station : Nat
  subject : OrderSubject
  profile : Profile
  cues : Option (List Cue)
  deriving DecidableEq, Repr, Inhabited

/-- The optional fields of SET DETECTOR (R133). -/
structure DetectorFields where
  t : Option Nat
  ithr : Option Nat
  nmin : Option Nat
  nmax : Option Nat
  deriving DecidableEq, Repr, Inhabited

/-- The fields of SET KEYFRAME (R152). -/
structure KeyframeFields where
  reel : Nat
  frame : Nat
  transition : Transition
  params : ParamSet
  deriving DecidableEq, Repr, Inhabited

/-- The fields of an IDENT reply (R63, R66). -/
structure IdentFields where
  gauges : GaugeSet
  fastest : Profile
  canPresent : Bool
  threaded : Bool
  deriving DecidableEq, Repr, Inhabited

/-- The fields of a PERF INTERVAL report (R63). -/
structure PerfFields where
  start : Level
  transitions : List PerfTransition
  reached : Nat
  deriving DecidableEq, Repr, Inhabited

/-- A host request after its body has been decoded (R178, R191): one constructor for each request kind. LIFT PASS is
one kind with the four commands of R53. -/
inductive Request where
  | enrollReel (f : EnrollFields)
  | amendReel (reel : Nat) (f : AmendFields)
  | locateReel (reel : Nat) (place : Location)
  | retireReel (reel : Nat)
  | queryReel (reel : Nat)
  | findReel (tag : CanTag)
  | listReels
  | querySegments (reel : Nat)
  | queryPassHistory (reel : Nat)
  | setSegments (reel : Nat) (map : List Segment)
  | setSegmentMode (reel frame : Nat) (repair : Option RepairMode) (grade : Option GradeMode)
  | setQuarantineThreshold (value : Nat)
  | releaseQuarantine (reel : Nat)
  | releaseHold (reel : Nat)
  | queryShelf (name : ShelfName)
  | setDwell (zone : Zone) (minutes : Nat)
  | queryStaging
  | fetch (reel : Nat)
  | mount (reel station : Nat) (wait : Bool)
  | unmount (station : Nat)
  | reshelve (reel : Nat)
  | cancelMove (name : MoveName)
  | queryLift
  | stopLift
  | resumeLift
  | returnLift
  | liftDirect
  | liftPassGoTo (position : Location)
  | liftPassPick (position : Location)
  | liftPassPlace (position : Location)
  | liftPassPark
  | liftRelease
  | setStation (station : Nat) (filter tenure : Option Nat)
  | queryStation (station : Nat)
  | stationReset (station : Nat)
  | loopbackOn (station : Nat)
  | loopbackOff (station : Nat)
  | forceRelease (lane : Nat)
  | queryLanes
  | openWorkOrder (f : OpenFields)
  | setCues (station : Nat) (cues : List Cue)
  | start (station : Nat)
  | pause (station : Nat)
  | stop (station : Nat)
  | abort (station : Nat)
  | queryWorkOrder (station : Nat)
  | markDefect (station frame : Nat) (span : TileSpan)
  | queryStore (station : Option Nat)
  | setDetector (f : DetectorFields)
  | queryDetector
  | queryDefects (station frame : Nat)
  | setKeyframe (f : KeyframeFields)
  | deleteKeyframe (reel frame : Nat)
  | clearGradeList (reel : Nat)
  | queryGradeList (reel : Nat)
  | evaluateGrade (reel frame : Nat) (triple : Option (Rgb Nat))
  | queryDelivery
  | setAlertMask (mask : BitVec 32)
  | setAlertEnable (on : Bool)
  | clearAlerts (flags : BitVec 32)
  | queryAlerts
  | setClock (value : Nat)
  | identify
  | resetSuite
  deriving DecidableEq, Repr

/-- The commands of the part: one constructor for each row of spec/opcode_table.json, in the table's order. The
commands from `enrollReel` to `resetSuite` are host requests: `n` is the request number and the other operands are
the decoded fields of the request. -/
inductive Instr where
  | powerOn
  | frameReceived (bytes : List Byte)
  | outboundMessageSent
  | clockSecondTick
  | enrollReel (n : RequestNumber) (f : EnrollFields)
  | amendReel (n : RequestNumber) (reel : Nat) (f : AmendFields)
  | locateReel (n : RequestNumber) (reel : Nat) (place : Location)
  | retireReel (n : RequestNumber) (reel : Nat)
  | queryReel (n : RequestNumber) (reel : Nat)
  | findReel (n : RequestNumber) (tag : CanTag)
  | listReels (n : RequestNumber)
  | querySegments (n : RequestNumber) (reel : Nat)
  | queryPassHistory (n : RequestNumber) (reel : Nat)
  | setSegments (n : RequestNumber) (reel : Nat) (map : List Segment)
  | setSegmentMode (n : RequestNumber) (reel frame : Nat) (repair : Option RepairMode) (grade : Option GradeMode)
  | setQuarantineThreshold (n : RequestNumber) (value : Nat)
  | releaseQuarantine (n : RequestNumber) (reel : Nat)
  | releaseHold (n : RequestNumber) (reel : Nat)
  | queryShelf (n : RequestNumber) (name : ShelfName)
  | setDwell (n : RequestNumber) (zone : Zone) (minutes : Nat)
  | queryStaging (n : RequestNumber)
  | fetch (n : RequestNumber) (reel : Nat)
  | mount (n : RequestNumber) (reel station : Nat) (wait : Bool)
  | unmount (n : RequestNumber) (station : Nat)
  | reshelve (n : RequestNumber) (reel : Nat)
  | cancelMove (n : RequestNumber) (name : MoveName)
  | queryLift (n : RequestNumber)
  | stopLift (n : RequestNumber)
  | resumeLift (n : RequestNumber)
  | returnLift (n : RequestNumber)
  | liftDirect (n : RequestNumber)
  | liftRelease (n : RequestNumber)
  | liftPassGoTo (n : RequestNumber) (position : Location)
  | liftPassPick (n : RequestNumber) (position : Location)
  | liftPassPlace (n : RequestNumber) (position : Location)
  | liftPassPark (n : RequestNumber)
  | setStation (n : RequestNumber) (station : Nat) (filter tenure : Option Nat)
  | queryStation (n : RequestNumber) (station : Nat)
  | stationReset (n : RequestNumber) (station : Nat)
  | loopbackOn (n : RequestNumber) (station : Nat)
  | loopbackOff (n : RequestNumber) (station : Nat)
  | forceRelease (n : RequestNumber) (lane : Nat)
  | queryLanes (n : RequestNumber)
  | openWorkOrder (n : RequestNumber) (f : OpenFields)
  | setCues (n : RequestNumber) (station : Nat) (cues : List Cue)
  | start (n : RequestNumber) (station : Nat)
  | pause (n : RequestNumber) (station : Nat)
  | stop (n : RequestNumber) (station : Nat)
  | abort (n : RequestNumber) (station : Nat)
  | queryWorkOrder (n : RequestNumber) (station : Nat)
  | markDefect (n : RequestNumber) (station frame : Nat) (span : TileSpan)
  | queryStore (n : RequestNumber) (station : Option Nat)
  | setDetector (n : RequestNumber) (f : DetectorFields)
  | queryDetector (n : RequestNumber)
  | queryDefects (n : RequestNumber) (station frame : Nat)
  | setKeyframe (n : RequestNumber) (f : KeyframeFields)
  | deleteKeyframe (n : RequestNumber) (reel frame : Nat)
  | clearGradeList (n : RequestNumber) (reel : Nat)
  | queryGradeList (n : RequestNumber) (reel : Nat)
  | evaluateGrade (n : RequestNumber) (reel frame : Nat) (triple : Option (Rgb Nat))
  | queryDelivery (n : RequestNumber)
  | setAlertMask (n : RequestNumber) (mask : BitVec 32)
  | setAlertEnable (n : RequestNumber) (on : Bool)
  | clearAlerts (n : RequestNumber) (flags : BitVec 32)
  | queryAlerts (n : RequestNumber)
  | setClock (n : RequestNumber) (value : Nat)
  | identify (n : RequestNumber)
  | resetSuite (n : RequestNumber)
  | attach (st : StationId)
  | identReply (st : StationId) (f : IdentFields)
  | heartbeat (st : StationId)
  | discoveryTimerExpiry (st : StationId)
  | heartbeatTimerExpiry (st : StationId)
  | canPresent (st : StationId) (present : Bool)
  | tagRead (st : StationId) (tag : CanTag)
  | headMarkRead (st : StationId) (mark : HeadMark)
  | acidReading (st : StationId) (reading : Int)
  | threaded (st : StationId)
  | unthreaded (st : StationId)
  | atSpeed (st : StationId) (count : Nat)
  | frameAtGate (st : StationId) (count : Nat)
  | perfInterval (st : StationId) (f : PerfFields)
  | tearSense (st : StationId) (count : Nat)
  | splice (st : StationId) (count : Nat)
  | filmBreak (st : StationId)
  | seize (st : StationId) (faults : List Byte)
  | rewound (st : StationId)
  | captureStored (lane : LaneId) (samples : List (Nat × Sample))
  | loopbackFrameInterval
  | analysisEnd
  | pictureMessageEnd
  | arrived (number : Nat)
  | moveTimerExpiry
  | liftFault
  | picked (position : Location)
  | placed (position : Location)
  | positioned
  | carriage (loaded : Bool)
  | dwellMinuteTick (position : Nat)
  | powerLoss (interruptsWrite : Bool)
  deriving DecidableEq, Repr

end Sys2Proof
end

