-- ==== Sys2Proof/Decode.lean ====
section
/-!
DEFINITION. Commands spelled by words. spec/opcode_table.json gives no row a bit pattern, so no word spells a command;
requests on the suite link are decoded from their bytes in Machine/Wire.lean.
-/
namespace Sys2Proof

/-- The command a word of `nbits` bits spells by the table: none, since no row of the table has bits. -/
def decodeTableWord (_nbits _w : Nat) : Option Instr := none

end Sys2Proof
end

