-- ==== Sys2Proof/Config.lean ====
section
/-!
DEFINITION. What the part is built with (the capacities of R186 and the limits the rules state) and the free values:
constants without a body, so that no proof can lean on them, for the bytes the manual does not fix.
-/
namespace Sys2Proof.Config

/-- Registry entries (R1, R186). -/
def registryEntries : Nat := 512
/-- Shelf cells (R29, R186). -/
def shelfCells : Nat := 640
/-- Staging positions (R31, R186). -/
def stagingPositions : Nat := 8
/-- Records the lift queue holds (R36, R186). -/
def liftQueueLimit : Nat := 16
/-- Frame slots (R117, R186). -/
def frameSlots : Nat := 128
/-- Requests the request queue holds (R178, R186). -/
def requestQueueLimit : Nat := 8
/-- BUSY replies that may wait in the outbound list (R179). -/
def busyLimit : Nat := 8
/-- Entries of the keyframe pool (R151, R186). -/
def keyframePool : Nat := 2048
/-- Keyframes of one grade list (R151). -/
def gradeListLimit : Nat := 64
/-- Segments of one segment map (R10). -/
def segmentLimit : Nat := 32
/-- Pass records of one pass history (R22). -/
def passLimitMax : Nat := 16
/-- Cues of one cue list (R101). -/
def cueLimit : Nat := 8
/-- Defect records of one defect list (R117, R139). -/
def defectLimit : Nat := 24
/-- Stations (R186). -/
def stationCount : Nat := 4
/-- Capture lanes (R186). -/
def laneCount : Nat := 2
/-- Alert flags (R182, R186). -/
def alertFlags : Nat := 22
/-- The part's revision (R186). -/
def revision : Nat := 1
/-- The largest message length the part receives in one frame (R189). -/
def frameLengthLimit : Nat := 1024

/-- The milliseconds the heartbeat timer is started at (R66, R67). -/
def heartbeatMs : Nat := 500
/-- The milliseconds the discovery timer is started at (R65). -/
def discoveryMs : Nat := 2000
/-- The seconds the move timer is started at (R46). -/
def moveSeconds : Nat := 120

/-- FREE VALUE (log entry 3): what an absent item's bytes hold in a reply or a notice. R193 says that an absent item
still occupies its bytes and gives no value for them; `index` counts the bytes of the item. -/
opaque absentByte (index : Nat) : Byte

/-- FREE VALUE (log entry 4): what a field of `size` bytes carries for a number that does not fit in it, such as more
than 65535 tears in the two bytes of R194. -/
opaque unencodable (size value : Nat) : Nat

/-- The part's name, as IDENTIFY gives it (R186). -/
def partName : String := "Jantris 5210 Restoration Suite Controller"

/-- FREE VALUE (log entry 29): the bytes that carry a text on the suite link, for which R190 gives no encoding. The one text
is the part's name in the answer to IDENTIFY (R186). -/
opaque textBytes (text : String) : List Byte

end Sys2Proof.Config
end

