-- ==== Sys2Proof/Machine/Numbers.lean ====
section
/-!
DEFINITION. Arithmetic of the manual: rounding, clamping (Introduction 3.4) and the byte order of the suite link
(chapter 11).
-/
namespace Sys2Proof.Machine

/-- Round half away from zero of `n / d` (Introduction 3.4). -/
def roundAway (n : Int) (d : Nat) : Int :=
  let q : Nat := (2 * n.natAbs + d) / (2 * d)
  if n < 0 then -(q : Int) else (q : Int)

/-- Round half up of the mean of two unsigned values (Introduction 3.4). -/
def meanUp (a b : Nat) : Nat := (a + b + 1) / 2

/-- `v` clamped to `lo`..`hi` (Introduction 3.4). -/
def clampNat (lo hi v : Nat) : Nat := if v < lo then lo else if hi < v then hi else v

/-- `v` clamped to `lo`..`hi` (Introduction 3.4). -/
def clampInt (lo hi v : Int) : Int := if v < lo then lo else if hi < v then hi else v

/-- The distance of two unsigned values. -/
def absDiff (a b : Nat) : Nat := if a ≤ b then b - a else a - b

/-- The bytes of `v` on `size` bytes, most significant first, taking `v` modulo 256 to the `size`. -/
def bytesBE : Nat → Nat → List Byte
  | 0, _ => []
  | size + 1, v => BitVec.ofNat 8 (v / 256 ^ size) :: bytesBE size v

/-- A number sent as a field of `size` bytes (R190). What a field carries for a number that does not fit is free. -/
def natField (size v : Nat) : List Byte :=
  if v < 256 ^ size then bytesBE size v else bytesBE size (Config.unencodable size v % 256 ^ size)

/-- A signed number sent as a field of `size` bytes, in two's complement (chapter 11). -/
def intField (size : Nat) (v : Int) : List Byte :=
  if 0 ≤ v then
    if 2 * v < 256 ^ size then bytesBE size v.toNat else bytesBE size (Config.unencodable size v.toNat % 256 ^ size)
  else if -(256 ^ size : Int) ≤ 2 * v then bytesBE size ((256 ^ size : Int) + v).toNat
  else bytesBE size (Config.unencodable size v.natAbs % 256 ^ size)

/-- The number a list of bytes spells, most significant byte first. -/
def natOfBytes (l : List Byte) : Nat := l.foldl (fun acc b => acc * 256 + b.toNat) 0

/-- The signed number a list of bytes spells in two's complement. -/
def intOfBytes (l : List Byte) : Int :=
  let v := natOfBytes l
  if 2 * v < 256 ^ l.length then (v : Int) else (v : Int) - (256 ^ l.length : Nat)

/-- One bit fed into the check register: the top bit shifted out selects the generator of R189. -/
def crcBit (r : BitVec 32) : BitVec 32 :=
  if r.msb then (r <<< 1) ^^^ 0x04C11DB7#32 else r <<< 1

/-- One byte fed into the check register, most significant bit first (R189). -/
def crcByte (r : BitVec 32) (b : Byte) : BitVec 32 :=
  crcBit (crcBit (crcBit (crcBit (crcBit (crcBit (crcBit (crcBit (r ^^^ (b.zeroExtend 32 <<< 24)))))))))

/-- The check value of a frame: the register starts with all bits set and is sent as it stands (R189). -/
def checkValue (l : List Byte) : BitVec 32 := l.foldl crcByte (BitVec.allOnes 32)

end Sys2Proof.Machine
end

