-- ==== Sys2Proof/Machine/State.lean ====
section
/-!
DEFINITION. The state of the part: one structure for each block of Introduction 1.2, holding every field the rules
name, and `State.reset`, the state right after the part is first powered.
-/
namespace Sys2Proof.Machine

/-! ### REG: the registry (chapter 1) -/

/-- Custody state of a reel (R20). -/
inductive Custody where
  | none | unverified | tagOk | verified | reverify | mismatch
  deriving DecidableEq, Repr, Inhabited

/-- Outcome of a pass record (R22). -/
inductive PassOutcome where
  | running | completed | stopped | aborted
  deriving DecidableEq, Repr, Inhabited

/-- Condition grade, A best and E worst (R24). -/
inductive Grade where
  | a | b | c | d | e
  deriving DecidableEq, Repr, Inhabited

/-- A pass record (R22). Its pass number is its position in the history, counting from 1. -/
structure PassRecord where
  number : Nat
  station : StationId
  startTime : Nat
  profileAtStart : Profile
  lowestProfile : Profile
  frames : Nat
  defectTiles : Nat
  boundaries : Nat
  unrecorded : Nat
  tears : Nat
  peak : Option Int
  outcome : PassOutcome
  deriving DecidableEq, Repr, Inhabited

/-- A keyframe (R151). -/
structure Keyframe where
  frame : Nat
  transition : Transition
  params : ParamSet
  deriving DecidableEq, Repr, Inhabited

/-- A reel record (R1). The class and the known splices are derived (R1). -/
structure Reel where
  tag : CanTag
  headMark : Option HeadMark
  title : TitleNumber
  gauge : Gauge
  base : Base
  emulsion : Emulsion
  length : Nat
  segments : List Segment
  keyframes : List Keyframe
  acid : Option Nat
  quarantine : Bool
  location : Location
  cameFrom : Zone
  home : Option Nat
  custody : Custody
  hold : Bool
  passLimit : Nat
  history : List PassRecord
  grade : Option Grade
  peak : Option Int
  order : Option StationId
  deriving DecidableEq, Repr, Inhabited

/-- The dwell settings of the four came-from zones that have one (R33). -/
structure DwellSettings where
  n : Nat
  a : Nat
  q : Nat
  p : Nat
  deriving DecidableEq, Repr, Inhabited

/-- The retained memory (R26). `checkAgrees` says whether the check word describes the content (log entry 5). The
keyframe pool is the sum of the grade lists (R151). -/
structure Retained where
  reels : Vector (Option Reel) 512
  dwell : DwellSettings
  threshold : Nat
  checkAgrees : Bool
  deriving DecidableEq, Repr

/-! ### STK: the stacks and the lift (chapter 2) -/

/-- State of a shelf cell, derived from the registry (R29). -/
inductive CellState where
  | free | reserved | occupied
  deriving DecidableEq, Repr, Inhabited

/-- State of a staging position (R31). -/
inductive StagingState where
  | empty | reserved | occupied | unidentified
  deriving DecidableEq, Repr, Inhabited

/-- A staging position: its state, its dwell counter (R32) and its announced mark (R34). -/
structure Staging where
  state : StagingState
  dwell : Nat
  announced : Bool
  deriving DecidableEq, Repr, Inhabited

/-- Kind of a move request (R36). -/
inductive MoveKind where
  | fetch | mount | unmount | reshelve
  deriving DecidableEq, Repr, Inhabited

/-- State of a move record (R36). -/
inductive MoveState where
  | queued | dwellWait | moving | halted
  deriving DecidableEq, Repr, Inhabited

/-- Cause of a halt of the lift (R36, R48). -/
inductive HaltCause where
  | fault | stop | timeout | reset
  deriving DecidableEq, Repr, Inhabited

/-- The end of a move the lift was last commanded to (R36). -/
inductive MoveTarget where
  | destination | source
  deriving DecidableEq, Repr, Inhabited

/-- A move request record of the lift queue (R36). -/
structure MoveRecord where
  kind : MoveKind
  reel : Option Nat
  station : Option StationId
  source : Location
  destination : Option Location
  wait : Bool
  state : MoveState
  number : Option Nat
  target : Option MoveTarget
  cause : Option HaltCause
  deriving DecidableEq, Repr, Inhabited

/-- State of the lift (R43). -/
inductive LiftState where
  | idle | moving | halted | direct
  deriving DecidableEq, Repr, Inhabited

/-- The carriage as recorded (R43). -/
inductive Carriage where
  | empty
  | reel (r : Nat)
  | unidentified
  | unreported
  deriving DecidableEq, Repr, Inhabited

/-- A command forwarded under direct control (R53). -/
inductive ForwardedCommand where
  | goTo (position : Location)
  | pick (position : Location)
  | place (position : Location)
  | park
  deriving DecidableEq, Repr, Inhabited

/-- What STK owns (chapter 2). `cause` is the halt cause that QUERY LIFT returns (R43); `reported` says that the
lift's CARRIAGE report has been taken since power-on (R52, R57); `timer` is the move timer, in seconds, as last
started, absent while it does not run (R46). -/
structure Stacks where
  positions : Vector Staging 8
  queue : List MoveRecord
  lift : LiftState
  carriage : Carriage
  cause : Option HaltCause
  counter : Nat
  timer : Option Nat
  forwarded : Option ForwardedCommand
  reported : Bool
  deriving DecidableEq, Repr

/-! ### STN: the stations (chapter 3) -/

/-- The thirteen states of a station (R61). -/
inductive StationState where
  | detached | discovering | empty | loaded | threaded | running | starved | halted | rewinding | broken | lost
  | seized | loopback
  deriving DecidableEq, Repr, Inhabited

/-- Motion of a transport (R60). -/
inductive Motion where
  | stopped | prerolling | atSpeed | ramping | winding
  deriving DecidableEq, Repr, Inhabited

/-- Chamber sensor (R60). -/
inductive Sensor where
  | unreported | present | absent
  deriving DecidableEq, Repr, Inhabited

/-- Chamber reservation (R60, R68). -/
inductive Reservation where
  | none | incoming | outgoing
  deriving DecidableEq, Repr, Inhabited

/-- Stop pending (R60, R83). -/
inductive StopPending where
  | none | pause | drain
  deriving DecidableEq, Repr, Inhabited

/-- A fault name: one the transport reports by its code, or HEARTBEAT LOST (R67, R85, R193). -/
inductive FaultName where
  | reported (code : Byte)
  | heartbeatLost
  deriving DecidableEq, Repr, Inhabited

/-- What a transport can do (R60). -/
structure Capabilities where
  gauges : GaugeSet
  fastest : Profile
  deriving DecidableEq, Repr, Inhabited

/-- Filter state of the perforation filter (R60, R73). -/
structure Filter where
  level : Option Level
  pendingAt : Option Nat
  reference : Option Nat
  deriving DecidableEq, Repr, Inhabited

/-- A station record (R60), with the discovery timer (R65) and the heartbeat timer (R67) in milliseconds as last
started, absent while they do not run. -/
structure Station where
  state : StationState
  motion : Motion
  capabilities : Option Capabilities
  sensor : Sensor
  threaded : Bool
  reservation : Reservation
  tagRead : Option CanTag
  markRead : Option HeadMark
  profile : Option Profile
  fallback : Option Profile
  window : List Int
  filter : Filter
  lastGate : Option Nat
  lastTear : Option Nat
  inFlight : Option Nat
  stopPending : StopPending
  faults : List FaultName
  filterSetting : Nat
  tenure : Nat
  discovery : Option Nat
  heartbeat : Option Nat
  deriving DecidableEq, Repr, Inhabited

/-! ### XPT: the lanes (chapter 4) -/

/-- Release pending of a held lane (R88). -/
inductive ReleasePending where
  | none | tenure | forced
  deriving DecidableEq, Repr, Inhabited

/-- What a HELD lane records of its holder (R88). -/
structure Hold where
  station : StationId
  tenure : Nat
  release : ReleasePending
  deriving DecidableEq, Repr, Inhabited

/-- A capture record: the station, whose number also names the work order, the frame and the slot (R88). -/
structure Capture where
  station : StationId
  frame : Nat
  slot : Nat
  deriving DecidableEq, Repr, Inhabited

/-- A lane record (R88). The lane is FREE when `hold` is absent and HELD when it is present. -/
structure Lane where
  hold : Option Hold
  carriage : Option Capture
  deriving DecidableEq, Repr, Inhabited

/-- State of the pattern source (R87). -/
inductive SourceState where
  | idle | feeding | waiting
  deriving DecidableEq, Repr, Inhabited

/-- The loopback pattern source (R87, R99). `intervalOver` says that the frame interval started at the last offer has
run out. -/
structure PatternSource where
  assigned : Option StationId
  state : SourceState
  intervalOver : Bool
  deriving DecidableEq, Repr, Inhabited

/-- What XPT owns (R88). -/
structure Crosspoint where
  laneA : Lane
  laneB : Lane
  waitList : List StationId
  source : PatternSource
  deriving DecidableEq, Repr, Inhabited

/-! ### WOU: the work orders (chapter 5) -/

/-- State of a work order (R101). -/
inductive OrderState where
  | open | active | paused | draining | closed
  deriving DecidableEq, Repr, Inhabited

/-- End of a work order (R101). -/
inductive OrderEnd where
  | none | completed | stopped | aborted
  deriving DecidableEq, Repr, Inhabited

/-- The fields of a work order that are absent after power-on (R101). `reel` is absent for a loopback work order
(reel NONE). -/
structure OrderBody where
  reel : Option Nat
  first : Nat
  last : Nat
  nextCapture : Nat
  nextDeliver : Nat
  lastCaptured : Option Nat
  deriving DecidableEq, Repr, Inhabited

/-- A work order record (R101). `body` is absent after power-on until the first OPEN WORK ORDER at the station; the
requested profile is no optional field, and R101 gives it no value after power-on (log entry 55). -/
structure WorkOrder where
  state : OrderState
  ending : OrderEnd
  requested : Profile
  body : Option OrderBody
  cues : List Cue
  passBegun : Bool
  deriving DecidableEq, Repr, Inhabited

/-! ### FSC: the frame store (chapter 6) -/

/-- State of a frame slot (R118). -/
inductive SlotState where
  | free | filling | waiting | queued | analysing | ready | sending | kept
  deriving DecidableEq, Repr, Inhabited

/-- What the store holds of frame f - 1 (R117). -/
inductive Predecessor where
  | absent | pending | repaired
  deriving DecidableEq, Repr, Inhabited

/-- What the store holds of frame f + 1 (R117). -/
inductive Successor where
  | awaited | captured | repaired | absent
  deriving DecidableEq, Repr, Inhabited

/-- Kind of a defect record (R128, R138). -/
inductive DefectKind where
  | spot | blotch | splice | tear | host
  deriving DecidableEq, Repr, Inhabited

/-- Outcome of a defect record (R145). -/
inductive DefectOutcome where
  | concealed | partly | marked
  deriving DecidableEq, Repr, Inhabited

/-- A defect record (R128, R138). -/
structure Defect where
  kind : DefectKind
  span : Option TileSpan
  count : Nat
  outcome : DefectOutcome
  deriving DecidableEq, Repr, Inhabited

/-- Flags of a slot record (R117). -/
structure SlotFlags where
  oneSided : Bool
  overflow : Bool
  unchecked : Bool
  test : Bool
  deriving DecidableEq, Repr, Inhabited

/-- The planes of a slot's area: the samples by position (row times width plus column) that differ from what an
unlisted position reads (`Planes.unlisted`), in strictly rising order of position. `gradient` is set for a loopback
frame. -/
structure Planes where
  gradient : Bool
  samples : List (Nat × Sample)
  deriving DecidableEq, Repr, Inhabited

/-- A frame slot: its area and its slot record (R117). -/
structure Slot where
  state : SlotState
  order : Option StationId
  frame : Option Nat
  planes : Planes
  predecessor : Option Predecessor
  successor : Option Successor
  mode : Option RepairMode
  defects : List Defect
  flags : SlotFlags
  freeAtEnd : Bool
  deriving DecidableEq, Repr, Inhabited

/-- What FSC owns: the slots and the repair queue, oldest first (R117, R123). -/
structure FrameStore where
  slots : Vector Slot 128
  queue : List Nat
  deriving DecidableEq, Repr

/-! ### RPE: the repair engine (chapter 7) -/

/-- The detector settings (R132). -/
structure Detector where
  t : Nat
  ithr : Nat
  nmin : Nat
  nmax : Nat
  deriving DecidableEq, Repr, Inhabited

/-- Detector mode (R132). -/
inductive DetectorMode where
  | ir | temporal
  deriving DecidableEq, Repr, Inhabited

/-- The analysis record (R132). -/
structure Analysis where
  slot : Nat
  station : StationId
  frame : Nat
  detector : DetectorMode
  mode : RepairMode
  settings : Detector
  predecessor : Bool
  successor : Bool
  deriving DecidableEq, Repr, Inhabited

/-- What RPE owns (R132). -/
structure RepairEngine where
  settings : Detector
  analysis : Option Analysis
  deriving DecidableEq, Repr, Inhabited

/-! ### GRE and DLV (chapters 8 and 9) -/

/-- Treatment of a delivered frame; NOT DELIVERED is reported by EVALUATE GRADE only (R162, R166). -/
inductive Treatment where
  | graded | ungraded | test | black | notDelivered
  deriving DecidableEq, Repr, Inhabited

/-- The snapshot of the frame being rendered (R162). -/
structure Snapshot where
  station : StationId
  frame : Nat
  mode : Option GradeMode
  treatment : Treatment
  params : Option ParamSet
  deriving DecidableEq, Repr, Inhabited

/-- The picture header (R171). -/
structure PictureHeader where
  station : StationId
  reel : Option Nat
  title : Option TitleNumber
  frame : Nat
  gauge : Gauge
  treatment : Treatment
  gap : Bool
  test : Bool
  oneSided : Bool
  overflow : Bool
  unchecked : Bool
  bypass : Bool
  closing : Bool
  mode : Option RepairMode
  params : Option ParamSet
  time : Nat
  defects : List Defect
  deriving DecidableEq, Repr, Inhabited

/-- State of the picture channel (R167). -/
inductive ChannelState where
  | idle | sending
  deriving DecidableEq, Repr, Inhabited

/-- The message in flight (R167), with the header composed at its delivery start (R170). -/
structure PictureMessage where
  station : StationId
  frame : Nat
  treatment : Treatment
  slot : Option Nat
  header : PictureHeader
  deriving DecidableEq, Repr, Inhabited

/-- What DLV owns (R167). -/
structure Delivery where
  channel : ChannelState
  lastServed : StationId
  message : Option PictureMessage
  deriving DecidableEq, Repr, Inhabited

/-! ### LNK: the suite link (chapter 10) -/

/-- The 22 alert flags, in the order of their numbers (R182). -/
inductive AlertFlag where
  | frameRejected | stationAttached | stationLost | stationSeized | filmBreak | custodyMismatch | acidReadingHigh
  | profileFallback | segmentTableFull | defectOverflow | stationStarved | cueReached | workOrderEnded
  | passLimitReached | moveDone | liftHalted | zoneFull | acclimatized | retainedLost | locationUnknown
  | directGranted | requestQueueFull
  deriving DecidableEq, Repr, Inhabited

/-- The context of the latest setting of a flag (R182). -/
structure AlertContext where
  time : Nat
  station : Option StationId
  reel : Option Nat
  frame : Option Nat
  deriving DecidableEq, Repr, Inhabited

/-- A composed ALERT notice (R183). -/
structure Notice where
  word : AlertWord
  cause : AlertFlag
  context : AlertContext
  deriving DecidableEq, Repr, Inhabited

/-- Cause of a rejected frame (R177). -/
inductive Rejection where
  | check | length | channel | class_ | overrun
  deriving DecidableEq, Repr, Inhabited

/-- Refusal reasons (R180). -/
inductive Reason where
  | malformed | notFound | duplicate | noSpace | location | wrongState | held | acclimatizing | stillAcid | passLimit
  deriving DecidableEq, Repr, Inhabited

/-- One clamp entry of a DONE-CLAMPED reply: the field's position in the request and the value taken (R192). -/
structure Clamp where
  position : Nat
  value : Int
  deriving DecidableEq, Repr, Inhabited

/-- The reel record as QUERY REEL carries it (R8, R194). -/
structure ReelReport where
  tag : CanTag
  headMark : Option HeadMark
  title : TitleNumber
  gauge : Gauge
  base : Base
  emulsion : Emulsion
  length : Nat
  segments : Nat
  keyframes : Nat
  acid : Option Nat
  quarantine : Bool
  cls : ReelClass
  hold : Bool
  location : Location
  cameFrom : Zone
  home : Option Nat
  custody : Custody
  passLimit : Nat
  grade : Option Grade
  peak : Option Int
  order : Option StationId
  passes : Nat
  splices : Nat
  deriving DecidableEq, Repr, Inhabited

/-- One entry of LIST REELS (R8, R193). -/
structure ReelEntry where
  index : Nat
  tag : CanTag
  cls : ReelClass
  location : Location
  deriving DecidableEq, Repr, Inhabited

/-- One position of QUERY STAGING (R35). -/
structure StagingReport where
  state : StagingState
  reel : Option Nat
  dwell : Nat
  required : Option Nat
  announced : Bool
  deriving DecidableEq, Repr, Inhabited

/-- One slot of QUERY STORE (R131). -/
structure SlotReport where
  slot : Nat
  state : SlotState
  frame : Nat
  predecessor : Option Predecessor
  successor : Option Successor
  mode : Option RepairMode
  defects : Nat
  flags : SlotFlags
  freeAtEnd : Bool
  deriving DecidableEq, Repr, Inhabited

/-- The interval of the grade list that contains a frame (R166). -/
inductive GradeInterval where
  | identity
  | between (left right : Keyframe)
  | after (last : Keyframe)
  deriving DecidableEq, Repr, Inhabited

/-- The results of the four stages of the transfer for one triple (R159, R160). -/
structure TransferStages where
  y1 : Rgb Nat
  y2 : Rgb Nat
  luma : Nat
  y3 : Rgb Nat
  deriving DecidableEq, Repr, Inhabited

/-- One station of QUERY DELIVERY (R176). -/
structure DeliveryReport where
  state : OrderState
  nextDeliver : Option Nat
  hasItem : Bool
  slotState : Option SlotState
  deriving DecidableEq, Repr, Inhabited

/-- The answers a reply can carry, one form for each content the rules name (R193). -/
inductive Answer where
  | empty
  | reelIndex (i : Nat)
  | reelRecord (r : ReelReport)
  | reelList (l : List ReelEntry)
  | segmentList (l : List Segment)
  | passList (l : List PassRecord)
  | shelfCell (zone : ReelClass) (state : CellState) (reel : Option Nat)
  | shelfZone (free reserved occupied : Nat) (lowest : Option Nat)
  | stagingList (l : List StagingReport)
  | moveState (s : MoveState)
  | liftReport (lift : LiftState) (carriage : Carriage) (cause : Option HaltCause)
      (forwarded : Option ForwardedCommand) (queue : List MoveRecord)
  | stationReport (record : Station) (figure : Option Int) (reel : Option Nat) (custody : Option Custody)
      (lane : Option LaneId)
  | laneReport (a b : Lane) (waitList : List StationId)
  | orderOpened (first last nextCapture nextDeliver : Nat)
  | profileTaken (p : Profile)
  | orderReport (record : WorkOrder) (slots : Nat)
  | storeReport (counts : List Nat) (queue : List (StationId × Nat)) (analysis message : Option (StationId × Nat))
      (slots : Option (List SlotReport))
  | detectorSettings (d : Detector)
  | detectorReport (d : Detector) (analysis : Option Analysis)
  | defectReport (defects : List Defect) (flags : SlotFlags) (mode : Option RepairMode) (tiles : Option Nat)
  | poolCounts (keyframes free : Nat)
  | listCleared (removed free : Nat)
  | gradeList (keyframes : List Keyframe) (used free : Nat)
  | evaluation (kind : SegmentKind) (mode : GradeMode) (treatment : Treatment) (interval : GradeInterval)
      (params : ParamSet) (stages : Option TransferStages)
  | deliveryReport (channel : ChannelState) (lastServed : StationId) (message : Option (StationId × Nat × Treatment))
      (stations : List DeliveryReport)
  | alertWord (w : AlertWord)
  | alertReport (word pending mask : AlertWord) (enable : Bool) (rejection : Option Rejection)
  | identity (part : String) (passed : Bool) (clock : Nat) (detached : List Bool)
  deriving DecidableEq, Repr, Inhabited

/-- The body of a reply (R180, R192). -/
inductive ReplyBody where
  | done (a : Answer)
  | doneClamped (clamps : List Clamp) (a : Answer)
  | accepted (a : Answer)
  | busy
  | refused (r : Reason)
  deriving DecidableEq, Repr, Inhabited

/-- A reply: the request's kind and number, and the body (R180, R193). -/
structure Reply where
  kind : Byte
  number : RequestNumber
  body : ReplyBody
  deriving DecidableEq, Repr, Inhabited

/-- A request that has arrived: its kind and number, and its decoded body, absent when it is malformed (R191). -/
structure QueuedRequest where
  kind : Byte
  number : RequestNumber
  request : Option Request
  deriving DecidableEq, Repr

/-- One place in the order of the transmitter (R181). `reply` is the reply to a request taken from the queue, `busy` a
BUSY reply made at arrival, `notice` a notice not yet taken, `taken` a notice the transmitter has taken and
composed, and `picture` the place of the picture message in flight. The first entry is in transmission. `arbiterTest` is
no message: it is the model's own marker, set at the end of a picture message behind the control messages then waiting,
of the test of the arbiter that follows them (R172, R181, log entry 70). -/
inductive Outbound where
  | reply (r : Reply)
  | busy (r : Reply)
  | notice (f : AlertFlag)
  | taken (n : Notice)
  | picture
  | arbiterTest
  deriving DecidableEq, Repr, Inhabited

/-- What LNK owns (chapter 10). `pending` holds for each flag the context while its pending mark is set (R182);
`retainedPassed` is the result of the check at the last power-on (R186). -/
structure Link where
  queue : List QueuedRequest
  outbound : List Outbound
  word : AlertWord
  pending : Vector (Option AlertContext) 22
  mask : AlertWord
  enable : Bool
  rejection : Option Rejection
  clock : Nat
  retainedPassed : Bool
  deriving DecidableEq, Repr

/-! ### What leaves the part -/

/-- Commands to a transport (R63). -/
inductive StationCommand where
  | ident
  | preroll (count : Nat) (profile : Profile)
  | rampDown
  | step
  | rewind
  | safe
  | stationClear
  deriving DecidableEq, Repr, Inhabited

/-- Commands to the lift (R43). -/
inductive LiftCommand where
  | carry (number : Nat) (source destination : Location)
  | redirect (number : Nat) (target : Location)
  | stop
  | forwarded (c : ForwardedCommand)
  deriving DecidableEq, Repr, Inhabited

/-- What one step sends on the ports: commands as they are given, and messages when their last part has been sent. -/
inductive Emission where
  | station (st : StationId) (c : StationCommand)
  | lift (c : LiftCommand)
  | reply (r : Reply)
  | notice (n : Notice)
  | picture (h : PictureHeader) (planes : Option Planes)
  deriving DecidableEq, Repr, Inhabited

/-! ### The state -/

/-- The state of the part. `powered` says whether power is applied (R26). `sent` holds what the latest step sent on the
ports, in order (the model's own field, log entry 6). `pending` is the queue of commands that are waiting, first in,
first out (the interface's field). -/
structure State where
  powered : Bool
  retained : Retained
  stk : Stacks
  stations : Vector Station 4
  lanes : Crosspoint
  orders : Vector WorkOrder 4
  store : FrameStore
  engine : RepairEngine
  snapshot : Option Snapshot
  delivery : Delivery
  link : Link
  sent : List Emission
  pending : List Instr
  deriving DecidableEq, Repr

/-- Reasons a step can fault. There are none: the rules give every command an effect in every state of the part. -/
inductive Fault where
  deriving DecidableEq, Repr

/-- Reasons a command is refused by the model. -/
inductive Refusal where
  /-- Raised by `exec` for a command that has no meaning in the model. No arm of `exec` uses it. Safe. -/
  | notModelled (mnemonic : String)
  deriving DecidableEq, Repr

/-! ### Power-on values, block by block -/

/-- Staging position at power-on when it is no reel's location (R31, R32, R34). -/
def Staging.powerOn : Staging := { state := .empty, dwell := 0, announced := false }

/-- The default dwell settings (R33). -/
def DwellSettings.default : DwellSettings := { n := 240, a := 480, q := 480, p := 0 }

/-- The retained memory after a failed check, rewritten so that the check word agrees (R27). -/
def Retained.default : Retained :=
  { reels := Vector.replicate 512 none, dwell := .default, threshold := 15, checkAgrees := true }

/-- STK at power-on with no registered reel on the carriage (R31, R36, R43, R57). -/
def Stacks.powerOn : Stacks :=
  { positions := Vector.replicate 8 .powerOn, queue := [], lift := .halted, carriage := .unreported,
    cause := some .fault, counter := 1, timer := none, forwarded := none, reported := false }

/-- The cleared filter state (R73). -/
def Filter.clear : Filter := { level := none, pendingAt := none, reference := none }

/-- A station record after power-on (R60). -/
def Station.powerOn : Station :=
  { state := .detached, motion := .stopped, capabilities := none, sensor := .unreported, threaded := false,
    reservation := .none, tagRead := none, markRead := none, profile := none, fallback := none, window := [],
    filter := .clear, lastGate := none, lastTear := none, inFlight := none, stopPending := .none, faults := [],
    filterSetting := 4, tenure := 24, discovery := none, heartbeat := none }

/-- A FREE lane that carries nothing (R88). -/
def Lane.free : Lane := { hold := none, carriage := none }

/-- The pattern source unassigned and IDLE (R88). -/
def PatternSource.idle : PatternSource := { assigned := none, state := .idle, intervalOver := false }

/-- XPT at power-on (R88). -/
def Crosspoint.powerOn : Crosspoint := { laneA := .free, laneB := .free, waitList := [], source := .idle }

/-- A work order record after power-on (R101). DESIGN CHOICE (log entry 55), unsafe: the requested profile is FAST. -/
def WorkOrder.powerOn : WorkOrder :=
  { state := .closed, ending := .none, requested := .fast, body := none, cues := [], passBegun := false }

/-- No flags (R117). -/
def SlotFlags.clear : SlotFlags := { oneSided := false, overflow := false, unchecked := false, test := false }

/-- An area in which every position reads as unlisted. -/
def Planes.blank : Planes := { gradient := false, samples := [] }

/-- A FREE slot with a cleared record (R117). -/
def Slot.free : Slot :=
  { state := .free, order := none, frame := none, planes := .blank, predecessor := none, successor := none,
    mode := none, defects := [], flags := .clear, freeAtEnd := false }

/-- FSC at power-on (R130). -/
def FrameStore.powerOn : FrameStore := { slots := Vector.replicate 128 .free, queue := [] }

/-- The default detector settings (R132). -/
def Detector.default : Detector := { t := 120, ithr := 160, nmin := 6, nmax := 1024 }

/-- RPE at power-on (R132). -/
def RepairEngine.powerOn : RepairEngine := { settings := .default, analysis := none }

/-- DLV at power-on (R167). -/
def Delivery.powerOn : Delivery := { channel := .idle, lastServed := 3, message := none }

/-- LNK at power-on before the findings are raised (R177, R178, R181, R182, R185). -/
def Link.powerOn : Link :=
  { queue := [], outbound := [], word := 0, pending := Vector.replicate 22 none, mask := BitVec.allOnes 22,
    enable := false, rejection := none, clock := 0, retainedPassed := true }

/-- The part with power removed: every volatile field at its power-on value and the retained memory kept (R26). -/
def State.unpowered (r : Retained) (pending : List Instr) : State :=
  { powered := false, retained := r, stk := .powerOn, stations := Vector.replicate 4 .powerOn,
    lanes := .powerOn, orders := Vector.replicate 4 .powerOn, store := .powerOn, engine := .powerOn,
    snapshot := none, delivery := .powerOn, link := .powerOn, sent := [], pending := pending }

/-- LNK after the first power-on: RETAINED LOST has been raised (R27, log entry 1). -/
def Link.reset : Link :=
  { Link.powerOn with
    word := 0x40000, retainedPassed := false
    pending := Link.powerOn.pending.set 18 (some { time := 0, station := none, reel := none, frame := none }) }

/-- The state right after the part is first powered: no check word has been written, so the retained check fails
(R1, R27, log entry 1), and every block has its power-on values. -/
def State.reset : State :=
  { State.unpowered .default [] with powered := true, link := .reset }

end Sys2Proof.Machine
end

