-- ==== Sys2Proof/Machine/Ops.lean ====
section
/-!
DEFINITION. The named operations every block uses: reading and writing the records of the state, sending on the
ports, raising an alert (R182, R183), placing a reply (R181), and the frame every event runs in.
-/
namespace Sys2Proof.Machine

/-! ### Reading and writing records -/

/-- The record of registered reel `i`, absent when the entry is free or does not exist (R1). -/
def State.reel? (s : State) (i : Nat) : Option Reel := s.retained.reels[i]?.join

/-- Write entry `i` of the registry; the check word is written with it (R26). -/
def State.setReel (s : State) (i : Nat) (r : Option Reel) : State :=
  { s with retained := { s.retained with reels := s.retained.reels.setIfInBounds i r, checkAgrees := true } }

/-- Change the record of reel `i`, when it is registered. -/
def State.updReel (s : State) (i : Nat) (f : Reel → Reel) : State :=
  match s.reel? i with
  | some r => s.setReel i (some (f r))
  | none => s

/-- The lowest registered reel with a property. -/
def State.findReel (s : State) (p : Reel → Bool) : Option Nat :=
  s.retained.reels.toList.findIdx? (fun o => o.any p)

/-- The registered reel whose location is `l` (R2). -/
def State.reelAt (s : State) (l : Location) : Option Nat := s.findReel (fun r => r.location == l)

/-- The registered reel in the chamber of a station (R60). -/
def State.reelIn (s : State) (st : StationId) : Option Nat := s.reelAt (.chamber st.val)

/-- The registered reels with their indexes, in ascending order of index. -/
def State.registered (s : State) : List (Nat × Reel) :=
  s.retained.reels.toList.zipIdx.filterMap (fun x => x.1.map (fun r => (x.2, r)))

/-- Change the settings of the retained memory; the check word is written with them (R26). -/
def State.setRetained (s : State) (dwell : DwellSettings) (threshold : Nat) : State :=
  { s with retained := { s.retained with dwell := dwell, threshold := threshold, checkAgrees := true } }

/-- The station is RUNNING with motion AT SPEED (R73). -/
def Station.runsAtSpeed (t : Station) : Bool := t.state == .running && t.motion == .atSpeed

/-- The record of a station. -/
def State.station (s : State) (st : StationId) : Station := s.stations[st]

/-- Change the record of a station. Whenever the station leaves RUNNING with motion AT SPEED, the filter state is
cleared (R73). -/
def State.updStation (s : State) (st : StationId) (f : Station → Station) : State :=
  let old := s.stations[st]
  let new := f old
  let kept := if old.runsAtSpeed && !new.runsAtSpeed then { new with filter := .clear } else new
  { s with stations := s.stations.set st kept }

/-- The record of a work order. -/
def State.order (s : State) (st : StationId) : WorkOrder := s.orders[st]

/-- Change the record of a work order. -/
def State.updOrder (s : State) (st : StationId) (f : WorkOrder → WorkOrder) : State :=
  { s with orders := s.orders.set st (f s.orders[st]) }

/-- Change the body of a work order, when it has one. -/
def State.updBody (s : State) (st : StationId) (f : OrderBody → OrderBody) : State :=
  s.updOrder st (fun w => { w with body := w.body.map f })

/-- The station has a work order: its record is not CLOSED (R101). -/
def State.hasOrder (s : State) (st : StationId) : Bool := (s.order st).state != .closed

/-- The body of the work order a station has. -/
def State.openBody? (s : State) (st : StationId) : Option OrderBody :=
  if s.hasOrder st then (s.order st).body else none

/-- A slot of the frame store; a number above 127 names none. -/
def State.slot? (s : State) (i : Nat) : Option Slot := s.store.slots[i]?

/-- Change a slot. -/
def State.updSlot (s : State) (i : Nat) (f : Slot → Slot) : State :=
  match s.store.slots[i]? with
  | some x => { s with store := { s.store with slots := s.store.slots.setIfInBounds i (f x) } }
  | none => s

/-- The lowest-numbered slot with a property. -/
def State.findSlot (s : State) (p : Slot → Bool) : Option Nat := s.store.slots.toList.findIdx? p

/-- The slot of a station's work order that holds a frame (R117, R119). -/
def State.slotOf (s : State) (st : StationId) (f : Nat) : Option Nat :=
  s.findSlot (fun x => x.state != .free && x.order == some st && x.frame == some f)

/-- The lowest-numbered FREE slot (R119). -/
def State.freeSlot (s : State) : Option Nat := s.findSlot (fun x => x.state == .free)

/-- The record of a lane. -/
def State.lane (s : State) : LaneId → Lane
  | .a => s.lanes.laneA
  | .b => s.lanes.laneB

/-- Write the record of a lane. -/
def State.setLane (s : State) (l : LaneId) (v : Lane) : State :=
  match l with
  | .a => { s with lanes := { s.lanes with laneA := v } }
  | .b => { s with lanes := { s.lanes with laneB := v } }

/-- The lane is held by the station (R88). -/
def Lane.heldBy (l : Lane) (st : StationId) : Bool := l.hold.any (fun h => h.station == st)

/-- The lane a station holds (R88). -/
def State.laneOf (s : State) (st : StationId) : Option LaneId :=
  if s.lanes.laneA.heldBy st then some .a else if s.lanes.laneB.heldBy st then some .b else none

/-- Change the pattern source. -/
def State.updSource (s : State) (f : PatternSource → PatternSource) : State :=
  { s with lanes := { s.lanes with source := f s.lanes.source } }

/-- A staging position; a number above 7 names none. -/
def State.position? (s : State) (p : Nat) : Option Staging := s.stk.positions[p]?

/-- Change a staging position. -/
def State.updPosition (s : State) (p : Nat) (f : Staging → Staging) : State :=
  match s.stk.positions[p]? with
  | some x => { s with stk := { s.stk with positions := s.stk.positions.setIfInBounds p (f x) } }
  | none => s

/-- The station number a request names, when it is 0 to 3. -/
def stationOf (n : Nat) : Option StationId := if h : n < 4 then some ⟨n, h⟩ else none

/-! ### The ports -/

/-- Send a command to a transport (R63). -/
def State.toStation (s : State) (st : StationId) (c : StationCommand) : State :=
  { s with sent := s.sent ++ [.station st c] }

/-- Send a command to the lift (R43). -/
def State.toLift (s : State) (c : LiftCommand) : State := { s with sent := s.sent ++ [.lift c] }

/-! ### Alerts (R182, R183) -/

/-- The number of an alert flag (R182). -/
def AlertFlag.number : AlertFlag → Fin 22
  | .frameRejected => 0
  | .stationAttached => 1
  | .stationLost => 2
  | .stationSeized => 3
  | .filmBreak => 4
  | .custodyMismatch => 5
  | .acidReadingHigh => 6
  | .profileFallback => 7
  | .segmentTableFull => 8
  | .defectOverflow => 9
  | .stationStarved => 10
  | .cueReached => 11
  | .workOrderEnded => 12
  | .passLimitReached => 13
  | .moveDone => 14
  | .liftHalted => 15
  | .zoneFull => 16
  | .acclimatized => 17
  | .retainedLost => 18
  | .locationUnknown => 19
  | .directGranted => 20
  | .requestQueueFull => 21

/-- The flags in ascending order of their numbers (R182, R183). -/
def AlertFlag.all : List AlertFlag :=
  [.frameRejected, .stationAttached, .stationLost, .stationSeized, .filmBreak, .custodyMismatch, .acidReadingHigh,
   .profileFallback, .segmentTableFull, .defectOverflow, .stationStarved, .cueReached, .workOrderEnded,
   .passLimitReached, .moveDone, .liftHalted, .zoneFull, .acclimatized, .retainedLost, .locationUnknown,
   .directGranted, .requestQueueFull]

/-- Change what LNK owns. -/
def State.updLink (s : State) (f : Link → Link) : State := { s with link := f s.link }

/-- A flag is reported while its mask bit and the master enable are on (R183). -/
def Link.reported (l : Link) (f : AlertFlag) : Bool := l.mask.getLsbD f.number && l.enable

/-- The entry is a notice for the flag, taken or not (R181, R183). -/
def Outbound.isNoticeOf (f : AlertFlag) : Outbound → Bool
  | .notice g => g == f
  | .taken n => n.cause == f
  | _ => false

/-- The transmitter takes the head of the outbound list. A notice is composed when it is taken, with the alert word as
it stands and the context of the flag's latest setting, and its pending mark is cleared (R183). -/
def Link.transmit (l : Link) : Link :=
  match l.outbound with
  | .notice f :: rest =>
    match l.pending[f.number] with
    | some c => { l with outbound := .taken { word := l.word, cause := f, context := c } :: rest
                         pending := l.pending.set f.number none }
    | none => { l with outbound := rest }
  | _ => l

/-- Place an entry at the tail of the outbound list; it is begun at once when the transmitter is idle (R181). -/
def Link.place (l : Link) (e : Outbound) : Link := { l with outbound := l.outbound ++ [e] }.transmit

/-- The test of the arbiter stands directly behind the head: it is due when the head has been sent (R181, log entry 70). -/
def Link.testBehind (l : Link) : Bool := l.outbound.tail.head? == some .arbiterTest

/-- The head of the outbound list has been sent: it leaves the list, with the test of the arbiter that stands directly behind
it, and the transmitter takes the next message (R181, log entry 70). -/
def Link.headSent (l : Link) : Link :=
  { l with outbound := if l.testBehind then l.outbound.tail.tail else l.outbound.tail }.transmit

/-- Place a notice for a flag when its pending mark is set, it is reported, and no notice for it already waits
(R183). -/
def Link.placeNotice (l : Link) (f : AlertFlag) : Link :=
  if l.pending[f.number].isSome && l.reported f && !l.outbound.any (·.isNoticeOf f) then l.place (.notice f) else l

/-- Withdraw the waiting notice for a flag; one the transmitter has taken stays (R183). -/
def Link.withdraw (l : Link) (f : AlertFlag) : Link :=
  { l with outbound := l.outbound.filter (fun e => e != .notice f) }

/-- What a raising rule names. -/
structure Names where
  station : Option StationId := none
  reel : Option Nat := none
  frame : Option Nat := none

/-- The context of a setting taken at a suite time (R182). -/
def Names.context (n : Names) (time : Nat) : AlertContext :=
  { time := time, station := n.station, reel := n.reel, frame := n.frame }

/-- Raise an alert flag: set it, set its pending mark with the context of this setting, and place its notice when it is
reported (R182). -/
def State.raise (s : State) (f : AlertFlag) (names : Names) : State :=
  s.updLink (fun l =>
    { l with word := l.word ||| BitVec.twoPow 22 f.number
             pending := l.pending.set f.number (some (names.context l.clock)) }.placeNotice f)

/-! ### Replies (R180, R181) -/

/-- The kind and the number a reply copies from its request (R193). -/
structure RequestHeader where
  kind : Byte
  number : RequestNumber

/-- Place the reply to a request taken from the queue (R178, R181). -/
def State.reply (s : State) (h : RequestHeader) (b : ReplyBody) : State :=
  s.updLink (fun l => l.place (.reply { kind := h.kind, number := h.number, body := b }))

/-- What an owner answers to a request: the state it leaves and the body of the reply. -/
abbrev Answered := State × ReplyBody

/-- A request refused with a reason; nothing changed (R180). -/
def State.refuse (s : State) (r : Reason) : Answered := (s, .refused r)

/-- A request answered DONE without further content. -/
def State.doneEmpty (s : State) : Answered := (s, .done .empty)

/-- A query answered DONE; it changes nothing. -/
def State.answer (s : State) (a : Answer) : Answered := (s, .done a)

/-- DONE, or DONE-CLAMPED when some value was clamped (R180, R193). -/
def doneOr (clamps : List Clamp) (a : Answer) : ReplyBody :=
  match clamps with
  | [] => .done a
  | cs => .doneClamped cs a

/-- The clamp entry of the field at `position`, when the value taken differs from the value asked for (R192). -/
def clampEntry (position : Nat) (asked taken : Int) : List Clamp :=
  if asked = taken then [] else [{ position := position, value := taken }]

/-- The clamp entry of an optional field. -/
def clampEntry? (position : Nat) (asked : Option Nat) (taken : Nat → Nat) : List Clamp :=
  match asked with
  | some v => clampEntry position v (taken v)
  | none => []

end Sys2Proof.Machine
end

