-- ==== Sys2Proof/Machine/Registry.lean ====
section
/-!
DEFINITION. The Reel Registry's own operations (chapter 1): class and zones, locations, acid readings, the segment
map under splices, pass records and the condition grade.
-/
namespace Sys2Proof

/-- The came-from zone that is the shelf zone of a class (R15). -/
def ReelClass.zone : ReelClass → Zone
  | .n => .n
  | .a => .a
  | .q => .q
  | .p => .p

/-- The shelf zone a zone name stands for; WARM is none (R30, R33). -/
def Zone.shelf? : Zone → Option ReelClass
  | .n => some .n
  | .a => some .a
  | .q => some .q
  | .p => some .p
  | .warm => none

/-- The cells of a zone, in ascending order (R29). -/
def ReelClass.cells : ReelClass → List Nat
  | .n => List.range' 0 64
  | .a => List.range' 64 384
  | .q => List.range' 448 64
  | .p => List.range' 512 128

/-- The location is a chamber. -/
def Location.isChamber : Location → Bool
  | .chamber _ => true
  | _ => false

/-- The location is a shelf cell. -/
def Location.isCell : Location → Bool
  | .cell _ => true
  | _ => false

/-- The location holds a reel to its class: a cell or the carriage (R5, R18). -/
def Location.pinsClass : Location → Bool
  | .cell _ => true
  | .carriage => true
  | _ => false

/-- A segment split at a frame inside it (R13). -/
def Segment.split (g : Segment) (n : Nat) : List Segment :=
  if g.first < n && n ≤ g.last then [{ g with last := n - 1 }, { g with first := n, spliceStart := true }] else [g]

/-- The order of profiles, FAST first (R77). -/
def Profile.rank : Profile → Nat
  | .fast => 0
  | .standard => 1
  | .step => 2

/-- The slower of two profiles (R77). -/
def Profile.slower (a b : Profile) : Profile := if a.rank < b.rank then b else a

end Sys2Proof

namespace Sys2Proof.Machine

/-! ### Class and zones (R15, R29) -/

/-- The class, from base and quarantine flag (R15). -/
def classOf (b : Base) (quarantine : Bool) : ReelClass :=
  match b, quarantine with
  | .nitrate, _ => .n
  | _, true => .q
  | .acetate, false => .a
  | .polyester, false => .p

/-- The class of a reel (R15). -/
def Reel.cls (r : Reel) : ReelClass := classOf r.base r.quarantine

/-- The zone in which a cell lies (R29). -/
def zoneOfCell (c : Nat) : ReelClass := if c < 64 then .n else if c < 448 then .a else if c < 512 then .q else .p

/-- The reel whose home cell a cell is (R29). -/
def State.homeReel (s : State) (c : Nat) : Option Nat := s.findReel (fun r => r.home == some c)

/-- The state of a cell, derived from home cells and locations (R29). -/
def State.cellState (s : State) (c : Nat) : CellState :=
  match s.homeReel c with
  | none => .free
  | some i => if (s.reel? i).any (fun r => r.location == .cell c) then .occupied else .reserved

/-- The lowest-numbered FREE cell of a zone (R30, R45). -/
def State.lowestFree (s : State) (z : ReelClass) : Option Nat := z.cells.find? (fun c => s.cellState c == .free)

/-! ### Locations and custody (R2, R20) -/

/-- The record with a new location; when the location is not a chamber, the custody state is NONE (R2, R20). -/
def Reel.moved (r : Reel) (l : Location) : Reel :=
  { r with location := l, custody := if l.isChamber then r.custody else .none }

/-- Write a reel's location (R2). -/
def State.moveReel (s : State) (i : Nat) (l : Location) : State := s.updReel i (·.moved l)

/-- A reel arrives in a chamber: its custody state becomes UNVERIFIED (R20, R47, R50). -/
def State.enterChamber (s : State) (i : Nat) (st : StationId) : State :=
  s.updReel i (fun r => { r.moved (.chamber st.val) with custody := .unverified })

/-- The part can no longer vouch for where a reel is: its location becomes UNKNOWN and LOCATION UNKNOWN is raised,
naming it (R2). -/
def State.loseReel (s : State) (i : Nat) : State :=
  (s.moveReel i .unknown).raise .locationUnknown { reel := some i }

/-- Write a custody state (R20). -/
def State.setCustody (s : State) (i : Nat) (c : Custody) : State := s.updReel i (fun r => { r with custody := c })

/-! ### Class changes and acid readings (R16, R19) -/

/-- After a class change, a home cell outside the new zone is released (R19). -/
def Reel.rehomed (r : Reel) (before : ReelClass) : Reel :=
  if r.cls == before then r
  else { r with home := r.home.filter (fun c => zoneOfCell c == r.cls) }

/-- The record after recording a reading, already clamped (R16). -/
def Reel.withReading (r : Reel) (threshold v : Nat) : Reel :=
  { r with acid := some v, quarantine := r.quarantine || decide (threshold ≤ v) }

/-- The reading sets a quarantine flag that was clear, so that ACID READING HIGH is raised (R16). -/
def Reel.readingAlarms (r : Reel) (threshold v : Nat) : Bool := !r.quarantine && decide (threshold ≤ v)

/-- Record a station's reading for the reel in its chamber, clamped to 0 to 30 (R16, R72). -/
def State.recordReading (s : State) (st : StationId) (i : Nat) (reading : Int) : State :=
  match s.reel? i with
  | none => s
  | some r =>
    let v := (clampInt 0 30 reading).toNat
    let t := s.retained.threshold
    let s' := s.setReel i (some ((r.withReading t v).rehomed r.cls))
    if r.readingAlarms t v then s'.raise .acidReadingHigh { station := some st, reel := some i } else s'

/-! ### The segment map (R10, R13) -/

/-- The segment of a map that contains a frame (R10). -/
def segmentAt (map : List Segment) (f : Nat) : Option Segment :=
  map.find? (fun g => decide (g.first ≤ f) && decide (f ≤ g.last))

/-- What a splice does to a segment map (R13). -/
inductive SpliceEffect where
  | known
  | boundary (map : List Segment)
  | full
  deriving DecidableEq, Repr

/-- The effect of a splice at frame `n` on a map (R13). -/
def spliceEffect (map : List Segment) (n : Nat) : SpliceEffect :=
  match segmentAt map n with
  | none => .known
  | some g =>
    if g.first = n then
      if g.spliceStart then .known
      else .boundary (map.map (fun x => if x.first = n then { x with spliceStart := true } else x))
    else if Config.segmentLimit ≤ map.length then .full
    else .boundary (map.flatMap (·.split n))

/-! ### Pass records (R22 to R25) -/

/-- The RUNNING pass record of a reel (R23). -/
def Reel.running (r : Reel) : Option PassRecord := r.history.find? (fun p => p.outcome == .running)

/-- The record with its RUNNING pass record changed; nothing changes when there is none (R23). -/
def Reel.updRunning (r : Reel) (f : PassRecord → PassRecord) : Reel :=
  { r with history := r.history.map (fun p => if p.outcome == .running then f p else p) }

/-- Change the RUNNING pass record of a reel (R23). -/
def State.updRunning (s : State) (i : Nat) (f : PassRecord → PassRecord) : State := s.updReel i (·.updRunning f)

/-- The number of segments whose splice-start flag is set (R14). -/
def flaggedSplices (map : List Segment) : Nat := map.countP (·.spliceStart)

/-- The known splices of a reel (R14). -/
def Reel.knownSplices (r : Reel) : Nat :=
  flaggedSplices r.segments + (match r.running with | some p => p.unrecorded | none => 0)

/-- REG applies a splice at frame `n` of reel `i`, reported by a station (R13). -/
def State.applySplice (s : State) (st : StationId) (i n : Nat) : State :=
  match s.reel? i with
  | none => s
  | some r =>
    match spliceEffect r.segments n with
    | .known => s
    | .boundary map =>
      s.setReel i (some ({ r with segments := map }.updRunning (fun p => { p with boundaries := p.boundaries + 1 })))
    | .full =>
      (s.setReel i (some (r.updRunning (fun p => { p with unrecorded := p.unrecorded + 1 })))).raise .segmentTableFull
        { station := some st, reel := some i, frame := some n }

/-- Append the pass record of a pass that begins (R22, R110). -/
def State.beginPass (s : State) (st : StationId) (i : Nat) : State :=
  s.updReel i (fun r =>
    let profile := ((s.station st).profile).getD .step
    { r with history := r.history ++
        [{ number := r.history.length + 1, station := st, startTime := s.link.clock, profileAtStart := profile,
           lowestProfile := profile, frames := 0, defectTiles := 0, boundaries := 0, unrecorded := 0, tears := 0,
           peak := none, outcome := .running }] })

/-- The order of condition grades, A first (R24). -/
def Grade.rank : Grade → Nat
  | .a => 0
  | .b => 1
  | .c => 2
  | .d => 3
  | .e => 4

/-- The worse of two bands (R24). -/
def Grade.worse (x y : Grade) : Grade := if x.rank < y.rank then y else x

/-- The band of a shrinkage peak (R24). -/
def peakBand : Option Int → Grade
  | none => .a
  | some s => if s < 50 then .a else if s < 100 then .b else if s < 150 then .c else if s < 250 then .d else .e

/-- The band of the known splices (R24). -/
def spliceBand (n : Nat) : Grade :=
  if n < 5 then .a else if n < 15 then .b else if n < 30 then .c else if n < 60 then .d else .e

/-- The band of the tears of the pass; no count gives B (R24). -/
def tearBand (n : Nat) : Grade := if n = 0 then .a else if n = 1 then .c else if n < 4 then .d else .e

/-- The band of the defect density (R24). -/
def densityBand (d : Nat) : Grade :=
  if d < 5 then .a else if d < 20 then .b else if d < 50 then .c else if d < 100 then .d else .e

/-- The condition grade of a completed pass, given the reel's known splices (R24). -/
def gradeOf (p : PassRecord) (splices : Nat) : Grade :=
  ((peakBand p.peak).worse (spliceBand splices)).worse
    ((tearBand p.tears).worse (densityBand (p.defectTiles * 100 / p.frames)))

/-- The record after its RUNNING pass record, if any, has been completed, the condition grade recomputed and the work
order field cleared (R24, R25). -/
def Reel.completePass (r : Reel) (outcome : PassOutcome) : Reel :=
  match r.running with
  | none => { r with order := none }
  | some p =>
    let done := { r.updRunning (fun q => { q with outcome := outcome }) with order := none }
    if p.frames = 0 then done
    else
      let g := gradeOf p r.knownSplices
      { done with
        grade := some g, peak := p.peak
        passLimit := if g == .e then min r.passLimit (r.history.length + 1) else r.passLimit }

/-- The slowest profile a condition grade calls for: what START may use at best (R25, R77). -/
def permittedProfile : Option Grade → Profile
  | some .a => .fast
  | some .b => .fast
  | some .c => .standard
  | some .d => .step
  | some .e => .step
  | none => .standard

/-! ### The keyframe pool (R151) -/

/-- Keyframes in use: the sum of the lengths of all grade lists (R151). -/
def State.keyframesUsed (s : State) : Nat := (s.registered.map (fun x => x.2.keyframes.length)).sum

/-- Keyframes free in the pool (R151). -/
def State.keyframesFree (s : State) : Nat := Config.keyframePool - s.keyframesUsed

end Sys2Proof.Machine
end

