-- ==== Sys2Proof/Machine/Frames.lean ====
section
/-!
DEFINITION. Frame numbers, physical counts and the frames of a work order (Introduction 3.1, R79, R101), and the
geometry and planes of a frame (Introduction 3.3, R117).
-/
namespace Sys2Proof

/-- Samples in one row of a frame (Introduction 3.3). -/
def Gauge.width : Gauge → Nat
  | .g35x4 => 4096
  | .g35x3 => 4096
  | .g16x1 => 2048

/-- Rows of a frame (Introduction 3.3). -/
def Gauge.height : Gauge → Nat
  | .g35x4 => 3072
  | .g35x3 => 2304
  | .g16x1 => 1536

/-- Samples of a frame (Introduction 3.3). -/
def Gauge.samples (g : Gauge) : Nat := g.width * g.height

/-- Tile columns of a frame (Introduction 3.3). -/
def Gauge.tileCols (g : Gauge) : Nat := g.width / 64

/-- Tile rows of a frame (Introduction 3.3). -/
def Gauge.tileRows (g : Gauge) : Nat := g.height / 64

/-- Nominal perforation pitch in half-micrometre counts (Introduction 3.3). -/
def Gauge.pitch : Gauge → Nat
  | .g35x4 => 9500
  | .g35x3 => 9500
  | .g16x1 => 15240

/-- The gauge is among the supported ones (R77). -/
def GaugeSet.has (g : GaugeSet) : Gauge → Bool
  | .g35x4 => g.g35x4
  | .g35x3 => g.g35x3
  | .g16x1 => g.g16x1

/-- Frames of a segment. -/
def Segment.frames (g : Segment) : Nat := g.last + 1 - g.first

/-- The position of a row and a column in a geometry. -/
def Gauge.position (g : Gauge) (row col : Nat) : Nat := row * g.width + col

/-- The tile row of a position. -/
def Gauge.tileRowOf (g : Gauge) (pos : Nat) : Nat := pos / g.width / 64

/-- The tile column of a position. -/
def Gauge.tileColOf (g : Gauge) (pos : Nat) : Nat := pos % g.width / 64

end Sys2Proof

namespace Sys2Proof.Machine

/-! ### Physical counts (R79) -/

/-- G(f): the GAP frame numbers below `f` (R79). -/
def gapsBelow (map : List Segment) (f : Nat) : Nat :=
  (map.map (fun g => if g.kind = .gap then min g.frames (f - g.first) else 0)).sum

/-- The physical count at which a frame is commanded (R79). -/
def countOfFrame (map : List Segment) (f : Nat) : Nat := f - gapsBelow map f

/-- The frame number of physical count `p`: the (p + 1)-th position that is not GAP; none at or beyond the reel's
physical frames (R64, R79). -/
def frameOfCount : List Segment → Nat → Option Nat
  | [], _ => none
  | g :: rest, p =>
    if g.kind = .gap then frameOfCount rest p
    else if p < g.frames then some (g.first + p)
    else frameOfCount rest (p - g.frames)

/-! ### The frames of a work order (R101) -/

/-- The lowest frame at or above `start` and at most `last` in a segment of a chosen kind, or `last + 1`. -/
def nextFrame (map : List Segment) (want : SegmentKind → Bool) (start last : Nat) : Nat :=
  match map with
  | [] => last + 1
  | g :: rest =>
    let lo := max g.first start
    if want g.kind && decide (lo ≤ min g.last last) then lo else nextFrame rest want start last

/-- A capturable frame is a frame of a PICTURE segment (R101). -/
def capturableKind (k : SegmentKind) : Bool := k == .picture

/-- A deliverable position is a frame that is not of a LEADER segment (R101). -/
def deliverableKind (k : SegmentKind) : Bool := k != .leader

/-- The segment map a work order runs over. A loopback work order is one PICTURE segment with repair mode CONCEAL
(R87). -/
def State.mapOf (s : State) (b : OrderBody) : List Segment :=
  match b.reel with
  | some i => ((s.reel? i).map (·.segments)).getD []
  | none => [{ first := 0, last := b.last, kind := .picture, repair := .conceal, grade := .apply, spliceStart := false }]

/-- The lowest capturable frame of a work order at or above `start`, or last + 1 (R101, R110). -/
def State.capturableFrom (s : State) (b : OrderBody) (start : Nat) : Nat :=
  nextFrame (s.mapOf b) capturableKind start b.last

/-- The lowest deliverable position of a work order at or above `start`, or last + 1 (R101, R111). -/
def State.deliverableFrom (s : State) (b : OrderBody) (start : Nat) : Nat :=
  nextFrame (s.mapOf b) deliverableKind start b.last

/-- The gauge of a work order's frames: the reel's, or G35-4 for loopback (R117). -/
def State.gaugeOf (s : State) (b : OrderBody) : Gauge :=
  match b.reel with
  | some i => ((s.reel? i).map (·.gauge)).getD .g35x4
  | none => .g35x4

/-- The target frame of a station: next-capture when no capture is in flight, and else the first capturable frame
after the one in flight; none when there is no such frame (R79). -/
def State.target (s : State) (st : StationId) : Option Nat :=
  match s.openBody? st with
  | none => none
  | some b =>
    let f := match (s.station st).inFlight with
      | none => b.nextCapture
      | some c => s.capturableFrom b (c + 1)
    if f ≤ b.last then some f else none

/-- The frame number a report's physical count stands for on the reel in the station's chamber; none when the report is
to be discarded (R64, R79). -/
def State.frameAt (s : State) (st : StationId) (count : Nat) : Option Nat :=
  match s.reelIn st with
  | none => none
  | some i => match s.reel? i with
    | none => none
    | some r => frameOfCount r.segments count

/-! ### Planes (R117) -/

/-- What an unlisted position reads: black with clear infrared, or in a loopback frame its column in all three channels
(R87). -/
def unlistedSample (gradient : Bool) (pos : Nat) : Sample :=
  if gradient then
    let c := BitVec.ofNat 12 (pos % 4096)
    { colour := { red := c, green := c, blue := c }, ir := 255 }
  else { colour := { red := 0, green := 0, blue := 0 }, ir := 255 }

/-- The entry of a position in a list of samples. -/
def lookupSample : List (Nat × Sample) → Nat → Option Sample
  | [], _ => none
  | (p, v) :: rest, pos => if p = pos then some v else lookupSample rest pos

/-- The sample at a position. -/
def Planes.read (x : Planes) (pos : Nat) : Sample :=
  (lookupSample x.samples pos).getD (unlistedSample x.gradient pos)

/-- Put an entry into a rising list of samples, in place of any entry at its position. -/
def insertSample (pos : Nat) (v : Sample) : List (Nat × Sample) → List (Nat × Sample)
  | [] => [(pos, v)]
  | (p, w) :: rest =>
    if pos < p then (pos, v) :: (p, w) :: rest
    else if pos = p then (pos, v) :: rest
    else (p, w) :: insertSample pos v rest

/-- Take the entry of a position out of a list of samples. -/
def eraseSample (pos : Nat) : List (Nat × Sample) → List (Nat × Sample)
  | [] => []
  | (p, w) :: rest => if p = pos then rest else (p, w) :: eraseSample pos rest

/-- Write the sample at a position. Writing what an unlisted position reads takes the entry out, so that planes that
read alike are equal. -/
def Planes.write (x : Planes) (pos : Nat) (v : Sample) : Planes :=
  if v = unlistedSample x.gradient pos then { x with samples := eraseSample pos x.samples }
  else { x with samples := insertSample pos v x.samples }

/-- Every position of the list lies above a bound, in strictly rising order, and no entry equals what the position
reads unlisted. -/
def samplesCanonical (gradient : Bool) : Option Nat → List (Nat × Sample) → Bool
  | _, [] => true
  | lo, (p, v) :: rest =>
    lo.all (fun b => decide (b < p)) && v != unlistedSample gradient p && samplesCanonical gradient (some p) rest

/-- The canonical form of planes holds. -/
def Planes.wf (x : Planes) : Bool := samplesCanonical x.gradient none x.samples

/-- The planes of a frame captured with the samples given; samples outside the geometry do not exist (R91). -/
def Planes.captured (samples : Nat) (given : List (Nat × Sample)) : Planes :=
  given.foldl (fun x e => if e.1 < samples then x.write e.1 e.2 else x) .blank

/-- A sample of the spot of a pattern frame: code values 4095 and infrared 0 (R87). -/
def spotSample : Sample := { colour := { red := 4095, green := 4095, blue := 4095 }, ir := 0 }

/-- The samples of the spot of pattern frame `k`: 16 × 16 at the top left corner of the tile at row k mod 48 and column
k mod 64 (R87). -/
def spotPositions (k : Nat) : List Nat :=
  (List.range 16).flatMap (fun r =>
    (List.range 16).map (fun c => Gauge.g35x4.position (k % 48 * 64 + r) (k % 64 * 64 + c)))

/-- The planes of pattern frame `k` (R87, R99). -/
def patternPlanes (k : Nat) : Planes :=
  (spotPositions k).foldl (fun x p => x.write p spotSample) { gradient := true, samples := [] }

end Sys2Proof.Machine
end

