-- ==== Sys2Proof/Machine/Grading.lean ====
section
/-!
DEFINITION. The Grade Engine (chapter 8): the parameter set of a frame, the four-stage transfer, and the snapshot taken
at a delivery start.
-/
namespace Sys2Proof.Machine

/-- The identity set (R151). -/
def identitySet : ParamSet :=
  { lift := { red := 0, green := 0, blue := 0 }, gain := { red := 1024, green := 1024, blue := 1024 },
    saturation := 256 }

/-! ### The parameter set of a frame (R156, R157) -/

/-- The interval of a grade list that contains a frame (R156, R166). -/
def intervalAt : List Keyframe → Nat → GradeInterval
  | [], _ => .identity
  | [k], f => if f < k.frame then .identity else .after k
  | k :: k' :: rest, f =>
    if f < k.frame then .identity else if f < k'.frame then .between k k' else intervalAt (k' :: rest) f

/-- One parameter under RAMP, `num` frames into an interval of `den` frames (R157). -/
def rampValue (p q : Int) (num den : Nat) : Int := p + roundAway ((q - p) * num) den

/-- A parameter set under RAMP (R157). -/
def rampSet (p q : ParamSet) (num den : Nat) : ParamSet :=
  let i := fun x y => rampValue x y num den
  let n := fun (x y : Nat) => (rampValue x y num den).toNat
  { lift := { red := i p.lift.red q.lift.red, green := i p.lift.green q.lift.green, blue := i p.lift.blue q.lift.blue }
    gain := { red := n p.gain.red q.gain.red, green := n p.gain.green q.gain.green, blue := n p.gain.blue q.gain.blue }
    saturation := n p.saturation q.saturation }

/-- The parameter set an interval gives at a frame (R156). -/
def setOfInterval (x : GradeInterval) (f : Nat) : ParamSet :=
  match x with
  | .identity => identitySet
  | .after k => k.params
  | .between k k' =>
    match k.transition with
    | .cut => k.params
    | .ramp => rampSet k.params k'.params (f - k.frame) (k'.frame - k.frame)

/-- The parameter set of a frame, from the reel's grade list (R156). -/
def paramSetAt (l : List Keyframe) (f : Nat) : ParamSet := setOfInterval (intervalAt l f) f

/-! ### The transfer (R159, R160) -/

/-- The lift stage of one channel (R159). -/
def liftStage (x : Nat) (l : Int) : Nat := (clampInt 0 4095 (x + l)).toNat

/-- The gain stage of one channel (R159). -/
def gainStage (y g : Nat) : Nat := clampNat 0 4095 ((y * g + 512) / 1024)

/-- The luma stage (R160). -/
def lumaStage (y : Rgb Nat) : Nat := (5 * y.red + 9 * y.green + 2 * y.blue) / 16

/-- The saturation stage of one channel (R160). -/
def saturationStage (y luma sat : Nat) : Nat :=
  (clampInt 0 4095 (luma + roundAway (((y : Int) - luma) * sat) 256)).toNat

/-- The four stages of the transfer for one triple (R159, R160). -/
def transferStages (p : ParamSet) (x : Rgb Nat) : TransferStages :=
  let y1 : Rgb Nat :=
    { red := liftStage x.red p.lift.red, green := liftStage x.green p.lift.green, blue := liftStage x.blue p.lift.blue }
  let y2 : Rgb Nat :=
    { red := gainStage y1.red p.gain.red, green := gainStage y1.green p.gain.green, blue := gainStage y1.blue p.gain.blue }
  let luma := lumaStage y2
  { y1 := y1, y2 := y2, luma := luma
    y3 := { red := saturationStage y2.red luma p.saturation, green := saturationStage y2.green luma p.saturation
            blue := saturationStage y2.blue luma p.saturation } }

/-- The graded code values of one sample (R160, R163). -/
def transfer (p : ParamSet) (x : Rgb CodeValue) : Rgb CodeValue :=
  let y := (transferStages p { red := x.red.toNat, green := x.green.toNat, blue := x.blue.toNat }).y3
  { red := BitVec.ofNat 12 y.red, green := BitVec.ofNat 12 y.green, blue := BitVec.ofNat 12 y.blue }

/-! ### Treatment, snapshot and rendering (R162, R163) -/

/-- The treatment of a frame of a reel, by the kind and the grade mode of its segment (R162, R166). -/
def treatmentOf : SegmentKind → GradeMode → Treatment
  | .leader, _ => .notDelivered
  | .gap, _ => .black
  | .picture, .bypass => .ungraded
  | .picture, .apply => .graded

/-- The snapshot of frame `f` of a station's work order (R162). -/
def State.snapshotOf (s : State) (st : StationId) (b : OrderBody) (f : Nat) : Snapshot :=
  match b.reel with
  | none => { station := st, frame := f, mode := none, treatment := .test, params := none }
  | some i =>
    match s.reel? i with
    | none => { station := st, frame := f, mode := none, treatment := .test, params := none }
    | some r =>
      let mode := ((segmentAt r.segments f).map (·.grade)).getD .apply
      let treatment := treatmentOf (((segmentAt r.segments f).map (·.kind)).getD .picture) mode
      { station := st, frame := f, mode := some mode, treatment := treatment
        params := if treatment == .graded then some (paramSetAt r.keyframes f) else none }

/-- The colour GRE hands on for a sample: graded, unchanged or black (R163). -/
def renderColour (t : Treatment) (p : Option ParamSet) (x : Rgb CodeValue) : Rgb CodeValue :=
  match t, p with
  | .graded, some p => transfer p x
  | .black, _ => { red := 0, green := 0, blue := 0 }
  | _, _ => x

end Sys2Proof.Machine
end

