-- ==== Sys2Proof/Machine/Custody.lean ====
section
/-!
DEFINITION. Custody checking of the reel in a chamber (R68, R70), and the pause a station asks of its work order
(R70, R71, R115).
-/
namespace Sys2Proof.Machine

/-- An ACTIVE work order becomes PAUSED; every other one keeps its state (R115). -/
def State.pauseOrder (s : State) (st : StationId) : State :=
  s.updOrder st (fun w => if w.state = .active then { w with state := .paused } else w)

/-- The custody state the reads held lead to, by the first line of R70 that applies. -/
def judgeCustody (r : Reel) (tag : Option CanTag) (mark : Option HeadMark) : Custody :=
  if tag.any (fun t => t != r.tag) then .mismatch
  else if mark.any (fun m => r.headMark.any (fun h => h != m)) then .mismatch
  else if r.custody = .verified then .verified
  else if tag.isSome && mark.isSome then .verified
  else if r.custody = .reverify ∧ tag.isSome ∧ r.hold = false then .verified
  else if r.custody = .unverified ∧ tag.isSome then .tagOk
  else r.custody

/-- The record after a judgement: on MISMATCH the custody hold is set (R21), and with custody VERIFIED an absent head mark
is stored from the mark read (R20, log entry 14). -/
def Reel.judged (r : Reel) (c : Custody) (mark : Option HeadMark) : Reel :=
  { r with
    custody := c
    hold := r.hold || c == .mismatch
    headMark := if c = .verified ∧ r.headMark.isNone then mark else r.headMark }

/-- What a station does on a change to MISMATCH: a THREADED or BROKEN station enters LOADED, and a THREADED one that
prerolls is first made safe and its ACTIVE work order paused (R70). -/
def State.stationMismatch (s : State) (st : StationId) : State :=
  let t := s.station st
  if t.state = .threaded ∧ t.motion = .prerolling then
    ((s.toStation st .safe).updStation st (fun t => { t with state := .loaded, motion := .stopped })).pauseOrder st
  else if t.state = .threaded ∨ t.state = .broken then s.updStation st (fun t => { t with state := .loaded })
  else s

/-- What a station does on a change to VERIFIED: LOADED or BROKEN with the threaded flag set becomes THREADED (R70). -/
def State.stationVerified (s : State) (st : StationId) : State :=
  s.updStation st (fun t =>
    if (t.state = .loaded ∨ t.state = .broken) ∧ t.threaded = true then { t with state := .threaded } else t)

/-- Evaluate the custody of the registered reel in a station's chamber from the reads held (R70). -/
def State.evaluateCustody (s : State) (st : StationId) : State :=
  match s.reelIn st with
  | none => s
  | some i =>
    match s.reel? i with
    | none => s
    | some r =>
      let t := s.station st
      if r.custody = .none ∨ r.custody = .mismatch then s
      else
        let c := judgeCustody r t.tagRead t.markRead
        let s' := s.setReel i (some (r.judged c t.markRead))
        if c = .mismatch then
          (s'.raise .custodyMismatch { station := some st, reel := some i }).stationMismatch st
        else if c = .verified ∧ r.custody ≠ .verified then s'.stationVerified st
        else s'

/-- A station to which the lift has brought a can: the reservation ends, and an EMPTY station enters LOADED with the
threaded flag clear (R68). -/
def Station.withCan (t : Station) : Station :=
  if t.state = .empty then { t with reservation := .none, state := .loaded, threaded := false }
  else { t with reservation := .none }

/-- The lift has brought a can into a station's chamber, and the reads held are evaluated, in whatever state the station
takes the arrival (R68, R70, log entry 77). -/
def State.canArrived (s : State) (st : StationId) : State := (s.updStation st (·.withCan)).evaluateCustody st

end Sys2Proof.Machine
end

