-- ==== Sys2Proof/Machine/Lift.lean ====
section
/-!
DEFINITION. The Stack Controller's own operations (chapter 2): dwell and announcement, the lift arbiter, starting and
completing a move, halting, and `settle`, which applies what chapter 2 says holds whenever its condition holds.
-/
namespace Sys2Proof.Machine

/-! ### Dwell (R32 to R34, R41) -/

/-- The dwell set for a came-from zone; WARM has none and waits nothing (R33). -/
def DwellSettings.of (d : DwellSettings) : Zone → Nat
  | .n => d.n
  | .a => d.a
  | .q => d.q
  | .p => d.p
  | .warm => 0

/-- The required dwell of a reel at staging (R33). -/
def State.requiredDwell (s : State) (r : Reel) : Nat := s.retained.dwell.of r.cameFrom

/-- The dwell counter of a staging position; 0 where there is none. -/
def State.dwellAt (s : State) (p : Nat) : Nat := ((s.position? p).map (·.dwell)).getD 0

/-- The state the condition of R41 gives a MOUNT record that has not started. -/
def State.mountState (s : State) (m : MoveRecord) : MoveState :=
  match m.source, m.reel.bind s.reel? with
  | .staging p, some r => if s.requiredDwell r ≤ s.dwellAt p then .queued else .dwellWait
  | _, _ => m.state

/-- A MOUNT record moves between QUEUED and DWELL-WAIT as the condition changes (R41). -/
def State.followDwell (s : State) : State :=
  { s with stk := { s.stk with queue := s.stk.queue.map (fun m =>
      if m.kind = .mount ∧ (m.state = .queued ∨ m.state = .dwellWait) then { m with state := s.mountState m } else m) } }

/-- Announce one position: OCCUPIED, mark clear, dwell counter at or above the required dwell of its reel (R34). -/
def State.announce (s : State) (p : Nat) : State :=
  match s.position? p, s.reelAt (.staging p) with
  | some x, some i =>
    match s.reel? i with
    | none => s
    | some r =>
      if x.state = .occupied ∧ x.announced = false ∧ s.requiredDwell r ≤ x.dwell then
        (s.updPosition p (fun x => { x with announced := true })).raise .acclimatized { reel := some i }
      else s
  | _, _ => s

/-- Announce every position whose condition holds (R34), in ascending position where one event makes several due
(log entry 52). -/
def State.announceAll (s : State) : State := (List.range 8).foldl State.announce s

/-! ### Placing and taking cans (R31, R32) -/

/-- A can is placed at a position: counter 0 and mark clear (R32, R34). -/
def Staging.placed (state : StagingState) : Staging := { state := state, dwell := 0, announced := false }

/-- A position that no longer holds a can, or is held for a move: counter 0 (R31, R32). -/
def Staging.vacated (x : Staging) (state : StagingState) : Staging := { x with state := state, dwell := 0 }

/-- Make a staging position RESERVED when the location is one (R46). -/
def State.reservePlace (s : State) (l : Location) : State :=
  match l with
  | .staging p => s.updPosition p (·.vacated .reserved)
  | _ => s

/-! ### The arbiter (R44 to R46) -/

/-- The lowest-numbered EMPTY staging position (R45). -/
def State.emptyPosition (s : State) : Option Nat :=
  s.stk.positions.toList.findIdx? (fun x => x.state == .empty)

/-- What resolving a destination gives (R45). -/
inductive Resolved where
  | at (l : Location)
  | waits
  | zoneFull
  deriving DecidableEq, Repr

/-- A record's destination, resolved when it is considered for starting (R45). -/
def State.resolve (s : State) (m : MoveRecord) : Resolved :=
  let staging := match s.emptyPosition with
    | some p => Resolved.at (.staging p)
    | none => .waits
  match m.kind with
  | .fetch => staging
  | .unmount => staging
  | .mount => match m.station with
    | some st =>
      if (s.station st).state = .empty ∧ (s.reelIn st).isNone then .at (.chamber st.val) else .waits
    | none => .waits
  | .reshelve => match m.reel.bind s.reel? with
    | none => .waits
    | some r => match r.home with
      | some c => .at (.cell c)
      | none => match s.lowestFree r.cls with
        | some c => .at (.cell c)
        | none => .zoneFull

/-- A record's source holds its reel: the reel is located at the source; for an UNMOUNT the station is LOADED without a work
order, wherever its reel is recorded (R44, log entry 23). -/
def State.sourceHolds (s : State) (m : MoveRecord) : Bool :=
  match m.kind with
  | .unmount => m.station.any (fun st => (s.station st).state == .loaded && !s.hasOrder st)
  | _ => (m.reel.bind s.reel?).any (fun r => r.location == m.source)

/-- The move counter after a move has taken its number: 1 to 255, wrapping from 255 to 1 (R43). -/
def nextMoveNumber (n : Nat) : Nat := if n < 255 then n + 1 else 1

/-- The record of a move that starts (R46). -/
def MoveRecord.started (m : MoveRecord) (number : Nat) (dest : Location) : MoveRecord :=
  { m with destination := some dest, number := some number, target := some .destination, state := .moving }

/-- Tell a station of the move that touches its chamber, at the move's start (R46, R68). -/
def State.tellStart (s : State) (m : MoveRecord) : State :=
  match m.kind, m.station with
  | .mount, some st => s.updStation st (fun t => { t with reservation := .incoming })
  | .unmount, some st =>
    s.updStation st (fun t =>
      { t with reservation := .outgoing, state := .empty, threaded := false, tagRead := none, markRead := none })
  | _, _ => s

/-- The can of a move is taken onto the carriage: the reel's location and the carriage are recorded, and a RESHELVE
without a home cell takes the cell chosen (R46). -/
def State.takeLoad (s : State) (m : MoveRecord) (dest : Location) : State :=
  match m.reel with
  | none => { s with stk := { s.stk with carriage := .unidentified } }
  | some i =>
    let s' := s.updReel i (fun r =>
      { r.moved .carriage with
        home := match m.kind, r.home, dest with
          | .reshelve, none, .cell c => some c
          | _, h, _ => h })
    { s' with stk := { s'.stk with carriage := .reel i } }

/-- Start a record with a resolved destination (R46). `before` and `after` are the records around it in the queue. -/
def State.startMove (s : State) (before after : List MoveRecord) (m : MoveRecord) (dest : Location) : State :=
  let number := s.stk.counter
  let s := { s with stk := { s.stk with
    queue := before ++ m.started number dest :: after, counter := nextMoveNumber number, lift := .moving,
    cause := none, timer := some Config.moveSeconds } }
  let s := ((s.reservePlace m.source).reservePlace dest).tellStart m
  (s.takeLoad m dest).toLift (.carry number m.source dest)

/-- The arbiter goes through the queue from the oldest record on, starting the first that can start (R44). A RESHELVE
that finds its zone full is removed on the way and ZONE FULL is raised (R45). -/
def State.arbitrate (s : State) (before : List MoveRecord) : List MoveRecord → State
  | [] => { s with stk := { s.stk with queue := before } }
  | m :: rest =>
    if m.state = .queued ∧ s.sourceHolds m = true then
      match s.resolve m with
      | .at dest => s.startMove before rest m dest
      | .waits => s.arbitrate (before ++ [m]) rest
      | .zoneFull => (s.raise .zoneFull { reel := m.reel }).arbitrate before rest
    else s.arbitrate (before ++ [m]) rest

/-- While the lift is IDLE the arbiter considers the queue (R44). -/
def State.liftArbiter (s : State) : State := if s.stk.lift = .idle then s.arbitrate [] s.stk.queue else s

/-- What chapter 2 says holds whenever its condition holds: the states of waiting MOUNT records (R41), announcements
(R34) and the arbiter (R44), in that order (DEDUCED, log entry 16: ACCLIMATIZED is raised before the arbiter's ZONE FULL
where one arrival causes both, R47). Every event and every request ends with it. -/
def State.settle (s : State) : State := s.followDwell.announceAll.liftArbiter

/-! ### Ends of a move (R47, R50, R51) -/

/-- The record that is the lift's move: MOVING or HALTED (R36). -/
def MoveRecord.isMove (m : MoveRecord) : Bool := m.state == .moving || m.state == .halted

/-- The lift's move (R36). -/
def State.move? (s : State) : Option MoveRecord := s.stk.queue.find? (·.isMove)

/-- Change the record of the lift's move. -/
def State.updMove (s : State) (f : MoveRecord → MoveRecord) : State :=
  { s with stk := { s.stk with queue := s.stk.queue.map (fun m => if m.isMove then f m else m) } }

/-- Free a staging position held for a move that ends elsewhere (R31). -/
def State.freePlace (s : State) (l : Location) : State :=
  match l with
  | .staging p => s.updPosition p (·.vacated .empty)
  | _ => s

/-- Place a can at a staging position at the end of a move (R32). -/
def State.placeAt (s : State) (l : Location) (state : StagingState) : State :=
  match l with
  | .staging p => s.updPosition p (fun _ => .placed state)
  | _ => s

/-- The came-from zone of a reel that has left a place for staging (R47). -/
def cameFromOf (l : Location) (kept : Zone) : Zone :=
  match l with
  | .cell c => (zoneOfCell c).zone
  | .chamber _ => .warm
  | _ => kept

/-- End the reservation of a move's chamber (R47, R50, R68). -/
def State.endReservation (s : State) (m : MoveRecord) : State :=
  match m.station with
  | some st => s.updStation st (fun t => { t with reservation := .none })
  | none => s

/-- The effects of a move's end at its destination (R47). -/
def State.endAtDestination (s : State) (m : MoveRecord) (dest : Location) : State :=
  match m.kind, m.reel with
  | .fetch, some i =>
    (s.updReel i (fun r => { r.moved dest with cameFrom := cameFromOf m.source r.cameFrom })).placeAt dest .occupied
  | .fetch, none => s.placeAt dest .unidentified
  | .mount, r =>
    let s := s.freePlace m.source
    match m.station with
    | none => s
    | some st => (match r with
      | some i => s.enterChamber i st
      | none => s).canArrived st
  | .unmount, some i =>
    ((s.updReel i (fun r => { r.moved dest with cameFrom := .warm })).placeAt dest .occupied).endReservation m
  | .unmount, none => (s.placeAt dest .unidentified).endReservation m
  | .reshelve, some i => (s.moveReel i dest).freePlace m.source
  | .reshelve, none => s.freePlace m.source

/-- The effects of a move's end at its source (R50). -/
def State.endAtSource (s : State) (m : MoveRecord) (dest : Location) : State :=
  match m.kind, m.reel with
  | .fetch, some i => (s.moveReel i m.source).freePlace dest
  | .fetch, none => s.freePlace dest
  | .mount, some i => ((s.moveReel i m.source).placeAt m.source .occupied).endReservation m
  | .mount, none => (s.placeAt m.source .unidentified).endReservation m
  | .unmount, r =>
    let s := s.freePlace dest
    match m.station with
    | none => s
    | some st => (match r with
      | some i => s.enterChamber i st
      | none => s).canArrived st
  | .reshelve, some i => (s.moveReel i m.source).placeAt m.source .occupied
  | .reshelve, none => s.placeAt m.source .unidentified

/-- The move ends at its commanded target: the places are settled, the carriage becomes EMPTY, the timer stops, the
record leaves the queue, MOVE DONE is raised and the lift becomes IDLE (R47, R50). -/
def State.completeMove (s : State) (m : MoveRecord) : State :=
  let dest := m.destination.getD .unknown
  let s := if m.target = some .source then s.endAtSource m dest else s.endAtDestination m dest
  let s := { s with stk := { s.stk with
    queue := s.stk.queue.filter (fun x => !x.isMove), carriage := .empty, timer := none, lift := .idle,
    cause := none } }
  s.raise .moveDone { station := m.station, reel := m.reel }

/-! ### Halts (R48) -/

/-- The reel recorded on the carriage. -/
def Carriage.reel? : Carriage → Option Nat
  | .reel r => some r
  | _ => none

/-- LIFT HALTED names the carried reel of a halted move, save at a STOP LIFT, whose rule names nothing (R48, R58, R59,
R183). -/
def HaltCause.names (c : HaltCause) (x : Carriage) : Names :=
  match c with
  | .stop => {}
  | _ => { reel := x.reel? }

/-- The lift becomes HALTED with its move kept, and LIFT HALTED is raised (R48). -/
def State.haltMove (s : State) (c : HaltCause) : State :=
  let s := s.updMove (fun m => { m with state := .halted, cause := some c })
  let s := { s with stk := { s.stk with lift := .halted, cause := some c, timer := none } }
  s.raise .liftHalted (c.names s.stk.carriage)

/-- The lift becomes HALTED without a move record (R48, R58). -/
def State.haltIdle (s : State) (c : HaltCause) : State :=
  ({ s with stk := { s.stk with lift := .halted, cause := some c } } : State).raise .liftHalted {}

/-- The halted move goes on toward one of its ends: REDIRECT is sent and the timer restarts (R49, R50). -/
def State.redirect (s : State) (m : MoveRecord) (target : MoveTarget) : State :=
  let place := if target = .source then m.source else m.destination.getD .unknown
  let s := s.updMove (fun m => { m with state := .moving, target := some target, cause := none })
  let s := { s with stk := { s.stk with lift := .moving, cause := none, timer := some Config.moveSeconds } }
  s.toLift (.redirect (m.number.getD 0) place)

/-- The forwarded command in progress ends (R53, R56). -/
def State.endForwarded (s : State) : State := { s with stk := { s.stk with forwarded := none } }

/-- Record what the carriage carries. -/
def State.setCarriage (s : State) (c : Carriage) : State := { s with stk := { s.stk with carriage := c } }

/-- A registered reel recorded on the carriage becomes UNKNOWN (R54, R58). -/
def State.loseCarried (s : State) : State :=
  match s.stk.carriage with
  | .reel i => s.loseReel i
  | _ => s

/-- The lift becomes IDLE. -/
def State.liftIdle (s : State) : State := { s with stk := { s.stk with lift := .idle, cause := none } }

end Sys2Proof.Machine
end

