-- ==== Sys2Proof/Machine/Capture.lean ====
section
/-!
DEFINITION. Captures and lanes: beginning a capture (R80, R91, R119), prerolls and recovery (R79, R82), the loopback
pattern source (R87), granting and releasing lanes (chapter 4), and stopping a station (R83).
-/
namespace Sys2Proof.Machine

/-! ### Slots -/

/-- A slot that becomes FREE: every field but the state is cleared, and the samples stay in the area, unread (R117). -/
def Slot.cleared (x : Slot) : Slot := { Slot.free with planes := x.planes }

/-! ### Beginning a capture -/

/-- Capture can begin: the station holds a lane, the lane carries no capture, and a slot is FREE (R80). -/
def State.canCapture (s : State) (st : StationId) : Bool :=
  match s.laneOf st with
  | some l => (s.lane l).carriage.isNone && s.freeSlot.isSome
  | none => false

/-- At a work order's first capture the pass begins and REG appends the pass record; a loopback work order begins none
(R110). -/
def State.beginPassIfFirst (s : State) (st : StationId) : State :=
  match (s.openBody? st).bind (·.reel) with
  | none => s
  | some i =>
    if (s.order st).passBegun then s
    else (s.updOrder st (fun w => { w with passBegun := true })).beginPass st i

/-- Begin the capture of frame `f`: the lowest FREE slot becomes FILLING, the lane carries the capture, and the pass
begins at the work order's first capture (R80, R91, R110, R119). -/
def State.beginCapture (s : State) (st : StationId) (f : Nat) : State :=
  match s.laneOf st, s.freeSlot with
  | some l, some k =>
    let test := ((s.openBody? st).map (fun b => b.reel.isNone)).getD false
    let s := s.updSlot k (fun x =>
      { x.cleared with state := .filling, order := some st, frame := some f, flags := { SlotFlags.clear with test := test } })
    let s := s.setLane l { s.lane l with carriage := some { station := st, frame := f, slot := k } }
    (s.updStation st (fun t => { t with inFlight := some f })).beginPassIfFirst st
  | _, _ => s

/-! ### Prerolls, fallback and starvation (R78, R79, R82) -/

/-- The transport runs at STEP; without a current profile it is continuous (R77). -/
def Station.isStep (t : Station) : Bool := t.profile == some .step

/-- Send PREROLL for the target frame at the current profile, set motion PREROLLING and clear the filter state; nothing
without a target (R79). -/
def State.preroll (s : State) (st : StationId) : State :=
  match s.target st, s.openBody? st with
  | some f, some b =>
    (s.toStation st (.preroll (countOfFrame (s.mapOf b) f) (((s.station st).profile).getD (s.order st).requested))).updStation st
      (fun t => { t with motion := .prerolling, filter := .clear })
  | _, _ => s

/-- Fallback pending takes effect: it becomes the current profile, REG records it as the lowest profile reached, and
PROFILE FALLBACK is raised with the frame to be captured next (R78). -/
def State.takeFallback (s : State) (st : StationId) : State :=
  match (s.station st).fallback with
  | none => s
  | some p =>
    let s := s.updStation st (fun t => { t with profile := some p, fallback := none })
    let s := match s.reelIn st with
      | some i => s.updRunning i (fun r => { r with lowestProfile := p })
      | none => s
    s.raise .profileFallback { station := some st, reel := s.reelIn st, frame := s.target st }

/-- The pattern source offers frame next-capture: its capture begins, or the source waits and STATION STARVED is raised.
The interval restarts at each offer (R87). -/
def State.offerFrame (s : State) (st : StationId) : State :=
  match s.target st with
  | none => s
  | some f =>
    if s.canCapture st then
      (s.updSource (fun p => { p with state := .feeding, intervalOver := false })).beginCapture st f
    else
      (s.updSource (fun p => { p with state := .waiting, intervalOver := false })).raise .stationStarved
        { station := some st, frame := some f }

/-- The pattern source may feed: it is assigned to the station, which is LOOPBACK with an ACTIVE work order and no stop
pending (R87). -/
def State.mayFeed (s : State) (st : StationId) : Bool :=
  (s.station st).state == .loopback && s.lanes.source.assigned == some st && (s.order st).state == .active
    && (s.station st).stopPending == .none

/-- The recovery test of a STARVED station, or of a pattern source that waits (R82, R87). -/
def State.recover (s : State) (st : StationId) : State :=
  let t := s.station st
  if s.canCapture st = false ∨ t.stopPending ≠ .none then s
  else if t.state = .starved then
    match s.target st with
    | none => s
    | some f =>
      if t.isStep then
        if t.lastGate = some f then (s.beginCapture st f).updStation st (fun t => { t with state := .running })
        else s.preroll st
      else (s.takeFallback st).preroll st
  else if s.mayFeed st = true ∧ s.lanes.source.state = .waiting then s.offerFrame st
  else s

/-- FSC tells the starved stations, in ascending station number, that a slot is FREE (R126). -/
def State.offerSlots (s : State) : State := ([0, 1, 2, 3] : List StationId).foldl State.recover s

/-! ### Granting lanes (R89, R90, R93) -/

/-- A release pending TENURE is withdrawn. -/
def Lane.unmark (l : Lane) : Lane :=
  { l with hold := l.hold.map (fun h => if h.release = .tenure then { h with release := .none } else h) }

/-- When the wait list has become empty, TENURE releases that are pending are withdrawn (R93, R97). -/
def State.withdrawMarks (s : State) : State :=
  if s.lanes.waitList.isEmpty then
    { s with lanes := { s.lanes with laneA := s.lanes.laneA.unmark, laneB := s.lanes.laneB.unmark } }
  else s

/-- The FREE lane to grant first: A before B (R90). -/
def State.freeLane (s : State) : Option LaneId :=
  if s.lanes.laneA.hold.isNone then some .a else if s.lanes.laneB.hold.isNone then some .b else none

/-- Grant a FREE lane to the head of the wait list, when there are both; the station is told and, when STARVED, tests for
recovery (R90). -/
def State.grantLane (s : State) : State :=
  match s.freeLane, s.lanes.waitList with
  | some l, st :: rest =>
    let s := s.setLane l { hold := some { station := st, tenure := (s.station st).tenure, release := .none }
                           carriage := none }
    let s := { s with lanes := { s.lanes with waitList := rest } }
    s.withdrawMarks.recover st
  | _, _ => s

/-- The arbiter grants while a lane is FREE and a station waits: at most two lanes (R90). -/
def State.grantLanes (s : State) : State := s.grantLane.grantLane

/-- The station needs a lane (R89). -/
def State.needsLane (s : State) (st : StationId) : Bool :=
  let t := s.station st
  let runs := t.state == .running || t.state == .starved
    || (t.state == .loopback && s.lanes.source.assigned == some st && s.lanes.source.state != .idle)
  runs && t.stopPending == .none && (s.laneOf st).isNone

/-- The lane is HELD with an expired tenure and no release pending (R93). -/
def Lane.expired (l : Lane) : Bool := l.hold.any (fun h => h.tenure == 0 && h.release == .none)

/-- Release pending becomes TENURE on a lane. -/
def Lane.mark (l : Lane) : Lane := { l with hold := l.hold.map (fun h => { h with release := .tenure }) }

/-- A station that joins the wait list marks one lane with an expired tenure, A before B (R93). -/
def State.markExpired (s : State) : State :=
  if s.lanes.laneA.expired then { s with lanes := { s.lanes with laneA := s.lanes.laneA.mark } }
  else if s.lanes.laneB.expired then { s with lanes := { s.lanes with laneB := s.lanes.laneB.mark } }
  else s

/-- A station that needs a lane and is not on the wait list joins it at the tail, and the arbiter is tested (R89, R90,
R93). -/
def State.joinWaitList (s : State) (st : StationId) : State :=
  if s.needsLane st = true ∧ st ∉ s.lanes.waitList then
    ({ s with lanes := { s.lanes with waitList := s.lanes.waitList ++ [st] } } : State).markExpired.grantLanes
  else s

/-- The station leaves the wait list; the later entries keep their order (R89, R97). -/
def State.leaveWaitList (s : State) (st : StationId) : State :=
  ({ s with lanes := { s.lanes with waitList := s.lanes.waitList.filter (· != st) } } : State).withdrawMarks

/-- A lane becomes FREE and is granted to the head of the wait list (R94). -/
def State.releaseLane (s : State) (l : LaneId) : State := (s.setLane l .free).grantLanes

/-- A station that leaves RUNNING and STARVED gives up its wait list entry and its lane (R96). -/
def State.leaveLanes (s : State) (st : StationId) : State :=
  let s := s.leaveWaitList st
  match s.laneOf st with
  | some l => s.releaseLane l
  | none => s

/-! ### Abandoning a capture (R96) -/

/-- The lane a station holds carries a capture (R91). -/
def State.capturing (s : State) (st : StationId) : Bool := (s.laneOf st).any (fun l => (s.lane l).carriage.isSome)

/-- A capture in flight is abandoned: the lane carries nothing, the FILLING slot is freed and the capture in flight is
absent. The slot is not yet offered. -/
def State.abandonQuietly (s : State) (st : StationId) : State :=
  let s' := match s.laneOf st with
    | none => s
    | some l => match (s.lane l).carriage with
      | none => s
      | some c => (s.setLane l { s.lane l with carriage := none }).updSlot c.slot (·.cleared)
  s'.updStation st (fun t => { t with inFlight := none })

/-- A capture in flight is abandoned and its slot is offered to starved stations (R96, R126). -/
def State.abandon (s : State) (st : StationId) : State :=
  if (s.station st).inFlight.isSome then (s.abandonQuietly st).offerSlots else s

/-! ### Stopping a station (R83, R87) -/

/-- The stop pending a paused or draining work order asks for can be taken in this state (R83). -/
def Station.takesStop (t : Station) : Bool :=
  t.state == .running || t.state == .starved || t.state == .loopback
    || ((t.state == .threaded || t.state == .halted) && t.motion == .prerolling)

/-- Stop pending is set, a continuous transport under drive is sent RAMP DOWN, and the station leaves the wait list
(R83, R89). -/
def State.markStop (s : State) (st : StationId) (p : StopPending) : State :=
  let t := s.station st
  if t.takesStop = false then s
  else
    let s := s.updStation st (fun t => { t with stopPending := p })
    let s := if t.state ≠ .loopback ∧ t.isStep = false ∧ (t.motion = .prerolling ∨ t.motion = .atSpeed) then
        (s.toStation st .rampDown).updStation st (fun t => { t with motion := .ramping })
      else s
    s.leaveWaitList st

/-- The pattern source becomes FEEDING: the station joins the wait list, and frame next-capture is offered (R87, R89). -/
def State.feed (s : State) (st : StationId) : State :=
  let s := (s.updSource (fun p => { p with state := .feeding })).joinWaitList st
  if s.mayFeed st then s.offerFrame st else s

/-- With a stop pending and no capture in flight the station enters HALTED, or the pattern source becomes IDLE, and the
lane is released (R83, R87). A source whose work order a START has made ACTIVE meanwhile feeds again, since no stop is
pending any more (R87, log entry 21). -/
def State.haltIfDone (s : State) (st : StationId) : State :=
  let t := s.station st
  let stays := t.state != .running && t.state != .starved && t.state != .threaded && t.state != .halted
    && t.state != .loopback
  if t.stopPending = .none ∨ t.inFlight.isSome = true ∨ stays = true then s
  else if t.state = .loopback then
    let s := ((s.updStation st (fun t => { t with stopPending := .none })).updSource
      (fun p => if p.assigned = some st then { p with state := .idle } else p)).leaveLanes st
    if (s.order st).state = .active ∧ s.lanes.source.assigned = some st then s.feed st else s
  else
    (s.updStation st (fun t => { t with state := .halted, stopPending := .none, motion := .stopped })).leaveLanes st

/-- The station takes a stop pending, and halts at once when no capture is in flight (R83). -/
def State.giveStop (s : State) (st : StationId) (p : StopPending) : State :=
  if (s.station st).takesStop then (s.markStop st p).haltIfDone st else s

/-- The target frame is at the gate and capture cannot begin: the station enters STARVED (R82). -/
def State.starve (s : State) (st : StationId) (f : Nat) : State :=
  let t := s.station st
  let s := s.updStation st (fun t => { t with state := .starved })
  let s := if t.isStep then s
    else (s.toStation st .rampDown).updStation st (fun t => { t with motion := .ramping })
  (s.raise .stationStarved { station := some st, reel := s.reelIn st, frame := some f }).joinWaitList st

end Sys2Proof.Machine
end

