-- ==== Sys2Proof/Machine/Detect.lean ====
section
/-!
DEFINITION. What one analysis does (chapter 7): candidate samples, tile records, the completed defect list and
concealment, as a function of the frame, its neighbours and the copied settings.
-/
namespace Sys2Proof

/-- The detection value d of a sample (R136). -/
def Sample.detection (x : Sample) : Nat := (x.colour.red.toNat + 2 * x.colour.green.toNat + x.colour.blue.toNat) / 4

/-- Samples in a span: 4096 for each tile (R140). -/
def TileSpan.samples (t : TileSpan) : Nat := 4096 * (t.lastCol + 1 - t.firstCol)

/-- A tile lies in a span. -/
def TileSpan.hasTile (t : TileSpan) (row col : Nat) : Bool :=
  t.row == row && decide (t.firstCol ≤ col) && decide (col ≤ t.lastCol)

/-- A position lies in a span. -/
def TileSpan.hasPos (t : TileSpan) (g : Gauge) (pos : Nat) : Bool := t.hasTile (g.tileRowOf pos) (g.tileColOf pos)

/-- The positions of a span, row by row. -/
def TileSpan.positions (t : TileSpan) (g : Gauge) : List Nat :=
  (List.range 64).flatMap (fun r =>
    (List.range (64 * (t.lastCol + 1 - t.firstCol))).map (fun c =>
      g.position (t.row * 64 + r) (t.firstCol * 64 + c)))

end Sys2Proof

namespace Sys2Proof.Machine

/-- What the Repair Engine reads for one analysis (R123, R132). -/
structure Exam where
  gauge : Gauge
  detector : DetectorMode
  mode : RepairMode
  settings : Detector
  planes : Planes
  before : Option Planes
  after : Option Planes
  gathered : List Defect

/-! ### Candidate samples (R135, R136) -/

/-- The TEMPORAL test of a sample against its neighbours (R136). -/
def temporalCandidate (t d : Nat) : Option Nat → Option Nat → Bool
  | some p, some n => decide (t < absDiff d ((p + n) / 2)) && decide (absDiff p n ≤ t / 2)
  | some p, none => decide (t < absDiff d p)
  | none, some n => decide (t < absDiff d n)
  | none, none => false

/-- The detector judges the sample at a position damaged (R134 to R136). -/
def Exam.candidate (e : Exam) (pos : Nat) : Bool :=
  match e.mode, e.detector with
  | .none, _ => false
  | _, .ir => decide ((e.planes.read pos).ir.toNat < e.settings.ithr)
  | _, .temporal =>
    temporalCandidate e.settings.t (e.planes.read pos).detection
      (e.before.map (fun x => (x.read pos).detection)) (e.after.map (fun x => (x.read pos).detection))

/-- Put a number into a rising list without repeats. -/
def insertPos (p : Nat) : List Nat → List Nat
  | [] => [p]
  | q :: rest => if p < q then p :: q :: rest else if p = q then q :: rest else q :: insertPos p rest

/-- The positions of the geometry at which the frame or a present neighbour lists a sample, in rising order. At every
other position all three read as unlisted, and no sample there is a candidate (`Exam.mem_candidates`). -/
def Exam.touched (e : Exam) : List Nat :=
  let keys := fun (x : Option Planes) => ((x.map (·.samples)).getD []).map (·.1)
  let all := keys (some e.planes) ++ keys e.before ++ keys e.after
  (all.filter (fun p => decide (p < e.gauge.samples))).foldr insertPos []

/-- The candidate samples of the frame, in rising order of position (R135, R136). -/
def Exam.candidates (e : Exam) : List Nat := e.touched.filter e.candidate

/-- The frame is flagged UNCHECKED: TEMPORAL mode, under CONCEAL or MARK, with neither neighbour (R136). -/
def Exam.unchecked (e : Exam) : Bool :=
  e.detector == .temporal && e.mode != .none && e.before.isNone && e.after.isNone

/-! ### Tiles and tile records (R137, R138) -/

/-- What a tile is classified as (R137). -/
inductive TileClass where
  | clean | spot | blotch | motion
  deriving DecidableEq, Repr

/-- The class of a tile with `c` candidates (R137). -/
def tileClass (m : DetectorMode) (d : Detector) (c : Nat) : TileClass :=
  if c < d.nmin then .clean
  else if c ≤ d.nmax then .spot
  else match m with
    | .ir => .blotch
    | .temporal => .motion

/-- The kind of record a tile of a class goes into (R137). -/
def TileClass.kind? : TileClass → Option DefectKind
  | .spot => some .spot
  | .blotch => some .blotch
  | _ => none

/-- A run of adjacent tiles of one kind that is still open. -/
structure OpenRun where
  kind : DefectKind
  first : Nat
  last : Nat
  count : Nat

/-- The record a run becomes. Its outcome is set at concealment (R138, R145). -/
def OpenRun.record (r : OpenRun) (row : Nat) : Defect :=
  { kind := r.kind, span := some { row := row, firstCol := r.first, lastCol := r.last }, count := r.count,
    outcome := .marked }

/-- Merge the tiles of one row, from column `col` on, into records (R138). -/
def mergeRow (row : Nat) (col : Nat) (run : Option OpenRun) : List (TileClass × Nat) → List Defect
  | [] => (run.map (·.record row)).toList
  | (cls, c) :: rest =>
    match cls.kind?, run with
    | none, r => (r.map (·.record row)).toList ++ mergeRow row (col + 1) none rest
    | some k, none => mergeRow row (col + 1) (some { kind := k, first := col, last := col, count := c }) rest
    | some k, some r =>
      if k = r.kind then mergeRow row (col + 1) (some { r with last := col, count := r.count + c }) rest
      else r.record row :: mergeRow row (col + 1) (some { kind := k, first := col, last := col, count := c }) rest

/-- The tiles of one row with their classes and counts (R137). -/
def Exam.tilesOfRow (e : Exam) (candidates : List Nat) (row : Nat) : List (TileClass × Nat) :=
  let here := candidates.filter (fun p => e.gauge.tileRowOf p == row)
  (List.range e.gauge.tileCols).map (fun col =>
    let c := here.countP (fun p => e.gauge.tileColOf p == col)
    (tileClass e.detector e.settings c, c))

/-- The tile records of the frame in row-major order; none are made under NONE (R134, R138). -/
def Exam.tileRecords (e : Exam) : List Defect :=
  match e.mode with
  | .none => []
  | _ =>
    if e.unchecked then []
    else
      let cs := e.candidates
      (List.range e.gauge.tileRows).flatMap (fun row => mergeRow row 0 none (e.tilesOfRow cs row))

/-! ### The completed list (R139, R140) -/

/-- A sensor record (R128). -/
def Defect.isSensor (d : Defect) : Bool := d.kind == .splice || d.kind == .tear

/-- A host record (R128). -/
def Defect.isHost (d : Defect) : Bool := d.kind == .host

/-- The room the records gathered before repair leave for tile records (R139). -/
def Exam.room (e : Exam) : Nat := Config.defectLimit - e.gathered.length

/-- The tile records stored (R139). -/
def Exam.stored (e : Exam) : List Defect := e.tileRecords.take e.room

/-- Some tile record is dropped (R139). -/
def Exam.dropped (e : Exam) : Bool := decide (e.room < e.tileRecords.length)

/-- A host record settled by the repair mode (R140). -/
def Exam.settleHost (e : Exam) (d : Defect) : Defect :=
  match e.mode with
  | .none => d
  | _ => { d with count := ((d.span.map TileSpan.samples).getD 0) }

/-- The sensor records gathered, in order. -/
def Exam.sensors (e : Exam) : List Defect := e.gathered.filter (·.isSensor)

/-- The host records gathered, in order, settled. -/
def Exam.hosts (e : Exam) : List Defect := (e.gathered.filter (·.isHost)).map e.settleHost

/-- The completed list before outcomes: tile records, sensor records, host records (R139). -/
def Exam.list (e : Exam) : List Defect := e.stored ++ e.sensors ++ e.hosts

/-! ### Concealment (R141 to R145) -/

/-- The targets of one record of the completed list (R141). A SPOT record's are the samples the detector judged damaged; a
sample that only a HOST span makes a candidate (R140) is no target of the SPOT record whose tile it lies in (log entry
59). -/
def Exam.targetsOf (e : Exam) (d : Defect) : List Nat :=
  match e.mode, d.kind, d.span with
  | .conceal, .spot, some t => e.candidates.filter (fun p => t.hasPos e.gauge p)
  | .conceal, .host, some t => t.positions e.gauge
  | _, _, _ => []

/-- A source of the spatial step: a sample that is not a candidate and not in the span of a host record (R144). -/
def Exam.source (e : Exam) (pos : Nat) : Bool :=
  !e.candidate pos && !e.hosts.any (fun d => (d.span.map (fun t => t.hasPos e.gauge pos)).getD false)

/-- A neighbour's sample at a target, when the neighbour is usable there (R142). -/
def Exam.usable (e : Exam) (x : Option Planes) (pos : Nat) : Option (Rgb CodeValue) :=
  match x with
  | none => none
  | some p =>
    let v := p.read pos
    match e.detector with
    | .temporal => some v.colour
    | .ir => if e.settings.ithr ≤ v.ir.toNat then some v.colour else none

/-- The mean of two triples, rounded half up channel by channel (R143, R144). -/
def meanColour (a b : Rgb CodeValue) : Rgb CodeValue :=
  { red := BitVec.ofNat 12 (meanUp a.red.toNat b.red.toNat)
    green := BitVec.ofNat 12 (meanUp a.green.toNat b.green.toNat)
    blue := BitVec.ofNat 12 (meanUp a.blue.toNat b.blue.toNat) }

/-- The fill value of two optional sides: both, one, or none (R143, R144). -/
def fillOf : Option (Rgb CodeValue) → Option (Rgb CodeValue) → Option (Rgb CodeValue)
  | some a, some b => some (meanColour a b)
  | some a, none => some a
  | none, some b => some b
  | none, none => none

/-- The nearest source to the left within 16 columns (R144). -/
def Exam.leftSource (e : Exam) (pos : Nat) : Option (Rgb CodeValue) :=
  let col := pos % e.gauge.width
  ((List.range' 1 16).find? (fun k => decide (k ≤ col) && e.source (pos - k))).map
    (fun k => (e.planes.read (pos - k)).colour)

/-- The nearest source to the right within 16 columns (R144). -/
def Exam.rightSource (e : Exam) (pos : Nat) : Option (Rgb CodeValue) :=
  let col := pos % e.gauge.width
  ((List.range' 1 16).find? (fun k => decide (col + k < e.gauge.width) && e.source (pos + k))).map
    (fun k => (e.planes.read (pos + k)).colour)

/-- The fill value of a target: the temporal step and, failing that, the spatial step (R141, R143, R144). -/
def Exam.fill (e : Exam) (pos : Nat) : Option (Rgb CodeValue) :=
  match fillOf (e.usable e.before pos) (e.usable e.after pos) with
  | some v => some v
  | none => fillOf (e.leftSource pos) (e.rightSource pos)

/-- The targets of the frame (R141). -/
def Exam.targets (e : Exam) : List Nat := e.list.flatMap e.targetsOf

/-- The planes with every target that has a fill value filled; the infrared is not written (R141). -/
def Exam.repaired (e : Exam) : Planes :=
  e.targets.foldl
    (fun x p => match e.fill p with
      | some v => x.write p { (x.read p) with colour := v }
      | none => x) e.planes

/-- The outcome of a record of the completed list (R145). -/
def Exam.outcome (e : Exam) (d : Defect) : DefectOutcome :=
  match e.mode, d.kind with
  | .conceal, .spot => if (e.targetsOf d).all (fun p => (e.fill p).isSome) then .concealed else .partly
  | .conceal, .host => if (e.targetsOf d).all (fun p => (e.fill p).isSome) then .concealed else .partly
  | _, _ => .marked

/-- The completed defect list with its outcomes (R139, R145). -/
def Exam.defects (e : Exam) : List Defect := e.list.map (fun d => { d with outcome := e.outcome d })

/-- The kinds of record whose tiles are defect tiles (R146). -/
def DefectKind.countsTiles : DefectKind → Bool
  | .spot => true
  | .blotch => true
  | .host => true
  | _ => false

/-- A tile is covered by the span of a SPOT, BLOTCH or HOST record (R146). -/
def coversTile (l : List Defect) (row col : Nat) : Bool :=
  l.any (fun d => d.kind.countsTiles && d.span.any (fun t => t.hasTile row col))

/-- The defect tiles of a list: the distinct tiles its spans cover (R146). -/
def defectTiles (g : Gauge) (l : List Defect) : Nat :=
  ((List.range g.tileRows).map (fun row => (List.range g.tileCols).countP (fun col => coversTile l row col))).sum

end Sys2Proof.Machine
end

