-- ==== Sys2Proof/Machine/Store.lean ====
section
/-!
DEFINITION. The Frame Store's own operations (chapter 6): a stored capture, eligibility and the repair queue, analysis
start, records gathered before repair, and the slots of a work order that closes.
-/
namespace Sys2Proof.Machine

/-! ### Eligibility and the repair queue (R122, R123) -/

/-- A slot is eligible for repair: the two conditions of R122, also where they let a frame behind a GAP or LEADER run be
QUEUED while earlier frames of its work order still wait for repair (log entry 56). -/
def Slot.eligible (x : Slot) : Bool :=
  x.state == .waiting && (x.successor == some .captured || x.successor == some .absent)
    && (x.predecessor == some .repaired || x.predecessor == some .absent)

/-- The repair mode of the segment that contains a frame of a work order (R12, R87, R123). -/
def State.repairModeAt (s : State) (b : OrderBody) (f : Nat) : RepairMode :=
  ((segmentAt (s.mapOf b) f).map (·.repair)).getD .conceal

/-- The detector mode of a work order's frames: TEMPORAL for a MONO reel, IR otherwise (R132). -/
def State.detectorModeOf (s : State) (b : OrderBody) : DetectorMode :=
  match b.reel.bind s.reel? with
  | some r => match r.emulsion with
    | .mono => .temporal
    | .colour => .ir
  | none => .ir

/-- The slot at the head of the repair queue starts its analysis when the engine has none in flight (R123, R132). -/
def State.startAnalysis (s : State) : State :=
  match s.engine.analysis, s.store.queue with
  | none, k :: rest =>
    let s := { s with store := { s.store with queue := rest } }
    match s.slot? k with
    | none => s
    | some x =>
      match x.order, x.frame with
      | some st, some f =>
        match (s.order st).body with
        | none => s
        | some b =>
          let mode := s.repairModeAt b f
          let a : Analysis :=
            { slot := k, station := st, frame := f, detector := s.detectorModeOf b, mode := mode
              settings := s.engine.settings, predecessor := x.predecessor == some .repaired
              successor := x.successor == some .captured }
          let s := s.updSlot k (fun x => { x with state := .analysing, mode := some mode })
          { s with engine := { s.engine with analysis := some a } }
      | _, _ => s
  | _, _ => s

/-- Test a slot for eligibility: an eligible one is QUEUED, flagged ONE-SIDED when a neighbour is absent, and joins the
tail of the repair queue, whose head starts when the engine is free (R122, R123). -/
def State.testEligible (s : State) (k : Nat) : State :=
  match s.slot? k with
  | none => s
  | some x =>
    if x.eligible then
      let oneSided := x.predecessor == some .absent || x.successor == some .absent
      let s := s.updSlot k (fun x =>
        { x with state := .queued, flags := { x.flags with oneSided := x.flags.oneSided || oneSided } })
      ({ s with store := { s.store with queue := s.store.queue ++ [k] } } : State).startAnalysis
    else s

/-- Test the slot of a frame for eligibility, when a slot holds it. -/
def State.testFrame (s : State) (st : StationId) (f : Nat) : State :=
  match s.slotOf st f with
  | some k => s.testEligible k
  | none => s

/-! ### A capture stored (R120) -/

/-- What the state of the slot of f - 1 makes of the predecessor of f (R120). -/
def predecessorOf : SlotState → Predecessor
  | .ready => .repaired
  | .sending => .repaired
  | .kept => .repaired
  | _ => .pending

/-- The slot of the frame before `f`. -/
def State.slotBefore (s : State) (st : StationId) (f : Nat) : Option Nat := if f = 0 then none else s.slotOf st (f - 1)

/-- The predecessor of a frame whose capture is stored (R120). -/
def State.predecessorFor (s : State) (st : StationId) (f : Nat) : Predecessor :=
  match (s.slotBefore st f).bind s.slot? with
  | some x => predecessorOf x.state
  | none => .absent

/-- The successor of a frame whose capture is stored: ABSENT for the last frame of the range, before a LEADER or GAP
frame, and in a DRAINING work order; AWAITED otherwise (R120, R121). -/
def State.successorFor (s : State) (st : StationId) (f : Nat) : Successor :=
  match s.openBody? st with
  | none => .absent
  | some b =>
    if f = b.last ∨ ((segmentAt (s.mapOf b) (f + 1)).any (fun g => g.kind == .picture)) = false
        ∨ (s.order st).state = .draining then Successor.absent
    else Successor.awaited

/-- FSC takes a stored capture: the slot passes from FILLING to WAITING with its planes and neighbour fields, the slot
of f - 1 learns of its successor, and both are tested for eligibility (R120). -/
def State.storeCapture (s : State) (c : Capture) (planes : Planes) : State :=
  let p := s.predecessorFor c.station c.frame
  let n := s.successorFor c.station c.frame
  let s := s.updSlot c.slot (fun x =>
    { x with state := .waiting, planes := planes, predecessor := some p, successor := some n })
  let s := match s.slotBefore c.station c.frame with
    | some k => (s.updSlot k (fun x =>
        if x.successor = some Successor.awaited then { x with successor := some Successor.captured } else x)).testEligible k
    | none => s
  s.testEligible c.slot

/-- The work order captures nothing more: the slot of last-captured that awaits its successor has it declared ABSENT and
is tested (R109, R121). -/
def State.endOfCapture (s : State) (st : StationId) : State :=
  match (s.openBody? st).bind (·.lastCaptured) with
  | none => s
  | some f =>
    match s.slotOf st f with
    | none => s
    | some k =>
      if (s.slot? k).any (fun x => x.successor == some .awaited) then
        (s.updSlot k (fun x => { x with successor := some .absent })).testEligible k
      else s

/-! ### Records before repair (R128) -/

/-- The slot has not begun its repair: FILLING, WAITING or QUEUED (R128). -/
def SlotState.beforeRepair : SlotState → Bool
  | .filling => true
  | .waiting => true
  | .queued => true
  | _ => false

/-- A sensor record put behind the sensor records and before the host records of a list (R128). -/
def addSensor (l : List Defect) (d : Defect) : List Defect :=
  l.filter (fun x => !x.isHost) ++ [d] ++ l.filter (·.isHost)

/-- A station hands FSC a SPLICE or TEAR record for a frame (R74, R76, R128). A record of a kind the list already holds
changes nothing, also in a full list (DEDUCED, log entry 83). -/
def State.sensorRecord (s : State) (st : StationId) (f : Nat) (kind : DefectKind) : State :=
  match s.slotOf st f with
  | none => s
  | some k =>
    match s.slot? k with
    | none => s
    | some x =>
      if x.state.beforeRepair = false ∨ x.defects.any (fun d => d.kind == kind) = true then s
      else if Config.defectLimit ≤ x.defects.length then
        (s.updSlot k (fun x => { x with flags := { x.flags with overflow := true } })).raise .defectOverflow
          { station := some st, reel := (s.openBody? st).bind (·.reel), frame := some f }
      else
        s.updSlot k (fun x =>
          { x with defects := addSensor x.defects { kind := kind, span := none, count := 0, outcome := .marked } })

/-! ### Closing (R127) -/

/-- What closing its work order does to a slot (R127). -/
def Slot.closed (x : Slot) : Slot :=
  match x.state with
  | .free => x
  | .analysing => { x with freeAtEnd := true }
  | .sending => { x with freeAtEnd := true }
  | _ => x.cleared

/-- Closing its work order makes a slot FREE at once (R127). -/
def Slot.freedByClosing (x : Slot) : Bool := x.state != .free && x.closed.state == .free

/-- The slots of a work order that closes (R127). When one of them becomes FREE, or `freed` says that an abandoned capture
has just freed one, the starved stations are told (R126): once, after all of them are FREE (log entry 57). -/
def State.closeSlots (s : State) (st : StationId) (freed : Bool) : State :=
  let mine := fun (k : Nat) => (s.slot? k).any (fun x => x.order == some st)
  let frees := s.store.slots.toList.any (fun x => x.order == some st && x.freedByClosing)
  let s' : State := { s with store :=
    { slots := s.store.slots.map (fun x => if x.order = some st then x.closed else x)
      queue := s.store.queue.filter (fun k => !mine k) } }
  if freed || frees then s'.offerSlots else s'

end Sys2Proof.Machine
end

