-- ==== Sys2Proof/Machine/Orders.lean ====
section
/-!
DEFINITION. The Work Order Unit's own operations (chapter 5): closing, aborting, draining, and the progress of
captures and deliveries.
-/
namespace Sys2Proof.Machine

/-- The pass outcome a work order's end reports to REG (R24, R113). -/
def OrderEnd.outcome : OrderEnd → PassOutcome
  | .completed => .completed
  | .stopped => .stopped
  | .aborted => .aborted
  | .none => .aborted

/-- The station's part of a closing: profile and fallback are cleared; THREADED, RUNNING, STARVED and HALTED are sent
REWIND and enter REWINDING; a LOOPBACK station's pattern source becomes IDLE; the lanes are left (R83, R96, R113). R83,
R85 and R113 are silent on a stop still pending: it is withdrawn in those five states, and one kept by a station that has
left them, such as a SEIZED one, stays until its reset (log entry 53). -/
def State.closeStation (s : State) (st : StationId) : State :=
  let s := s.updStation st (fun t => { t with profile := none, fallback := none })
  let t := s.station st
  if t.state = .threaded ∨ t.state = .running ∨ t.state = .starved ∨ t.state = .halted then
    ((s.toStation st .rewind).updStation st
      (fun t => { t with state := .rewinding, motion := .winding, stopPending := .none })).leaveLanes st
  else if t.state = .loopback then
    ((s.updStation st (fun t => { t with stopPending := .none })).updSource
      (fun p => if p.assigned = some st then { p with state := .idle } else p)).leaveLanes st
  else s

/-- A work order closes (R113). `ending` is ABORTED for an abort and the end field otherwise; `quiet` is set at a suite
reset, which raises no WORK ORDER ENDED; `freed` says that the abort has freed the slot of a capture in flight. -/
def State.closeOrder (s : State) (st : StationId) (ending : OrderEnd) (quiet freed : Bool) : State :=
  let body := (s.order st).body
  let s := s.updOrder st (fun w => { w with state := .closed, ending := ending })
  let s := s.closeSlots st freed
  let s := match body.bind (·.reel) with
    | some i => s.updReel i (·.completePass ending.outcome)
    | none => s
  let s := s.closeStation st
  if quiet then s
  else s.raise .workOrderEnded
    { station := some st, reel := body.bind (·.reel), frame := body.bind (·.lastCaptured) }

/-- Abort a station's work order, when it has one: a capture in flight is abandoned and the work order closes (R114). -/
def State.abortOrder (s : State) (st : StationId) (quiet : Bool) : State :=
  if s.hasOrder st then (s.abandonQuietly st).closeOrder st .aborted quiet (s.capturing st) else s

/-- Delivery has passed the end of a DRAINING work order: the last frame of the range for COMPLETED, last-captured for
STOPPED (R112). -/
def deliveryPassed (w : WorkOrder) (b : OrderBody) : Bool :=
  match w.ending with
  | .completed => decide (b.last < b.nextDeliver)
  | _ => match b.lastCaptured with
    | some f => decide (f < b.nextDeliver)
    | none => true

/-- The closing test of a DRAINING work order (R112). -/
def State.closingTest (s : State) (st : StationId) : State :=
  let w := s.order st
  match w.body with
  | none => s
  | some b =>
    if w.state = .draining ∧ (s.station st).inFlight = none ∧ deliveryPassed w b = true then
      s.closeOrder st w.ending false false
    else s

/-- With no capture in flight, a DRAINING work order has captured its last frame: the store is told and the closing test
made (R109, R112, R121). -/
def State.afterCapture (s : State) (st : StationId) : State :=
  if (s.order st).state = .draining ∧ (s.station st).inFlight = none then (s.endOfCapture st).closingTest st else s

/-- A work order becomes DRAINING with an end (R109, R110). -/
def State.drain (s : State) (st : StationId) (ending : OrderEnd) : State :=
  s.updOrder st (fun w => { w with state := .draining, ending := ending })

/-- WOU takes a capture completion: last-captured and next-capture move on, the range's end makes the work order
DRAINING, and a cue at the frame acts (R110, steps 1 to 4). -/
def State.captureProgress (s : State) (st : StationId) (f : Nat) : State :=
  match s.openBody? st with
  | none => s
  | some b =>
    let s := s.updBody st (fun b => { b with lastCaptured := some f, nextCapture := s.capturableFrom b (f + 1) })
    let s := if b.last < s.capturableFrom b (f + 1) then (s.drain st .completed).markStop st .drain else s
    match (s.order st).cues.find? (fun c => c.frame == f) with
    | none => s
    | some c =>
      let s := s.raise .cueReached { station := some st, reel := b.reel, frame := some f }
      if c.action = .pause ∧ (s.order st).state = .active then
        (s.updOrder st (fun w => { w with state := .paused })).markStop st .pause
      else s

/-- Stop pending is set for a station whose work order is PAUSED or DRAINING while a capture completes; the state HALTED
is entered by the station's own action (R81, R110). -/
def State.stationAction (s : State) (st : StationId) : State :=
  let t := s.station st
  if t.stopPending ≠ .none then s.haltIfDone st
  else if t.state = .starved then s.recover st
  else if t.state = .running ∧ t.motion = .atSpeed ∧ t.fallback.isSome = true then
    let s := s.takeFallback st
    let s := if t.isStep then s else s.toStation st .rampDown
    s.preroll st
  else if t.state = .running ∧ t.isStep = true then s.toStation st .step
  else if s.mayFeed st = true ∧ s.lanes.source.intervalOver = true ∧ s.lanes.source.state = .feeding then s.offerFrame st
  else s

/-- The next deliverable position after a delivery start of frame `f` (R111). -/
def State.advanceDeliver (s : State) (st : StationId) (f : Nat) : State :=
  s.updBody st (fun b => { b with nextDeliver := s.deliverableFrom b (f + 1) })

/-- What a station fault asks of WOU after the capture in flight has been abandoned: an ACTIVE work order is PAUSED, and
a DRAINING one may close (R112, R115). -/
def State.faultOrder (s : State) (st : StationId) : State := (s.pauseOrder st).afterCapture st

end Sys2Proof.Machine
end

