-- ==== Sys2Proof/Machine/Deliver.lean ====
section
/-!
DEFINITION. The Delivery Unit (chapter 9): what a work order offers, the arbiter of the picture channel, and a delivery
start.
-/
namespace Sys2Proof.Machine

/-- What a work order offers delivery: a black frame, or the READY slot of a captured one (R168). -/
inductive Item where
  | black (f : Nat)
  | slot (f k : Nat)
  deriving DecidableEq, Repr

/-- The frame an item delivers. -/
def Item.frame : Item → Nat
  | .black f => f
  | .slot f _ => f

/-- The slot an item is delivered from; a black frame has none. -/
def Item.slot? : Item → Option Nat
  | .black _ => none
  | .slot _ k => some k

/-- A work order in this state offers its frame at next-deliver (R111, R168). -/
def OrderState.offers : OrderState → Bool
  | .active => true
  | .paused => true
  | .draining => true
  | _ => false

/-- The READY slot of a work order that holds a frame. -/
def State.readySlot (s : State) (st : StationId) (f : Nat) : Option Nat :=
  (s.slotOf st f).filter (fun k => (s.slot? k).any (fun x => x.state == .ready))

/-- The deliverable item of a work order (R168). -/
def State.item (s : State) (st : StationId) : Option Item :=
  if (s.order st).state.offers then
    match (s.order st).body with
    | none => none
    | some b =>
      if b.first ≤ b.nextDeliver ∧ b.nextDeliver ≤ b.last then
        match (segmentAt (s.mapOf b) b.nextDeliver).map (·.kind) with
        | some SegmentKind.gap => some (.black b.nextDeliver)
        | some SegmentKind.picture => (s.readySlot st b.nextDeliver).map (fun k => .slot b.nextDeliver k)
        | _ => none
      else none
  else none

/-- The picture header of a delivery start, from the snapshot, the slot record and the work order (R171). -/
def State.headerOf (s : State) (st : StationId) (b : OrderBody) (n : Snapshot) (x : Option Slot) (closing : Bool) :
    PictureHeader :=
  { station := st, reel := b.reel, title := (b.reel.bind s.reel?).map (·.title), frame := n.frame
    gauge := s.gaugeOf b, treatment := n.treatment
    gap := n.treatment == .black, test := n.treatment == .test
    oneSided := (x.map (·.flags.oneSided)).getD false
    overflow := (x.map (·.flags.overflow)).getD false
    unchecked := (x.map (·.flags.unchecked)).getD false
    bypass := n.mode == some .bypass, closing := closing
    mode := x.bind (·.mode), params := n.params, time := s.link.clock
    defects := (x.map (·.defects)).getD [] }

/-- A delivery starts: the slot is SENDING, the snapshot is taken, the message in flight is created, next-deliver
advances, the closing test is made, and the header is composed, in this order (R170). -/
def State.startDelivery (s : State) (st : StationId) (b : OrderBody) (i : Item) : State :=
  let s := match i.slot? with
    | some k => s.updSlot k (fun x => { x with state := .sending })
    | none => s
  let n := s.snapshotOf st b i.frame
  let x := i.slot?.bind s.slot?
  let message := fun closing => ({ station := st, frame := i.frame, treatment := n.treatment, slot := i.slot?
                                   header := s.headerOf st b n x closing } : PictureMessage)
  let s : State :=
    { s with snapshot := some n, delivery := { channel := .sending, lastServed := st, message := some (message false) } }
  let s := s.updLink (fun l => l.place .picture)
  let s := (s.advanceDeliver st i.frame).closingTest st
  if (s.order st).state = .closed then
    { s with delivery := { s.delivery with message := some (message true) } }
  else s

/-- The stations in the order the arbiter considers them, from the one after last served (R169). -/
def rotation (last : StationId) : List StationId := [last + 1, last + 2, last + 3, last + 4]

/-- While the channel is IDLE the arbiter begins the delivery of the first station in turn that has a deliverable item
(R169). -/
def State.deliveryArbiter (s : State) : State :=
  if s.delivery.channel = .idle then
    match (rotation s.delivery.lastServed).find? (fun st => (s.item st).isSome) with
    | none => s
    | some st =>
      match s.item st, (s.order st).body with
      | some i, some b => s.startDelivery st b i
      | _, _ => s
  else s

/-- The test of the arbiter at a START that makes a work order ACTIVE: it is made while that work order's next-deliver rests on
a GAP frame only, and its PICTURE frames wait for another test (R169). -/
def State.arbiterAtStart (s : State) (st : StationId) : State :=
  match s.item st with
  | some (.black _) => s.deliveryArbiter
  | _ => s

/-- The head of the outbound list has been sent: it leaves the list and the transmitter takes the next message, LNK does
what the sending lets it do, and then the arbiter is tested where the head was the last message that stood in the list at the
end of a picture message (R172, R181, log entries 69 and 70). -/
def State.headLeaves (s : State) (next : State → State) : State :=
  let t := next (s.updLink (·.headSent))
  if s.link.testBehind then t.deliveryArbiter else t

/-- A slot at the end of its picture message: FREE when free at end is set or its successor is REPAIRED or ABSENT, KEPT
otherwise (R125). -/
def Slot.sent (x : Slot) : Slot :=
  if x.freeAtEnd = true ∨ x.successor = some .repaired ∨ x.successor = some .absent then x.cleared
  else { x with state := .kept }

end Sys2Proof.Machine
end

