-- ==== Sys2Proof/Machine/StationRequests.lean ====
section
/-!
DEFINITION. What the Scan Stations and the Capture Crosspoint answer to their requests (R62, R86, R87, R95, R100).
-/
namespace Sys2Proof.Machine

/-- The running figure S: the mean of the values in the shrinkage window, rounded half away from zero; absent while the
window is empty (R75). -/
def windowFigure (w : List Int) : Option Int := if w.isEmpty then none else some (roundAway w.sum w.length)

/-! ### Settings and query (R62) -/

/-- The filter setting taken of one asked for (R62). -/
def clampFilter (v : Nat) : Nat := clampNat 1 15 v

/-- The tenure setting taken of one asked for (R62). -/
def clampTenure (v : Nat) : Nat := clampNat 1 255 v

/-- SET STATION (R62). -/
def State.setStation (s : State) (n : Nat) (filter tenure : Option Nat) : Answered :=
  match stationOf n with
  | none => s.refuse .malformed
  | some st =>
    (s.updStation st (fun t =>
        { t with filterSetting := (filter.map clampFilter).getD t.filterSetting
                 tenure := (tenure.map clampTenure).getD t.tenure }),
      doneOr (clampEntry? 1 filter clampFilter ++ clampEntry? 2 tenure clampTenure) .empty)

/-- QUERY STATION (R62). -/
def State.queryStation (s : State) (n : Nat) : Answered :=
  match stationOf n with
  | none => s.refuse .malformed
  | some st =>
    let r := s.reelIn st
    s.answer (.stationReport (s.station st) (windowFigure (s.station st).window) r
      ((r.bind s.reel?).map (·.custody)) (s.laneOf st))

/-! ### Station reset (R86, R98) -/

/-- The station-reset values of a record (R60): the reservation, the capabilities and the two settings are kept, and
the discovery timer is started (R86). -/
def Station.afterReset (t : Station) : Station :=
  { Station.powerOn with
    state := .discovering, capabilities := t.capabilities, reservation := t.reservation
    filterSetting := t.filterSetting, tenure := t.tenure, discovery := some Config.discoveryMs }

/-- The pattern source is unassigned and IDLE when it was assigned to the station (R99). -/
def State.freeSource (s : State) (st : StationId) : State :=
  s.updSource (fun p => if p.assigned = some st then .idle else p)

/-- The reel in a chamber takes custody REVERIFY, whatever its custody state was (R28, R86). -/
def State.reverifyIn (s : State) (st : StationId) : State :=
  match s.reelIn st with
  | some i => s.setCustody i .reverify
  | none => s

/-- Steps 3 and 4 of R86, once the work order has been aborted and the lane released. -/
def State.rediscover (s : State) (st : StationId) : State :=
  ((((s.toStation st .stationClear).toStation st .ident).updStation st (·.afterReset)).freeSource st).reverifyIn st

/-- STATION RESET (R86). -/
def State.stationReset (s : State) (n : Nat) : Answered :=
  match stationOf n with
  | none => s.refuse .malformed
  | some st => (((s.abortOrder st false).leaveLanes st).rediscover st).doneEmpty

/-! ### Loopback (R87, R99) -/

/-- The conditions of LOOPBACK ON (R87, R99). -/
def State.loopbackAllowed (s : State) (st : StationId) : Bool :=
  let t := s.station st
  t.state == .empty && t.reservation == .none && t.sensor != .present && !s.hasOrder st
    && s.lanes.source.assigned.isNone

/-- LOOPBACK ON (R87, R99). -/
def State.loopbackOn (s : State) (n : Nat) : Answered :=
  match stationOf n with
  | none => s.refuse .malformed
  | some st =>
    if s.loopbackAllowed st = false then s.refuse .wrongState
    else
      (((s.toStation st .safe).updStation st (fun t => { t with state := .loopback })).updSource
        (fun _ => { PatternSource.idle with assigned := some st })).doneEmpty

/-- LOOPBACK OFF (R87). -/
def State.loopbackOff (s : State) (n : Nat) : Answered :=
  match stationOf n with
  | none => s.refuse .malformed
  | some st =>
    if (s.station st).state ≠ .loopback ∨ s.hasOrder st = true then s.refuse .wrongState
    else
      ((s.freeSource st).updStation st (fun t =>
        { t with state := if t.sensor = .present then StationState.loaded else .empty })).doneEmpty

/-! ### Lanes (R95, R100) -/

/-- The lane a request names: 0 is A and 1 is B (R190). -/
def laneNumber : Nat → Option LaneId
  | 0 => some .a
  | 1 => some .b
  | _ => none

/-- A held lane that carries nothing is released at once and its holder, if it still needs a lane, rejoins (R94). -/
def State.releaseNow (s : State) (l : LaneId) (holder : StationId) : State :=
  if (s.lane l).carriage.isSome then s else (s.releaseLane l).joinWaitList holder

/-- FORCE RELEASE (R95). -/
def State.forceRelease (s : State) (n : Nat) : Answered :=
  match laneNumber n with
  | none => s.refuse .malformed
  | some l => match (s.lane l).hold with
    | none => s.refuse .wrongState
    | some h =>
      if h.release = .forced then s.doneEmpty
      else ((s.setLane l { s.lane l with hold := some { h with release := .forced } }).releaseNow l h.station).doneEmpty

/-- QUERY LANES (R100). -/
def State.queryLanes (s : State) : Answered :=
  s.answer (.laneReport s.lanes.laneA s.lanes.laneB s.lanes.waitList)

end Sys2Proof.Machine
end

