-- ==== Sys2Proof/Machine/StationReports.lean ====
section
/-!
DEFINITION. What a station does at each report of its transport and at the expiry of its timers (chapter 3). A report
no rule gives an effect in the station's state is discarded: the state is left as it stands (R64).
-/
namespace Sys2Proof

/-- The other level of the perforation sense (R73). -/
def Level.other : Level → Level
  | .film => .hole
  | .hole => .film

/-- The shrinkage ceiling of a profile; STEP has none (R77). -/
def Profile.ceiling : Profile → Option Int
  | .fast => some 120
  | .standard => some 220
  | .step => none

end Sys2Proof

namespace Sys2Proof.Machine

/-! ### Heartbeat and discovery (R65 to R67) -/

/-- The heartbeat timer runs: every state except DETACHED, DISCOVERING and LOST (R67). -/
def StationState.beats : StationState → Bool
  | .detached => false
  | .discovering => false
  | .lost => false
  | _ => true

/-- A fault name added to a set of fault names (R60, R85). The set is kept in the order in which its names were first
reported, in which QUERY STATION lists it: the model's choice (log entry 72). -/
def addFault (l : List FaultName) (f : FaultName) : List FaultName := if f ∈ l then l else l ++ [f]

/-- The record of a station that becomes LOST (R67). -/
def Station.lost (t : Station) : Station :=
  { t with state := .lost, motion := .stopped, stopPending := .none, filter := .clear, heartbeat := none }

/-- STATION LOST is raised, naming the station and the reel in its chamber (R67). That it names the station in LOOPBACK too,
where R67 says only that it is raised, is the model's choice (log entry 75). -/
def State.raiseLost (s : State) (st : StationId) : State :=
  s.raise .stationLost { station := some st, reel := s.reelIn st }

/-- The heartbeat has failed (R67). -/
def State.heartbeatFailed (s : State) (st : StationId) : State :=
  match (s.station st).state with
  | .seized =>
    s.updStation st (fun t => { t with faults := addFault t.faults .heartbeatLost, heartbeat := none })
  | .loopback => ((((s.abortOrder st false).freeSource st).leaveLanes st).updStation st (·.lost)).raiseLost st
  | _ => (((((s.updStation st (·.lost)).raiseLost st).abandon st).leaveLanes st).pauseOrder st).afterCapture st

/-- IDENT is sent, the discovery timer starts and the station enters DISCOVERING (R65). -/
def State.discover (s : State) (st : StationId) : State :=
  (s.toStation st .ident).updStation st (fun t => { t with state := .discovering, discovery := some Config.discoveryMs })

/-- ATTACH (R65). -/
def State.attached (s : State) (st : StationId) : State :=
  match (s.station st).state with
  | .seized => s
  | .detached => s.discover st
  | .discovering => s.discover st
  | .lost => s.discover st
  | _ => (s.heartbeatFailed st).discover st

/-- The discovery timer expires (R65). -/
def State.discoveryExpired (s : State) (st : StationId) : State :=
  s.updStation st (fun t =>
    if t.state = .discovering ∧ t.discovery.isSome = true then { t with state := .detached, discovery := none } else t)

/-- HEARTBEAT (R64, R67). -/
def State.heartbeatTaken (s : State) (st : StationId) : State :=
  s.updStation st (fun t => if t.state.beats then { t with heartbeat := some Config.heartbeatMs } else t)

/-- The heartbeat timer expires (R67). -/
def State.heartbeatExpired (s : State) (st : StationId) : State :=
  let t := s.station st
  if t.state.beats = true ∧ t.heartbeat.isSome = true then s.heartbeatFailed st else s

/-- The state a rediscovered station enters with a can reported (R66). -/
def stateWithCan (threaded registered : Bool) (r : Reservation) : StationState :=
  if registered then (if threaded then .broken else .loaded)
  else if r = .incoming then .empty else .loaded

/-- Rediscovery with a can in the chamber: a registered reel takes custody REVERIFY and the reads are cleared (R66). -/
def State.foundCan (s : State) (st : StationId) (threaded : Bool) : State :=
  let registered := (s.reelIn st).isSome
  (s.updStation st (fun t =>
    { t with state := stateWithCan threaded registered t.reservation
             tagRead := if registered then none else t.tagRead
             markRead := if registered then none else t.markRead })).reverifyIn st

/-- Rediscovery with an empty chamber: a work order is aborted and a registered reel recorded there becomes UNKNOWN
(R66). -/
def State.foundEmpty (s : State) (st : StationId) : State :=
  (match s.reelIn st with
    | some i => (s.abortOrder st false).loseReel i
    | none => s).updStation st (fun t => { t with state := .empty })

/-- What an IDENT reply records (R66). -/
def Station.identified (t : Station) (f : IdentFields) : Station :=
  { t with discovery := none, capabilities := some { gauges := f.gauges, fastest := f.fastest }
           sensor := if f.canPresent then Sensor.present else .absent, threaded := f.threaded
           heartbeat := some Config.heartbeatMs }

/-- IDENT reply (R66). -/
def State.identTaken (s : State) (st : StationId) (f : IdentFields) : State :=
  if (s.station st).state ≠ .discovering then s
  else
    let s := (s.updStation st (·.identified f)).raise .stationAttached { station := some st }
    if f.canPresent then s.foundCan st f.threaded else s.foundEmpty st

/-! ### Chamber and custody (R69 to R72) -/

/-- A can is gone without the lift: SAFE, the abort, the reel UNKNOWN, and the station EMPTY (R69). -/
def State.canGone (s : State) (st : StationId) : State :=
  let s := (s.toStation st .safe).abortOrder st false
  let s := match s.reelIn st with
    | some i => s.loseReel i
    | none => s
  (s.updStation st (fun t =>
    { t with state := .empty, motion := .stopped, threaded := false, profile := none, fallback := none
             stopPending := .none })).leaveLanes st

/-- The states in which ABSENT without a reservation means that a can is gone (R69). -/
def StationState.holdsCan : StationState → Bool
  | .loaded => true
  | .threaded => true
  | .broken => true
  | .running => true
  | .starved => true
  | .halted => true
  | .rewinding => true
  | _ => false

/-- CAN PRESENT (R69). -/
def State.canSensed (s : State) (st : StationId) (present : Bool) : State :=
  let t := s.station st
  if t.state.beats = false then s
  else if present then
    s.updStation st (fun t =>
      { t with sensor := .present, tagRead := none, markRead := none
               state := if t.state = .empty ∧ t.reservation = .none then .loaded else t.state })
  else
    let s := s.updStation st (fun t => { t with sensor := .absent })
    if t.state.holdsCan = true ∧ t.reservation = .none then s.canGone st else s

/-- The states in which reads are taken (R70). -/
def StationState.takesReads : StationState → Bool
  | .empty => true
  | .loaded => true
  | .threaded => true
  | .broken => true
  | _ => false

/-- A read is recorded, and evaluated outside EMPTY (R70). -/
def State.readTaken (s : State) (st : StationId) (f : Station → Station) : State :=
  let x := (s.station st).state
  if x.takesReads = false then s
  else
    let s := s.updStation st f
    if x = .empty then s else s.evaluateCustody st

/-- TAG READ (R70). -/
def State.tagTaken (s : State) (st : StationId) (tag : CanTag) : State :=
  s.readTaken st (fun t => { t with tagRead := some tag })

/-- HEAD MARK READ (R70). -/
def State.markTaken (s : State) (st : StationId) (mark : HeadMark) : State :=
  s.readTaken st (fun t => { t with markRead := some mark })

/-- The custody state of the registered reel in a chamber. -/
def State.custodyIn (s : State) (st : StationId) : Option Custody := ((s.reelIn st).bind s.reel?).map (·.custody)

/-- THREADED (R71). -/
def State.threadedTaken (s : State) (st : StationId) : State :=
  let verified := s.custodyIn st == some .verified
  s.updStation st (fun t =>
    if t.state = .loaded ∨ t.state = .broken then
      { t with threaded := true, state := if verified then .threaded else t.state }
    else if t.state = .empty then { t with threaded := true }
    else t)

/-- A reel whose custody was VERIFIED becomes REVERIFY (R71). -/
def State.doubt (s : State) (st : StationId) : State :=
  if s.custodyIn st = some .verified then s.reverifyIn st else s

/-- The film is out of the path: the station enters LOADED, a preroll is made safe and its ACTIVE work order paused, and
the film must be identified again (R71). -/
def State.filmOut (s : State) (st : StationId) : State :=
  let t := s.station st
  let prerolls := (t.state == .threaded || t.state == .halted) && t.motion == .prerolling
  let s := if prerolls then (s.toStation st .safe).pauseOrder st else s
  (s.updStation st (fun t =>
    { t with threaded := false, state := .loaded, motion := .stopped, tagRead := none, markRead := none })).doubt st

/-- UNTHREADED (R71). -/
def State.unthreadedTaken (s : State) (st : StationId) : State :=
  match (s.station st).state with
  | .loaded => s.updStation st (fun t => { t with threaded := false })
  | .threaded => s.filmOut st
  | .broken => s.filmOut st
  | .halted => s.filmOut st
  | .rewinding => s.filmOut st
  | _ => s

/-- ACID READING (R72, R87). -/
def State.acidTaken (s : State) (st : StationId) (reading : Int) : State :=
  let x := (s.station st).state
  if x.beats = false ∨ x = .loopback then s
  else match s.reelIn st with
  | some i => s.recordReading st i reading
  | none => s

/-! ### Running a pass (R80, R83) -/

/-- The station is in a state in which a preroll may end (R80). -/
def Station.prerollEnds (t : Station) : Bool :=
  t.motion == .prerolling
    && (t.state == .threaded || t.state == .halted || t.state == .running || t.state == .starved)

/-- AT SPEED (R80). -/
def State.atSpeedTaken (s : State) (st : StationId) (count : Nat) : State :=
  if (s.station st).prerollEnds = false ∨ (s.frameAt st count).isNone = true then s
  else (s.updStation st (fun t => { t with motion := .atSpeed, state := .running })).joinWaitList st

/-- The target has been missed: a continuous transport ramps down, and every one prerolls to the target (R80). -/
def State.reposition (s : State) (st : StationId) : State :=
  (if (s.station st).isStep then s else s.toStation st .rampDown).preroll st

/-- The frame at the gate is compared with the target frame (R80). With a stop pending no capture begins (R83). -/
def State.judgeGate (s : State) (st : StationId) (f : Nat) : State :=
  let t := s.station st
  if t.stopPending ≠ .none then s
  else match s.target st with
  | none => s
  | some g =>
    if f < g then (if t.isStep then s.toStation st .step else s)
    else if f = g then (if s.canCapture st then s.beginCapture st f else s.starve st f)
    else s.reposition st

/-- FRAME AT GATE (R80). -/
def State.gateTaken (s : State) (st : StationId) (count : Nat) : State :=
  if (s.station st).runsAtSpeed = false then s
  else match s.frameAt st count with
  | none => s
  | some f => (s.updStation st (fun t => { t with lastGate := some f })).judgeGate st f

/-- REWOUND (R83). -/
def State.rewoundTaken (s : State) (st : StationId) : State :=
  s.updStation st (fun t => if t.state = .rewinding then { t with state := .threaded, motion := .stopped } else t)

/-! ### Tears and splices (R74, R76) -/

/-- Add one to the tears of the RUNNING pass record of the reel in the chamber (R23, R74). -/
def State.addTear (s : State) (st : StationId) : State :=
  match s.reelIn st with
  | some i => s.updRunning i (fun p => { p with tears := p.tears + 1 })
  | none => s

/-- A tear found in a frame, or in no frame, is counted once (R74). -/
def State.tearFound (s : State) (st : StationId) (f : Option Nat) : State :=
  match f with
  | none => s.addTear st
  | some f =>
    if (s.station st).lastTear = some f then s
    else ((s.updStation st (fun t => { t with lastTear := some f })).addTear st).sensorRecord st f .tear

/-- TEAR SENSE (R74). -/
def State.tearTaken (s : State) (st : StationId) (count : Nat) : State :=
  let x := (s.station st).state
  if x = .running ∨ x = .starved then
    match s.frameAt st count with
    | none => s
    | some f => s.tearFound st (some f)
  else s

/-- The station takes a splice report: RUNNING, STARVED, or a preroll in THREADED or HALTED (R76). -/
def Station.takesSplice (t : Station) : Bool :=
  t.state == .running || t.state == .starved
    || ((t.state == .threaded || t.state == .halted) && t.motion == .prerolling)

/-- SPLICE (R76). -/
def State.spliceTaken (s : State) (st : StationId) (count : Nat) : State :=
  if (s.station st).takesSplice = false then s
  else match s.reelIn st, s.frameAt st count with
  | some i, some n => (s.applySplice st i n).sensorRecord st n .splice
  | _, _ => s

/-! ### Perforations and shrinkage (R73, R75, R78) -/

/-- The perforation filter while a report is examined: the accepted level, the pending transition, and the leading edges
found so far (R73). -/
structure FilterRun where
  level : Level
  pendingAt : Option Nat
  edges : List Nat
  deriving DecidableEq, Repr

/-- A pending transition at `x` is accepted once the sense has held its new level to position `y` (R73). -/
def FilterRun.acceptAt (r : FilterRun) (setting y : Nat) : FilterRun :=
  match r.pendingAt with
  | none => r
  | some x =>
    if x + setting ≤ y then
      { level := r.level.other, pendingAt := none
        edges := if r.level.other = .hole then r.edges ++ [x] else r.edges }
    else r

/-- One transition is examined (R73). -/
def FilterRun.examine (setting : Nat) (r : FilterRun) (t : PerfTransition) : FilterRun :=
  let r := r.acceptAt setting t.position
  if t.level = r.level then { r with pendingAt := none }
  else { r with pendingAt := some (r.pendingAt.getD t.position) }

/-- Put a transition into a list in rising order of position, after those at its own position. -/
def insertTransition (t : PerfTransition) : List PerfTransition → List PerfTransition
  | [] => [t]
  | u :: rest => if t.position < u.position then t :: u :: rest else u :: insertTransition t rest

/-- The transitions of a report in order of position (R73). -/
def inOrder (l : List PerfTransition) : List PerfTransition := l.foldl (fun acc t => insertTransition t acc) []

/-- The filter run over a whole report (R73). DESIGN CHOICE (log entry 79): a transition that an earlier report left pending
is judged by the setting of this one. -/
def Filter.run (x : Filter) (setting : Nat) (f : PerfFields) : FilterRun :=
  ((inOrder f.transitions).foldl (FilterRun.examine setting)
    { level := x.level.getD f.start, pendingAt := x.pendingAt, edges := [] }).acceptAt setting f.reached

/-- The judgement of an interval against the nominal pitch (R74). -/
inductive Judgement where
  | short | accepted | tear
  deriving DecidableEq, Repr

/-- Judge an interval (R74). -/
def judgeInterval (pitch p : Nat) : Judgement :=
  if 2 * p < pitch then .short else if 2 * p ≤ 3 * pitch then .accepted else .tear

/-- The shrinkage figure of one accepted interval (R75). -/
def shrinkageOf (pitch p : Nat) : Int := clampInt (-200) 1000 (roundAway (((pitch : Int) - p) * 10000) pitch)

/-- A value appended to the shrinkage window, which keeps the last 16 (R75). -/
def pushWindow (w : List Int) (v : Int) : List Int := (w ++ [v]).drop ((w ++ [v]).length - 16)

/-- The fastest profile whose ceiling a running figure does not exceed (R78). -/
def profileFor (figure : Int) : Profile := if figure ≤ 120 then .fast else if figure ≤ 220 then .standard else .step

/-- The fallback a running figure decides: pending at the new profile, and never set back to a faster one (R78). -/
def Station.fallBack (t : Station) (figure : Int) : Station :=
  match t.profile.bind Profile.ceiling with
  | none => t
  | some c =>
    if c < figure then
      { t with fallback := some (match t.fallback with
          | some p => p.slower (profileFor figure)
          | none => profileFor figure) }
    else t

/-- The peak after a running figure (R23). -/
def PassRecord.withFigure (p : PassRecord) (figure : Int) : PassRecord :=
  { p with peak := some (match p.peak with
      | some v => if v < figure then figure else v
      | none => figure) }

/-- An accepted interval: the window, the running figure, the peak and the fallback (R75, R78). -/
def State.intervalAccepted (s : State) (st : StationId) (i : Nat) (v : Int) : State :=
  let s := s.updStation st (fun t => { t with window := pushWindow t.window v })
  match windowFigure (s.station st).window with
  | none => s
  | some figure => (s.updRunning i (·.withFigure figure)).updStation st (·.fallBack figure)

/-- A leading edge at position `x` (R74). -/
def State.leadingEdge (s : State) (st : StationId) (i pitch x : Nat) : State :=
  let refer := fun (s : State) => s.updStation st (fun t => { t with filter := { t.filter with reference := some x } })
  match (s.station st).filter.reference with
  | none => refer s
  | some r => match judgeInterval pitch (x - r) with
    | .short => s
    | .accepted => (refer s).intervalAccepted st i (shrinkageOf pitch (x - r))
    | .tear => (refer s).tearFound st (s.station st).lastGate

/-- PERF INTERVAL (R73 to R75). The whole report, a transition left pending before it included, is judged by the filter
setting that stands now (log entry 79). -/
def State.perfTaken (s : State) (st : StationId) (f : PerfFields) : State :=
  let t := s.station st
  if t.runsAtSpeed = false then s
  else
    let run := t.filter.run t.filterSetting f
    let s := s.updStation st (fun t =>
      { t with filter := { t.filter with level := some run.level, pendingAt := run.pendingAt } })
    match s.reelIn st with
    | none => s
    | some i => match s.reel? i with
      | none => s
      | some r => run.edges.foldl (fun s x => s.leadingEdge st i r.gauge.pitch x) s

/-! ### Faults (R84, R85) -/

/-- The states in which BREAK is taken (R84). -/
def StationState.takesBreak : StationState → Bool
  | .threaded => true
  | .running => true
  | .starved => true
  | .halted => true
  | .rewinding => true
  | _ => false

/-- BREAK, steps 1 to 6 (R84), then what the work order's capture that has ended asks for (R109, R112). -/
def State.breakTaken (s : State) (st : StationId) : State :=
  if (s.station st).state.takesBreak = false then s
  else
    let s := (s.toStation st .safe).updStation st (fun t =>
      { t with state := .broken, motion := .stopped, threaded := false, stopPending := .none })
    let s := ((s.abandon st).leaveLanes st).pauseOrder st
    let s := (s.reverifyIn st).updStation st (fun t => { t with tagRead := none, markRead := none })
    (s.raise .filmBreak { station := some st, reel := s.reelIn st, frame := (s.station st).lastGate }).afterCapture st

/-- SEIZE (R85, R99). -/
def State.seizeTaken (s : State) (st : StationId) (names : List Byte) : State :=
  let x := (s.station st).state
  if x.beats = false then s
  else
    let s := s.updStation st (fun t => { t with faults := (names.map FaultName.reported).foldl addFault t.faults })
    if x = .seized then s
    else
      let s := (s.toStation st .safe).updStation st (fun t => { t with state := .seized, motion := .stopped })
      let s := s.updSource (fun p => if p.assigned = some st then { PatternSource.idle with assigned := some st } else p)
      let s := ((s.abandon st).leaveLanes st).pauseOrder st
      (s.raise .stationSeized { station := some st, reel := s.reelIn st }).afterCapture st

end Sys2Proof.Machine
end

