-- ==== Sys2Proof/Machine/OrderRequests.lean ====
section
/-!
DEFINITION. What the Work Order Unit answers to its requests (chapter 5).
-/
namespace Sys2Proof.Machine

/-! ### Opening (R103 to R106) -/

/-- The slots outside FREE that hold frames of a station's work orders (R103, R116). -/
def State.slotsHeld (s : State) (st : StationId) : Nat :=
  s.store.slots.toList.countP (fun x => x.state != .free && x.order == some st)

/-- The cue frames are in strictly rising order (R103, check 8). -/
def cuesRise : List Cue → Bool
  | [] => true
  | [_] => true
  | a :: b :: rest => decide (a.frame < b.frame) && cuesRise (b :: rest)

/-- A cue list is one a work order over this map and range may hold (R103, check 8). -/
def cuesFit (map : List Segment) (first last : Nat) (cues : List Cue) : Bool :=
  cuesRise cues && cues.all (fun c =>
    decide (first ≤ c.frame) && decide (c.frame ≤ last) && (segmentAt map c.frame).any (fun g => g.kind == .picture))

/-- The body a work order is opened with (R104, R105). -/
def State.openedBody (s : State) (reel : Option Nat) (first last : Nat) : OrderBody :=
  let b : OrderBody := { reel := reel, first := first, last := last, nextCapture := first, nextDeliver := first,
                         lastCaptured := none }
  { b with nextCapture := s.capturableFrom b first, nextDeliver := s.deliverableFrom b first }

/-- The record becomes OPEN; the station clears its last tear frame and its shrinkage window (R104, R105). -/
def State.fillOrder (s : State) (st : StationId) (b : OrderBody) (p : Profile) (cues : List Cue) : State :=
  (s.updOrder st (fun _ =>
    { state := .open, ending := .none, requested := p, body := some b, cues := cues, passBegun := false })).updStation
    st (fun t => { t with lastTear := none, window := [] })

/-- The answer to an accepted OPEN WORK ORDER (R104). -/
def OrderBody.opened (b : OrderBody) : Answer := .orderOpened b.first b.last b.nextCapture b.nextDeliver

/-- Check 3 of R103: the station has no work order and no slot of its previous one is held. -/
def State.orderFree (s : State) (st : StationId) : Bool := !s.hasOrder st && s.slotsHeld st == 0

/-- OPEN WORK ORDER for a reel, from check 2 on (R103, R104). -/
def State.openReel (s : State) (st : StationId) (i first asked : Nat) (p : Profile) (cues : List Cue) : Answered :=
  match s.reel? i with
  | none => s.refuse .notFound
  | some r =>
    let last := min asked (r.length - 1)
    if s.orderFree st = false then s.refuse .wrongState
    else if (s.station st).state ≠ .threaded then s.refuse .wrongState
    else if r.location ≠ .chamber st.val then s.refuse .location
    else if r.custody ≠ .verified then s.refuse .wrongState
    else if r.length ≤ first ∨ last < first then s.refuse .malformed
    else if cuesFit r.segments first last cues = false then s.refuse .malformed
    else if r.passLimit ≤ r.history.length then
      (s.raise .passLimitReached { station := some st, reel := some i }, .refused .passLimit)
    else
      let b := s.openedBody (some i) first last
      ((s.fillOrder st b p cues).updReel i (fun r => { r with order := some st }),
        doneOr (clampEntry 3 asked last) b.opened)

/-- The frame count taken of one asked for (R105). -/
def clampCount (n : Nat) : Nat := clampNat 1 1000 n

/-- The segment map of a loopback range: one PICTURE segment with repair mode CONCEAL (R87). -/
def loopbackMap (last : Nat) : List Segment :=
  [{ first := 0, last := last, kind := .picture, repair := .conceal, grade := .apply, spliceStart := false }]

/-- OPEN WORK ORDER for a station in LOOPBACK, from check 3 on (R105). R105 names no answer for it: it carries what R104
names for a reel (log entry 54). -/
def State.openLoopback (s : State) (st : StationId) (n : Nat) (p : Profile) (cues : List Cue) : Answered :=
  let last := clampCount n - 1
  if s.orderFree st = false then s.refuse .wrongState
  else if (s.station st).state ≠ .loopback then s.refuse .wrongState
  else if cuesFit (loopbackMap last) 0 last cues = false then s.refuse .malformed
  else
    let b := s.openedBody none 0 last
    (s.fillOrder st b p cues, doneOr (clampEntry 1 n (clampCount n)) b.opened)

/-- OPEN WORK ORDER (R103, R105). -/
def State.openOrder (s : State) (f : OpenFields) : Answered :=
  let cues := f.cues.getD []
  match stationOf f.station with
  | none => s.refuse .malformed
  | some st =>
    if Config.cueLimit < cues.length then s.refuse .malformed
    else match f.subject with
    | .reel i first last => s.openReel st i first last f.profile cues
    | .loopback n => s.openLoopback st n f.profile cues

/-- SET CUES (R106). -/
def State.setCues (s : State) (n : Nat) (cues : List Cue) : Answered :=
  match stationOf n with
  | none => s.refuse .malformed
  | some st =>
    if Config.cueLimit < cues.length then s.refuse .malformed
    else match s.openBody? st with
    | none => s.refuse .wrongState
    | some b =>
      if cuesFit (s.mapOf b) b.first b.last cues = false then s.refuse .malformed
      else (s.updOrder st (fun w => { w with cues := cues })).doneEmpty

/-! ### Start (R77, R107) -/

/-- The work order becomes ACTIVE (R107). -/
def State.activate (s : State) (st : StationId) : State := s.updOrder st (fun w => { w with state := .active })

/-- Nothing is left to capture: the work order is at once DRAINING with end COMPLETED, and may close (R107, R112). -/
def State.startEmpty (s : State) (st : StationId) : Answered :=
  ((((s.activate st).drain st .completed).afterCapture st).arbiterAtStart st,
    .done (.profileTaken (s.order st).requested))

/-- START of a loopback work order: the source becomes FEEDING, the station joins the wait list, and frame next-capture
is offered (R87, R89, R107). With a stop still pending, the source feeds when the stop has been taken (`haltIfDone`, log
entry 21). Its frames all count as PICTURE frames, so that the arbiter is not tested (R168, R169). -/
def State.startLoopback (s : State) (st : StationId) : Answered :=
  ((s.activate st).feed st, .done (.profileTaken .standard))

/-- The effective profile: the slowest of the five inputs of R77. -/
def effectiveProfile (requested fastest permitted : Profile) (current fallback : Option Profile) : Profile :=
  let p := (requested.slower fastest).slower permitted
  let p := match current with
    | some c => p.slower c
    | none => p
  match fallback with
  | some c => p.slower c
  | none => p

/-- The station's part of START can be taken (R77). -/
def State.stationStarts (s : State) (st : StationId) (r : Reel) : Bool :=
  let t := s.station st
  (t.state == .threaded || t.state == .halted) && r.custody == .verified
    && t.capabilities.any (fun c => c.gauges.has r.gauge)

/-- START of a work order naming a reel, once the station has taken its part: a pending fallback takes effect, the
effective profile becomes current, and the station prerolls (R77 to R79). -/
def State.startReel (s : State) (st : StationId) (r : Reel) : Answered :=
  let t := s.station st
  let asked := (s.order st).requested
  let p := effectiveProfile asked ((t.capabilities.map (·.fastest)).getD .step) (permittedProfile r.grade)
    t.profile t.fallback
  let s := (s.activate st).takeFallback st
  let s := (s.updStation st (fun t => { t with profile := some p, fallback := none })).preroll st
  (s.arbiterAtStart st, if p = asked then .done (.profileTaken p) else .doneClamped [] (.profileTaken p))

/-- START (R107). A delivery it begins has its picture placed before START's own reply, which `takeRequest` places last
(log entry 58). -/
def State.start (s : State) (n : Nat) : Answered :=
  match stationOf n with
  | none => s.refuse .malformed
  | some st =>
    let w := s.order st
    match w.body with
    | none => s.refuse .wrongState
    | some b =>
      if w.state ≠ .open ∧ w.state ≠ .paused then s.refuse .wrongState
      else match b.reel with
      | none =>
        if (s.station st).state ≠ .loopback then s.refuse .wrongState
        else if b.last < b.nextCapture then s.startEmpty st
        else s.startLoopback st
      | some i => match s.reel? i with
        | none => s.refuse .wrongState
        | some r =>
          if s.stationStarts st r = false then s.refuse .wrongState
          else if b.last < b.nextCapture then s.startEmpty st
          else s.startReel st r

/-! ### Pause, stop, abort, query (R108, R109, R114, R116) -/

/-- PAUSE (R108). -/
def State.pause (s : State) (n : Nat) : Answered :=
  match stationOf n with
  | none => s.refuse .malformed
  | some st => match (s.order st).state with
    | .active => ((s.updOrder st (fun w => { w with state := .paused })).giveStop st .pause).doneEmpty
    | .paused => s.doneEmpty
    | _ => s.refuse .wrongState

/-- A work order in this state can be stopped (R109). -/
def OrderState.stoppable : OrderState → Bool
  | .open => true
  | .active => true
  | .paused => true
  | _ => false

/-- STOP (R109). -/
def State.stop (s : State) (n : Nat) : Answered :=
  match stationOf n with
  | none => s.refuse .malformed
  | some st =>
    if (s.order st).state.stoppable then
      (((s.drain st .stopped).giveStop st .drain).afterCapture st).doneEmpty
    else s.refuse .wrongState

/-- ABORT (R114). -/
def State.abort (s : State) (n : Nat) : Answered :=
  match stationOf n with
  | none => s.refuse .malformed
  | some st => if s.hasOrder st then (s.abortOrder st false).doneEmpty else s.refuse .wrongState

/-- QUERY WORK ORDER (R116). -/
def State.queryOrder (s : State) (n : Nat) : Answered :=
  match stationOf n with
  | none => s.refuse .malformed
  | some st => s.answer (.orderReport (s.order st) (s.slotsHeld st))

end Sys2Proof.Machine
end

