-- ==== Sys2Proof/Machine/PictureRequests.lean ====
section
/-!
DEFINITION. What the Frame Store, the Repair Engine, the Grade Engine and the Delivery Unit answer to their requests
(R128, R131, R133, R149, R152 to R155, R166, R176).
-/
namespace Sys2Proof.Machine

/-! ### The frame store (R128, R131) -/

/-- A tile span lies in the tiles of a gauge (R128, check 1). -/
def spanFits (g : Gauge) (t : TileSpan) : Bool :=
  decide (t.row < g.tileRows) && decide (t.firstCol ≤ t.lastCol) && decide (t.lastCol < g.tileCols)

/-- The gauge a MARK DEFECT is checked against: that of the work order, or G35-4 without one (R128). -/
def State.markGauge (s : State) (st : StationId) : Gauge := ((s.openBody? st).map s.gaugeOf).getD .g35x4

/-- The slot of a station's work order that holds a frame before its repair (R128). -/
def State.gatheringSlot (s : State) (st : StationId) (f : Nat) : Option Nat :=
  if s.hasOrder st then (s.slotOf st f).filter (fun k => (s.slot? k).any (fun x => x.state.beforeRepair)) else none

/-- A HOST record as MARK DEFECT adds it (R128). -/
def hostRecord (t : TileSpan) : Defect := { kind := .host, span := some t, count := 0, outcome := .marked }

/-- MARK DEFECT (R128). -/
def State.markDefect (s : State) (n f : Nat) (t : TileSpan) : Answered :=
  match stationOf n with
  | none => s.refuse .malformed
  | some st =>
    if spanFits (s.markGauge st) t = false then s.refuse .malformed
    else match s.gatheringSlot st f with
    | none => s.refuse .wrongState
    | some k =>
      let l := ((s.slot? k).map (·.defects)).getD []
      if Config.defectLimit ≤ l.length then s.refuse .noSpace
      else if l.any (fun d => d.kind == .host && d.span == some t) then s.doneEmpty
      else (s.updSlot k (fun x => { x with defects := x.defects ++ [hostRecord t] })).doneEmpty

/-- The number of slots in each of the eight states (R131). -/
def State.slotCounts (s : State) : List Nat :=
  [SlotState.free, .filling, .waiting, .queued, .analysing, .ready, .sending, .kept].map
    (fun x => s.store.slots.toList.countP (fun k => k.state == x))

/-- The station and frame a slot holds (R131). -/
def State.heldIn (s : State) (k : Nat) : Option (StationId × Nat) :=
  (s.slot? k).bind (fun x => x.order.bind (fun st => x.frame.map (fun f => (st, f))))

/-- One slot of QUERY STORE (R131). -/
def Slot.report (x : Slot) (k : Nat) : SlotReport :=
  { slot := k, state := x.state, frame := x.frame.getD 0, predecessor := x.predecessor, successor := x.successor
    mode := x.mode, defects := x.defects.length, flags := x.flags, freeAtEnd := x.freeAtEnd }

/-- Put a slot report into a list in ascending frame order (R131). -/
def insertReport (r : SlotReport) : List SlotReport → List SlotReport
  | [] => [r]
  | q :: rest => if r.frame < q.frame then r :: q :: rest else q :: insertReport r rest

/-- The slots outside FREE of a station, in ascending frame order (R131). -/
def State.slotList (s : State) (st : StationId) : List SlotReport :=
  ((s.store.slots.toList.zipIdx.filter (fun x => x.1.state != .free && x.1.order == some st)).map
    (fun x => x.1.report x.2)).foldl (fun acc r => insertReport r acc) []

/-- The answer to QUERY STORE (R131). -/
def State.storeAnswer (s : State) (slots : Option (List SlotReport)) : Answer :=
  .storeReport s.slotCounts (s.store.queue.filterMap s.heldIn) (s.engine.analysis.map (fun a => (a.station, a.frame)))
    (s.delivery.message.map (fun m => (m.station, m.frame))) slots

/-- QUERY STORE (R131). -/
def State.queryStore (s : State) (station : Option Nat) : Answered :=
  match station with
  | none => s.answer (s.storeAnswer none)
  | some n => match stationOf n with
    | none => s.refuse .malformed
    | some st => s.answer (s.storeAnswer (some (s.slotList st)))

/-! ### The repair engine (R133, R149) -/

/-- The temporal threshold taken (R133). -/
def clampT (v : Nat) : Nat := clampNat 16 1023 v

/-- The infrared threshold taken (R133). -/
def clampIthr (v : Nat) : Nat := clampNat 1 255 v

/-- The least candidates taken (R133). -/
def clampNmin (v : Nat) : Nat := clampNat 1 255 v

/-- The settings SET DETECTOR leaves (R133). -/
def Detector.put (d : Detector) (f : DetectorFields) : Detector :=
  let nmin := (f.nmin.map clampNmin).getD d.nmin
  { t := (f.t.map clampT).getD d.t, ithr := (f.ithr.map clampIthr).getD d.ithr, nmin := nmin
    nmax := match f.nmax with
      | some v => clampNat nmin 4096 v
      | none => max nmin d.nmax }

/-- The clamp entries of SET DETECTOR: each value named that was clamped, and N_max when it was raised (R133). -/
def detectorClamps (d : Detector) (f : DetectorFields) : List Clamp :=
  let taken := d.put f
  clampEntry? 0 f.t clampT ++ clampEntry? 1 f.ithr clampIthr ++ clampEntry? 2 f.nmin clampNmin
    ++ clampEntry 3 (f.nmax.getD d.nmax) taken.nmax

/-- SET DETECTOR (R133). -/
def State.setDetector (s : State) (f : DetectorFields) : Answered :=
  let d := s.engine.settings.put f
  ({ s with engine := { s.engine with settings := d } },
    doneOr (detectorClamps s.engine.settings f) (.detectorSettings d))

/-- QUERY DETECTOR (R133). -/
def State.queryDetector (s : State) : Answered := s.answer (.detectorReport s.engine.settings s.engine.analysis)

/-- The gauge of the work order a slot's frame belongs to (R117). -/
def State.slotGauge (s : State) (st : StationId) : Gauge := ((s.order st).body.map s.gaugeOf).getD .g35x4

/-- What QUERY DEFECTS answers of a slot (R149). Repair mode and defect tiles are two optional items, both absent before the
repair, which is the model's choice (log entry 74). -/
def State.defectAnswer (s : State) (st : StationId) (x : Slot) : Answered :=
  match x.state with
  | .analysing => s.refuse .wrongState
  | .ready => s.answer (.defectReport x.defects x.flags x.mode (some (defectTiles (s.slotGauge st) x.defects)))
  | .sending => s.answer (.defectReport x.defects x.flags x.mode (some (defectTiles (s.slotGauge st) x.defects)))
  | .kept => s.answer (.defectReport x.defects x.flags x.mode (some (defectTiles (s.slotGauge st) x.defects)))
  | _ => s.answer (.defectReport x.defects x.flags none none)

/-- QUERY DEFECTS (R149), answered from any slot that names the station, one of a CLOSED work order included
(log entry 60). -/
def State.queryDefects (s : State) (n f : Nat) : Answered :=
  match stationOf n with
  | none => s.refuse .malformed
  | some st => match (s.slotOf st f).bind s.slot? with
    | none => s.refuse .notFound
    | some x => s.defectAnswer st x

/-! ### The grade engine (R152 to R155, R166) -/

/-- A lift taken (R152). -/
def clampLift (v : Int) : Int := clampInt (-512) 511 v

/-- A gain taken (R152). -/
def clampGain (v : Nat) : Nat := clampNat 0 4095 v

/-- A saturation taken (R152). -/
def clampSaturation (v : Nat) : Nat := clampNat 0 512 v

/-- A triple with a function applied to each channel. -/
def mapRgb (f : Nat → Nat) (x : Rgb Nat) : Rgb Nat := { red := f x.red, green := f x.green, blue := f x.blue }

/-- The parameter set taken (R152). -/
def clampSet (p : ParamSet) : ParamSet :=
  { lift := { red := clampLift p.lift.red, green := clampLift p.lift.green, blue := clampLift p.lift.blue }
    gain := mapRgb clampGain p.gain, saturation := clampSaturation p.saturation }

/-- The clamp entries of SET KEYFRAME (R152, R192). -/
def keyframeClamps (p : ParamSet) : List Clamp :=
  clampEntry 3 p.lift.red (clampLift p.lift.red) ++ clampEntry 4 p.lift.green (clampLift p.lift.green)
    ++ clampEntry 5 p.lift.blue (clampLift p.lift.blue) ++ clampEntry 6 p.gain.red (clampGain p.gain.red)
    ++ clampEntry 7 p.gain.green (clampGain p.gain.green) ++ clampEntry 8 p.gain.blue (clampGain p.gain.blue)
    ++ clampEntry 9 p.saturation (clampSaturation p.saturation)

/-- The list holds a keyframe at a frame (R152, R153). -/
def hasKeyframe (l : List Keyframe) (k : Nat) : Bool := l.any (fun x => x.frame == k)

/-- A keyframe placed: replaced at its frame, or inserted in ascending order (R152). -/
def putKeyframe (x : Keyframe) : List Keyframe → List Keyframe
  | [] => [x]
  | y :: rest =>
    if x.frame < y.frame then x :: y :: rest
    else if x.frame = y.frame then x :: rest
    else y :: putKeyframe x rest

/-- The length of a reel's grade list and the free entries of the pool, as a reply carries them (R152, R153). -/
def State.poolAnswer (s : State) (i : Nat) : Answer :=
  .poolCounts (((s.reel? i).map (·.keyframes.length)).getD 0) s.keyframesFree

/-- SET KEYFRAME (R152). -/
def State.setKeyframe (s : State) (f : KeyframeFields) : Answered :=
  match s.reel? f.reel with
  | none => s.refuse .notFound
  | some r =>
    if r.length ≤ f.frame then s.refuse .malformed
    else if hasKeyframe r.keyframes f.frame = false
        ∧ (Config.gradeListLimit ≤ r.keyframes.length ∨ Config.keyframePool ≤ s.keyframesUsed) then s.refuse .noSpace
    else
      let x : Keyframe := { frame := f.frame, transition := f.transition, params := clampSet f.params }
      let s := s.setReel f.reel (some { r with keyframes := putKeyframe x r.keyframes })
      (s, doneOr (keyframeClamps f.params) (s.poolAnswer f.reel))

/-- DELETE KEYFRAME (R153). -/
def State.deleteKeyframe (s : State) (i k : Nat) : Answered :=
  match s.reel? i with
  | none => s.refuse .notFound
  | some r =>
    if r.length ≤ k then s.refuse .malformed
    else if hasKeyframe r.keyframes k = false then s.refuse .notFound
    else
      let s := s.setReel i (some { r with keyframes := r.keyframes.filter (fun x => x.frame != k) })
      s.answer (s.poolAnswer i)

/-- CLEAR GRADE LIST (R154). -/
def State.clearGradeList (s : State) (i : Nat) : Answered :=
  match s.reel? i with
  | none => s.refuse .notFound
  | some r =>
    let s := s.setReel i (some { r with keyframes := [] })
    s.answer (.listCleared r.keyframes.length s.keyframesFree)

/-- QUERY GRADE LIST (R155). -/
def State.queryGradeList (s : State) (i : Nat) : Answered :=
  match s.reel? i with
  | none => s.refuse .notFound
  | some r => s.answer (.gradeList r.keyframes s.keyframesUsed s.keyframesFree)

/-- A code value taken (R166). -/
def clampCode (v : Nat) : Nat := clampNat 0 4095 v

/-- The clamp entries of a triple: its channels count as fields 2, 3 and 4 (R166, R192, log entry 61). -/
def tripleClamps : Option (Rgb Nat) → List Clamp
  | none => []
  | some x => clampEntry 2 x.red (clampCode x.red) ++ clampEntry 3 x.green (clampCode x.green)
      ++ clampEntry 4 x.blue (clampCode x.blue)

/-- EVALUATE GRADE (R166). -/
def State.evaluateGrade (s : State) (i f : Nat) (triple : Option (Rgb Nat)) : Answered :=
  match s.reel? i with
  | none => s.refuse .notFound
  | some r =>
    if r.length ≤ f then s.refuse .malformed
    else
      let g := (segmentAt r.segments f).getD default
      let p := paramSetAt r.keyframes f
      (s, doneOr (tripleClamps triple) (.evaluation g.kind g.grade (treatmentOf g.kind g.grade)
        (intervalAt r.keyframes f) p (triple.map (fun x => transferStages p (mapRgb clampCode x)))))

/-! ### The delivery unit (R176) -/

/-- One station of QUERY DELIVERY (R176). -/
def State.deliveryEntry (s : State) (st : StationId) : DeliveryReport :=
  let w := s.order st
  let has := (s.item st).isSome
  { state := w.state, nextDeliver := w.body.map (·.nextDeliver), hasItem := has
    slotState := if has = false ∧ w.state.offers = true then
        ((w.body.bind (fun b => s.slotOf st b.nextDeliver)).bind s.slot?).map (·.state)
      else none }

/-- QUERY DELIVERY (R176). -/
def State.queryDelivery (s : State) : Answered :=
  s.answer (.deliveryReport s.delivery.channel s.delivery.lastServed
    (s.delivery.message.map (fun m => (m.station, m.frame, m.treatment)))
    (([0, 1, 2, 3] : List StationId).map s.deliveryEntry))

end Sys2Proof.Machine
end

