-- ==== Sys2Proof/Machine/RegistryRequests.lean ====
section
/-!
DEFINITION. What the Reel Registry answers to its fourteen requests (chapter 1): the checks in the order the rules give
them, the change, and the reply.
-/
namespace Sys2Proof

/-- The initial location is one an enrolment may name (R3, check 1). -/
def Location.enrollable : Location → Bool
  | .cell c => decide (c < Config.shelfCells)
  | .staging p => decide (p < Config.stagingPositions)
  | .unknown => true
  | _ => false

end Sys2Proof

namespace Sys2Proof.Machine

/-! ### Enrolment (R3, R4) -/

/-- The acid reading taken of a reading asked for (R3, R5, R16). -/
def clampReading (v : Nat) : Nat := clampNat 0 30 v

/-- The pass limit taken of a limit asked for (R3, R5). -/
def clampLimit (v : Nat) : Nat := clampNat 1 Config.passLimitMax v

/-- The length taken of a length asked for (R3). -/
def clampLength (v : Nat) : Nat := clampNat 1 60000 v

/-- The quarantine flag a new reel takes from its reading (R4, R16). -/
def newQuarantine (threshold : Nat) (reading : Option Nat) : Bool :=
  reading.any (fun v => decide (threshold ≤ clampReading v))

/-- The record an accepted enrolment fills (R4). -/
def newReel (threshold : Nat) (f : EnrollFields) : Reel :=
  let quarantine := newQuarantine threshold f.reading
  let length := clampLength f.length
  { tag := f.tag, headMark := none, title := f.title, gauge := f.gauge, base := f.base, emulsion := f.emulsion
    length := length
    segments := [{ first := 0, last := length - 1, kind := .picture, repair := .conceal, grade := .apply,
                   spliceStart := false }]
    keyframes := [], acid := f.reading.map clampReading, quarantine := quarantine, location := f.location
    cameFrom := (classOf f.base quarantine).zone
    home := match f.location with
      | .cell c => some c
      | _ => none
    custody := .none, hold := false, passLimit := (f.passLimit.map clampLimit).getD 12, history := []
    grade := none, peak := none, order := none }

/-- The place an enrolment or a LOCATE REEL into staging names is OCCUPIED-UNIDENTIFIED (R3, R6). -/
def State.unidentifiedAt (s : State) (p : Nat) : Bool := (s.position? p).any (fun x => x.state == .unidentified)

/-- Check 4 of R3: the place is free for a reel of the class. -/
def State.placeForNew (s : State) (cls : ReelClass) : Location → Bool
  | .cell c => s.cellState c == .free && zoneOfCell c == cls
  | .staging p => s.unidentifiedAt p
  | _ => true

/-- A staging position gets its occupant identified; its dwell counter runs on (R4, R6, R32). -/
def State.identifyAt (s : State) : Location → State
  | .staging p => s.updPosition p (fun x => { x with state := .occupied })
  | _ => s

/-- The clamp entries of an ENROLL REEL (R3, R192). -/
def enrollClamps (f : EnrollFields) : List Clamp :=
  clampEntry 5 f.length (clampLength f.length) ++ clampEntry? 7 f.reading clampReading
    ++ clampEntry? 8 f.passLimit clampLimit

/-- ENROLL REEL (R3, R4). -/
def State.enrollReel (s : State) (f : EnrollFields) : Answered :=
  if f.location.enrollable = false then s.refuse .malformed
  else if (s.findReel (fun r => r.tag == f.tag)).isSome then s.refuse .duplicate
  else match s.retained.reels.toList.findIdx? (·.isNone) with
  | none => s.refuse .noSpace
  | some i =>
    let r := newReel s.retained.threshold f
    if s.placeForNew r.cls f.location = false then s.refuse .location
    else
      let s := (s.setReel i (some r)).identifyAt f.location
      let s := if r.quarantine then s.raise .acidReadingHigh { reel := some i } else s
      (s, doneOr (enrollClamps f) (.reelIndex i))

/-! ### Amendment, location, retirement (R5 to R7) -/

/-- The record an accepted amendment leaves (R5). A class change releases a home cell outside the new zone (R19). -/
def Reel.amended (r : Reel) (threshold : Nat) (f : AmendFields) : Reel :=
  let written := { r with
    title := f.title.getD r.title, base := f.base.getD r.base, emulsion := f.emulsion.getD r.emulsion
    passLimit := (f.passLimit.map clampLimit).getD r.passLimit }
  (match f.reading with
    | some v => written.withReading threshold (clampReading v)
    | none => written).rehomed r.cls

/-- The clamp entries of an AMEND REEL (R5, R192). -/
def amendClamps (f : AmendFields) : List Clamp :=
  clampEntry? 4 f.passLimit clampLimit ++ clampEntry? 5 f.reading clampReading

/-- AMEND REEL (R5). -/
def State.amendReel (s : State) (i : Nat) (f : AmendFields) : Answered :=
  match s.reel? i with
  | none => s.refuse .notFound
  | some r =>
    let t := s.retained.threshold
    if (f.emulsion.isSome || f.passLimit.isSome) = true ∧ r.order.isSome = true then s.refuse .wrongState
    else if (r.amended t f).cls ≠ r.cls ∧ r.location.pinsClass = true then s.refuse .location
    else
      let alarms := f.reading.any (fun v => r.readingAlarms t (clampReading v))
      let s := s.setReel i (some (r.amended t f))
      let s := if alarms then s.raise .acidReadingHigh { reel := some i } else s
      (s, doneOr (amendClamps f) .empty)

/-- LOCATE REEL (R6). A place that is neither a cell nor a staging position is MALFORMED, as a number too large is. -/
def State.locateReel (s : State) (i : Nat) (place : Location) : Answered :=
  match place with
  | .cell c =>
    if Config.shelfCells ≤ c then s.refuse .malformed
    else match s.reel? i with
    | none => s.refuse .notFound
    | some r =>
      if r.location ≠ .unknown then s.refuse .wrongState
      else if zoneOfCell c = r.cls ∧ (s.cellState c = .free ∨ r.home = some c) then
        (s.setReel i (some { r.moved (.cell c) with home := some c })).doneEmpty
      else s.refuse .location
  | .staging p =>
    if Config.stagingPositions ≤ p then s.refuse .malformed
    else match s.reel? i with
    | none => s.refuse .notFound
    | some r =>
      if r.location ≠ .unknown then s.refuse .wrongState
      else if s.unidentifiedAt p = false then s.refuse .location
      else
        ((s.setReel i (some { r.moved (.staging p) with cameFrom := r.cls.zone })).identifyAt (.staging p)).doneEmpty
  | _ => s.refuse .malformed

/-- A record of the lift queue names the reel (R7, R36, R53). -/
def State.liftNames (s : State) (i : Nat) : Bool := s.stk.queue.any (fun m => m.reel == some i)

/-- RETIRE REEL (R7). -/
def State.retireReel (s : State) (i : Nat) : Answered :=
  match s.reel? i with
  | none => s.refuse .notFound
  | some r =>
    if r.order.isSome = true ∨ s.liftNames i = true then s.refuse .wrongState
    else if r.location.isCell = true ∨ r.location = .unknown then (s.setReel i none).answer (.reelIndex i)
    else s.refuse .location

/-! ### Queries (R8, R9) -/

/-- What QUERY REEL returns of a record (R8, R194). -/
def Reel.report (r : Reel) : ReelReport :=
  { tag := r.tag, headMark := r.headMark, title := r.title, gauge := r.gauge, base := r.base, emulsion := r.emulsion
    length := r.length, segments := r.segments.length, keyframes := r.keyframes.length, acid := r.acid
    quarantine := r.quarantine, cls := r.cls, hold := r.hold, location := r.location, cameFrom := r.cameFrom
    home := r.home, custody := r.custody, passLimit := r.passLimit, grade := r.grade, peak := r.peak
    order := r.order, passes := r.history.length, splices := r.knownSplices }

/-- A query about one reel: refused NOT FOUND for an unregistered index (R8, R9). -/
def State.queryOf (s : State) (i : Nat) (f : Reel → Answer) : Answered :=
  match s.reel? i with
  | none => s.refuse .notFound
  | some r => s.answer (f r)

/-- QUERY REEL (R8). -/
def State.queryReel (s : State) (i : Nat) : Answered := s.queryOf i (fun r => .reelRecord r.report)

/-- FIND REEL (R8). -/
def State.findReelByTag (s : State) (tag : CanTag) : Answered :=
  match s.findReel (fun r => r.tag == tag) with
  | none => s.refuse .notFound
  | some i => s.answer (.reelIndex i)

/-- LIST REELS (R8). -/
def State.listReels (s : State) : Answered :=
  s.answer (.reelList (s.registered.map (fun x =>
    { index := x.1, tag := x.2.tag, cls := x.2.cls, location := x.2.location })))

/-- QUERY SEGMENTS (R9). -/
def State.querySegments (s : State) (i : Nat) : Answered := s.queryOf i (fun r => .segmentList r.segments)

/-- QUERY PASS HISTORY (R9). -/
def State.queryPassHistory (s : State) (i : Nat) : Answered := s.queryOf i (fun r => .passList r.history)

/-! ### Segments (R11, R12) -/

/-- The segments of a list lie in order from a frame on, each beginning after the one before, and end at `last`
(R10, R11). -/
def segmentsCover : List Segment → Nat → Nat → Bool
  | [], _, _ => false
  | [g], start, last => g.first == start && decide (g.first ≤ g.last) && g.last == last
  | g :: h :: rest, start, last =>
    g.first == start && decide (g.first ≤ g.last) && segmentsCover (h :: rest) (g.last + 1) last

/-- A list is a segment map of a reel of this length (R10, R11). -/
def isSegmentMap (map : List Segment) (length : Nat) : Bool :=
  decide (1 ≤ map.length) && decide (map.length ≤ Config.segmentLimit) && segmentsCover map 0 (length - 1)

/-- SET SEGMENTS (R11). -/
def State.setSegments (s : State) (i : Nat) (map : List Segment) : Answered :=
  match s.reel? i with
  | none => s.refuse .notFound
  | some r =>
    if r.order.isSome then s.refuse .wrongState
    else if isSegmentMap map r.length = false then s.refuse .malformed
    else (s.setReel i (some { r with segments := map })).doneEmpty

/-- The modes of the segment that contains a frame, changed (R12). -/
def setModes (map : List Segment) (f : Nat) (repair : Option RepairMode) (grade : Option GradeMode) : List Segment :=
  map.map (fun g =>
    if g.first ≤ f ∧ f ≤ g.last then { g with repair := repair.getD g.repair, grade := grade.getD g.grade } else g)

/-- SET SEGMENT MODE (R12). -/
def State.setSegmentMode (s : State) (i f : Nat) (repair : Option RepairMode) (grade : Option GradeMode) : Answered :=
  match s.reel? i with
  | none => s.refuse .notFound
  | some r =>
    if r.length ≤ f then s.refuse .malformed
    else (s.setReel i (some { r with segments := setModes r.segments f repair grade })).doneEmpty

/-! ### Quarantine and hold (R17, R18, R21) -/

/-- The quarantine threshold taken of one asked for (R17). -/
def clampThreshold (v : Nat) : Nat := clampNat 5 30 v

/-- SET QUARANTINE THRESHOLD (R17). -/
def State.setQuarantineThreshold (s : State) (v : Nat) : Answered :=
  (s.setRetained s.retained.dwell (clampThreshold v), doneOr (clampEntry 0 v (clampThreshold v)) .empty)

/-- RELEASE QUARANTINE (R18). -/
def State.releaseQuarantine (s : State) (i : Nat) : Answered :=
  match s.reel? i with
  | none => s.refuse .notFound
  | some r =>
    if r.quarantine = false then s.doneEmpty
    else if r.acid.any (fun v => decide (s.retained.threshold ≤ v)) = true then s.refuse .stillAcid
    else if r.base ≠ .nitrate ∧ r.location.pinsClass = true then s.refuse .location
    else (s.setReel i (some ({ r with quarantine := false }.rehomed r.cls))).doneEmpty

/-- RELEASE HOLD (R21). -/
def State.releaseHold (s : State) (i : Nat) : Answered :=
  match s.reel? i with
  | none => s.refuse .notFound
  | some r => (s.setReel i (some { r with hold := false })).doneEmpty

end Sys2Proof.Machine
end

