-- ==== Sys2Proof/Machine/StackRequests.lean ====
section
/-!
DEFINITION. What the Stack Controller answers to its requests, what it does at each report of the lift, and its part of
a suite reset (chapter 2).
-/
namespace Sys2Proof

/-- A cell, a staging position or a chamber that exists: what a position of LIFT PASS may be (R53, R190). -/
def Location.isPosition : Location → Bool
  | .cell c => decide (c < Config.shelfCells)
  | .staging p => decide (p < Config.stagingPositions)
  | .chamber n => decide (n < Config.stationCount)
  | _ => false

/-- The last check of LIFT PASS, after those of R53: a position that does not exist is MALFORMED (R180, log entry 24). -/
def Location.passes (l : Location) : Option Machine.Reason := if l.isPosition then none else some .malformed

end Sys2Proof

namespace Sys2Proof.Machine

/-! ### Shelf and staging (R30, R33, R35) -/

/-- The number of cells of a zone in a state (R30). -/
def State.cellCount (s : State) (z : ReelClass) (x : CellState) : Nat := z.cells.countP (fun c => s.cellState c == x)

/-- QUERY SHELF (R30). -/
def State.queryShelf (s : State) (n : ShelfName) : Answered :=
  match n with
  | .cell c =>
    if Config.shelfCells ≤ c then s.refuse .malformed
    else s.answer (.shelfCell (zoneOfCell c) (s.cellState c) (s.homeReel c))
  | .zone z => match z.shelf? with
    | none => s.refuse .malformed
    | some k => s.answer (.shelfZone (s.cellCount k .free) (s.cellCount k .reserved) (s.cellCount k .occupied)
        (s.lowestFree k))

/-- The dwell taken of one asked for (R33). -/
def clampDwell (v : Nat) : Nat := clampNat 0 1440 v

/-- The dwell settings with the setting of a zone replaced (R33). -/
def DwellSettings.put (d : DwellSettings) (z : ReelClass) (v : Nat) : DwellSettings :=
  match z with
  | .n => { d with n := v }
  | .a => { d with a := v }
  | .q => { d with q := v }
  | .p => { d with p := v }

/-- SET DWELL (R33). The MOUNT records and the announcements it touches follow in `settle` (R34, R41). -/
def State.setDwell (s : State) (z : Zone) (v : Nat) : Answered :=
  match z.shelf? with
  | none => s.refuse .malformed
  | some k =>
    (s.setRetained (s.retained.dwell.put k (clampDwell v)) s.retained.threshold,
      doneOr (clampEntry 1 v (clampDwell v)) .empty)

/-- One position of QUERY STAGING (R35). -/
def State.stagingReport (s : State) (p : Nat) : StagingReport :=
  let x := (s.position? p).getD .powerOn
  let i := if x.state = .occupied then s.reelAt (.staging p) else none
  { state := x.state, reel := i, dwell := x.dwell, required := (i.bind s.reel?).map s.requiredDwell
    announced := x.announced }

/-- QUERY STAGING (R35). -/
def State.queryStaging (s : State) : Answered := s.answer (.stagingList ((List.range 8).map s.stagingReport))

/-! ### Move requests (R36 to R42) -/

/-- A record of the lift queue names the station (R36). -/
def State.liftNamesStation (s : State) (st : StationId) : Bool := s.stk.queue.any (fun m => m.station == some st)

/-- A new record of the lift queue (R36). -/
def newMove (kind : MoveKind) (reel : Option Nat) (station : Option StationId) (source : Location) (wait : Bool)
    (state : MoveState) : MoveRecord :=
  { kind := kind, reel := reel, station := station, source := source, destination := none, wait := wait, state := state
    number := none, target := none, cause := none }

/-- Check 5 of R36: the record joins the tail of the queue and the request is ACCEPTED, or the queue is full and the
request is answered BUSY. -/
def State.enqueueMove (s : State) (m : MoveRecord) : Answered :=
  if s.stk.queue.length < Config.liftQueueLimit then
    ({ s with stk := { s.stk with queue := s.stk.queue ++ [m] } }, .accepted (.moveState m.state))
  else (s, .busy)

/-- FETCH (R36, R37). -/
def State.fetch (s : State) (i : Nat) : Answered :=
  match s.reel? i with
  | none => s.refuse .notFound
  | some r =>
    if s.liftNames i then s.refuse .wrongState
    else if r.location.isCell = false then s.refuse .location
    else s.enqueueMove (newMove .fetch (some i) none r.location false .queued)

/-- MOUNT (R36, R38). -/
def State.mount (s : State) (i n : Nat) (wait : Bool) : Answered :=
  match stationOf n with
  | none => s.refuse .malformed
  | some st => match s.reel? i with
    | none => s.refuse .notFound
    | some r =>
      if s.liftNames i = true ∨ s.liftNamesStation st = true then s.refuse .wrongState
      else match r.location with
      | .staging p =>
        if (s.station st).state ≠ .empty then s.refuse .wrongState
        else if r.hold then s.refuse .held
        else if s.requiredDwell r ≤ s.dwellAt p then
          s.enqueueMove (newMove .mount (some i) (some st) r.location wait .queued)
        else if wait then s.enqueueMove (newMove .mount (some i) (some st) r.location wait .dwellWait)
        else s.refuse .acclimatizing
      | _ => s.refuse .location

/-- UNMOUNT (R36, R39). -/
def State.unmount (s : State) (n : Nat) : Answered :=
  match stationOf n with
  | none => s.refuse .malformed
  | some st =>
    if s.liftNamesStation st then s.refuse .wrongState
    else if (s.station st).state ≠ .loaded ∨ s.hasOrder st = true then s.refuse .wrongState
    else s.enqueueMove (newMove .unmount (s.reelIn st) (some st) (.chamber st.val) false .queued)

/-- RESHELVE (R36, R40). -/
def State.reshelve (s : State) (i : Nat) : Answered :=
  match s.reel? i with
  | none => s.refuse .notFound
  | some r =>
    if s.liftNames i then s.refuse .wrongState
    else match r.location with
    | .staging _ =>
      if r.hold then s.refuse .held
      else s.enqueueMove (newMove .reshelve (some i) none r.location false .queued)
    | _ => s.refuse .location

/-- The record is the one a CANCEL MOVE names: by its reel, or by its station for an UNMOUNT (R42). -/
def MoveRecord.named (m : MoveRecord) : MoveName → Bool
  | .reel i => m.reel == some i
  | .station n => m.kind == .unmount && m.station.any (fun st => st.val == n)

/-- CANCEL MOVE (R42). No record names a station above 3: such a number is NOT FOUND. -/
def State.cancelMove (s : State) (n : MoveName) : Answered :=
  match s.stk.queue.find? (·.named n) with
  | none => s.refuse .notFound
  | some m =>
    if m.isMove then s.refuse .wrongState
    else ({ s with stk := { s.stk with queue := s.stk.queue.filter (fun x => !x.named n) } } : State).doneEmpty

/-! ### The lift (R43, R48 to R53) -/

/-- QUERY LIFT (R43). -/
def State.queryLift (s : State) : Answered :=
  s.answer (.liftReport s.stk.lift s.stk.carriage s.stk.cause s.stk.forwarded s.stk.queue)

/-- STOP LIFT (R48, R56). -/
def State.stopLift (s : State) : Answered :=
  match s.stk.lift with
  | .moving => ((s.toLift .stop).haltMove .stop).doneEmpty
  | .idle => ((s.toLift .stop).haltIdle .stop).doneEmpty
  | .halted => s.doneEmpty
  | .direct => ((s.toLift .stop).endForwarded).doneEmpty

/-- RESUME LIFT (R49, R57). -/
def State.resumeLift (s : State) : Answered :=
  if s.stk.lift ≠ .halted ∨ s.stk.reported = false then s.refuse .wrongState
  else match s.move? with
  | some m => (s.redirect m .destination).doneEmpty
  | none => if s.stk.carriage = .empty then s.liftIdle.doneEmpty else s.refuse .wrongState

/-- RETURN LIFT (R50). -/
def State.returnLift (s : State) : Answered :=
  if s.stk.lift ≠ .halted then s.refuse .wrongState
  else match s.move? with
  | some m => (s.redirect m .source).doneEmpty
  | none => s.refuse .wrongState

/-- Direct control can be granted (R52, R57). -/
def State.directGranted (s : State) : Bool :=
  match s.stk.lift with
  | .idle => s.stk.carriage == .empty
  | .halted => s.move?.isNone && s.stk.reported
  | _ => false

/-- LIFT DIRECT (R52). -/
def State.liftDirect (s : State) : Answered :=
  if s.directGranted then
    (({ s with stk := { s.stk with lift := .direct, cause := none } } : State).raise .directGranted {}).doneEmpty
  else s.refuse .wrongState

/-- LIFT RELEASE (R52). -/
def State.liftRelease (s : State) : Answered :=
  if s.stk.lift ≠ .direct ∨ s.stk.carriage ≠ .empty ∨ s.stk.forwarded.isSome = true then s.refuse .wrongState
  else s.liftIdle.doneEmpty

/-- A command that passed its checks is sent to the lift and becomes the forwarded command in progress (R53). -/
def State.forward (s : State) (c : ForwardedCommand) : State :=
  ({ s with stk := { s.stk with forwarded := some c } } : State).toLift (.forwarded c)

/-- Checks 1 to 3 of R53, which every command with a position shares. -/
def State.passReason (s : State) (l : Location) : Option Reason :=
  if s.stk.lift ≠ .direct ∨ s.stk.forwarded.isSome = true then some .wrongState
  else if l.isChamber then some .location
  else none

/-- LIFT PASS with the reason of its first failing check, if any: a command that passes is forwarded (R53). -/
def State.pass (s : State) (c : ForwardedCommand) (r : Option Reason) : Answered :=
  match r with
  | some r => s.refuse r
  | none => (s.forward c).doneEmpty

/-- LIFT PASS GO TO (R53). -/
def State.liftPassGoTo (s : State) (l : Location) : Answered :=
  s.pass (.goTo l) ((s.passReason l).or (l.passes))

/-- Checks 4 and 5 of R53. -/
def State.pickReason (s : State) (l : Location) : Option Reason :=
  if s.stk.carriage ≠ .empty then some .wrongState
  else if (s.reelAt l).any s.liftNames then some .wrongState
  else none

/-- LIFT PASS PICK (R53). -/
def State.liftPassPick (s : State) (l : Location) : Answered :=
  s.pass (.pick l) (((s.passReason l).or (s.pickReason l)).or l.passes)

/-- Reel `i` may be set down at a cell: of its class zone, not occupied and no other reel's home cell (R53, R55). -/
def State.cellTakes (s : State) (i c : Nat) : Bool :=
  (s.reel? i).any (fun r => decide (c < Config.shelfCells) && zoneOfCell c == r.cls && s.cellState c != .occupied
    && (s.homeReel c).all (fun j => j == i))

/-- A staging position the part records as EMPTY (R53, R55). -/
def State.positionEmpty (s : State) (p : Nat) : Bool := (s.position? p).any (fun x => x.state == .empty)

/-- Checks 4 and 6 to 8 of R53. -/
def State.placeReason (s : State) (l : Location) : Option Reason :=
  if s.stk.carriage = .empty then some .wrongState
  else match l, s.stk.carriage with
  | .staging p, _ => if s.positionEmpty p then none else some .location
  | .cell _, .unidentified => some .location
  | .cell c, .reel i => if s.cellTakes i c then none else some .location
  | _, _ => none

/-- LIFT PASS PLACE (R53). -/
def State.liftPassPlace (s : State) (l : Location) : Answered :=
  s.pass (.place l) (((s.passReason l).or (s.placeReason l)).or l.passes)

/-- LIFT PASS PARK (R53). -/
def State.liftPassPark (s : State) : Answered :=
  s.pass .park (if s.stk.lift ≠ .direct ∨ s.stk.forwarded.isSome = true then some .wrongState else none)

/-! ### Reports of the lift (R48, R51, R54 to R56, R58) -/

/-- ARRIVED: the move whose record carries the number ends at its commanded target; any other number is ignored
(R51). -/
def State.liftArrived (s : State) (number : Nat) : State :=
  match s.stk.queue.find? (fun m => m.isMove && m.number == some number) with
  | some m => s.completeMove m
  | none => s

/-- The move timer reaches its limit: STOP is sent and the lift halts with cause TIMEOUT (R48). -/
def State.moveTimeout (s : State) : State :=
  if s.stk.lift = .moving ∧ s.stk.timer.isSome = true then (s.toLift .stop).haltMove .timeout else s

/-- FAULT (R48, R56). -/
def State.liftFaulted (s : State) : State :=
  match s.stk.lift with
  | .moving => s.haltMove .fault
  | .idle => s.haltIdle .fault
  | .halted => s
  | .direct => s.endForwarded.raise .liftHalted { reel := s.stk.carriage.reel? }

/-- The forwarded command in progress is a PICK. -/
def ForwardedCommand.isPick : ForwardedCommand → Bool
  | .pick _ => true
  | _ => false

/-- The forwarded command in progress is a PLACE. -/
def ForwardedCommand.isPlace : ForwardedCommand → Bool
  | .place _ => true
  | _ => false

/-- The forwarded command in progress ends when it is of the kind the report completes (R53). -/
def State.endForwardedIf (s : State) (p : ForwardedCommand → Bool) : State :=
  if s.stk.forwarded.any p then s.endForwarded else s

/-- The reel a pick takes: the one recorded at a cell or a staging position. The table of R54 has no row for a chamber or
a place that does not exist: the records name no reel that the lift could have taken there (log entry 20). -/
def State.pickedReel? (s : State) (l : Location) : Option Nat :=
  if l.isPosition = true ∧ l.isChamber = false then s.reelAt l else none

/-- What a pick at a place changes. A reel recorded on the carriage is lost first, wherever the pick is; at a place of no
row of the table the lift holds a can the part did not know of (R54, log entry 20). -/
def State.pickAt (s : State) (l : Location) : State :=
  let s := s.loseCarried
  match s.pickedReel? l with
  | some i =>
    ((s.updReel i (fun r => { r.moved .carriage with cameFrom := match l with
        | .cell c => (zoneOfCell c).zone
        | _ => r.cameFrom })).freePlace l).setCarriage (.reel i)
  | none =>
    let s := match l with
      | .staging p => if s.unidentifiedAt p then s.freePlace l else s
      | _ => s
    s.setCarriage .unidentified

/-- PICKED (R54). -/
def State.liftPicked (s : State) (l : Location) : State :=
  if s.stk.lift ≠ .direct then s else (s.endForwardedIf (·.isPick)).pickAt l

/-- Reel `i` set down where the records allow it, or else UNKNOWN (R55). -/
def State.placeReel (s : State) (i : Nat) (l : Location) : State :=
  match l with
  | .staging p => if s.positionEmpty p then (s.moveReel i l).placeAt l .occupied else s.loseReel i
  | .cell c => if s.cellTakes i c then s.updReel i (fun r => { r.moved l with home := some c }) else s.loseReel i
  | _ => s.loseReel i

/-- An unidentified can set down (R55). -/
def State.placeUnidentified (s : State) (l : Location) : State :=
  match l with
  | .staging p => if s.positionEmpty p then s.placeAt l .unidentified else s
  | _ => s

/-- PLACED (R55). -/
def State.liftPlaced (s : State) (l : Location) : State :=
  if s.stk.lift ≠ .direct then s
  else match s.stk.carriage with
  | .empty => s
  | .reel i => ((s.endForwardedIf (·.isPlace)).placeReel i l).setCarriage .empty
  | .unidentified => ((s.endForwardedIf (·.isPlace)).placeUnidentified l).setCarriage .empty
  | .unreported => ((s.endForwardedIf (·.isPlace)).placeUnidentified l).setCarriage .empty

/-- POSITIONED ends a forwarded GO TO or PARK (R56). -/
def State.liftPositioned (s : State) : State :=
  s.endForwardedIf (fun c => match c with
    | .goTo _ => true
    | .park => true
    | _ => false)

/-- CARRIAGE taken while the lift is HALTED without a record (R58). -/
def State.carriageHalted (s : State) (loaded : Bool) : State :=
  if loaded then
    match s.stk.carriage with
    | .reel _ => s
    | .unidentified => s
    | _ => (s.setCarriage .unidentified).raise .liftHalted {}
  else (s.loseCarried.setCarriage .empty).liftIdle

/-- CARRIAGE taken while the lift is IDLE (R58). -/
def State.carriageIdle (s : State) (loaded : Bool) : State :=
  if loaded then (s.setCarriage .unidentified).haltIdle .fault else s

/-- CARRIAGE taken under direct control (R58). -/
def State.carriageDirect (s : State) (loaded : Bool) : State :=
  let s := s.endForwarded
  if loaded then
    match s.stk.carriage with
    | .reel _ => s
    | _ => s.setCarriage .unidentified
  else s.loseCarried.setCarriage .empty

/-- CARRIAGE (R58). -/
def State.carriageReport (s : State) (loaded : Bool) : State :=
  let s := { s with stk := { s.stk with reported := true } }
  match s.stk.lift with
  | .halted => if s.move?.isSome then s else s.carriageHalted loaded
  | .idle => s.carriageIdle loaded
  | .moving => s.haltMove .fault
  | .direct => s.carriageDirect loaded

/-- A full minute at a staging position that holds a can (R32). -/
def State.dwellMinute (s : State) (p : Nat) : State :=
  s.updPosition p (fun x =>
    if x.state = .occupied ∨ x.state = .unidentified then { x with dwell := min 65535 (x.dwell + 1) } else x)

/-! ### Suite reset (R59) -/

/-- The lift's part of a suite reset (R59). -/
def State.resetLift (s : State) : State :=
  match s.stk.lift with
  | .moving => (s.toLift .stop).haltMove .reset
  | .direct =>
    let s := (s.toLift .stop).endForwarded
    if s.stk.carriage = .empty then s.liftIdle else s
  | _ => s

/-- The Stack Controller's part of a suite reset: the lift stops and the records that are not the lift's move leave the
queue (R59). -/
def State.resetStacks (s : State) : State :=
  let s := { s with stk := { s.stk with queue := s.stk.queue.filter (·.isMove) } }
  s.resetLift

end Sys2Proof.Machine
end

