-- ==== Sys2Proof/Machine/Link.lean ====
section
/-!
DEFINITION. The Link Controller (chapter 10): its own requests, the suite reset, the outbound list, and the power-on and
power-off of the part (R26, R27).
-/
namespace Sys2Proof.Machine

/-! ### Alert settings (R183, R184) -/

/-- Withdraw the waiting notices of the flags that are not reported (R183). -/
def Link.withdrawUnreported (l : Link) : Link :=
  AlertFlag.all.foldl (fun l f => if l.reported f then l else l.withdraw f) l

/-- Place the notices that are due, in ascending flag number (R183). -/
def Link.placeDue (l : Link) : Link := AlertFlag.all.foldl Link.placeNotice l

/-- The mask is replaced as a whole; a notice whose flag is no longer reported is withdrawn (R183). -/
def State.putMask (s : State) (mask : BitVec 32) : State :=
  s.updLink (fun l => { l with mask := mask.setWidth 22 }.withdrawUnreported)

/-- The master enable is turned on or off; with it off every waiting notice is withdrawn (R183). -/
def State.putEnable (s : State) (on : Bool) : State :=
  s.updLink (fun l => { l with enable := on }.withdrawUnreported)

/-- A flag is cleared: the flag, its pending mark and its waiting notice (R184). -/
def Link.clearFlag (l : Link) (f : AlertFlag) : Link :=
  { l with word := l.word &&& ~~~(BitVec.twoPow 22 f.number), pending := l.pending.set f.number none }.withdraw f

/-- CLEAR ALERTS (R184). -/
def State.clearAlerts (s : State) (flags : BitVec 32) : Answered :=
  let s := s.updLink (fun l => AlertFlag.all.foldl (fun l f => if flags.getLsbD f.number then l.clearFlag f else l) l)
  s.answer (.alertWord s.link.word)

/-- The pending marks as a word, bit n for flag n (R184). DESIGN CHOICE (log entry 81): QUERY ALERTS sends them in this
form. -/
def Link.pendingWord (l : Link) : AlertWord :=
  AlertFlag.all.foldl (fun w f => if l.pending[f.number].isSome then w ||| BitVec.twoPow 22 f.number else w) 0

/-- QUERY ALERTS (R184). -/
def State.queryAlerts (s : State) : Answered :=
  s.answer (.alertReport s.link.word s.link.pendingWord s.link.mask s.link.enable s.link.rejection)

/-! ### Clock and identity (R185, R186) -/

/-- The clock value taken of one asked for (R185). -/
def clampClock (v : Nat) : Nat := clampNat 0 86399 v

/-- SET CLOCK (R185). -/
def State.setClock (s : State) (v : Nat) : Answered :=
  (s.updLink (fun l => { l with clock := clampClock v }), doneOr (clampEntry 0 v (clampClock v)) .empty)

/-- The suite clock after one second (R185). -/
def nextSecond (c : Nat) : Nat := if c < 86399 then c + 1 else 0

/-- The end of a second (R185). -/
def State.secondEnds (s : State) : State := s.updLink (fun l => { l with clock := nextSecond l.clock })

/-- IDENTIFY (R186). -/
def State.identify (s : State) : Answered :=
  s.answer (.identity Config.partName s.link.retainedPassed s.link.clock
    (s.stations.toList.map (fun t => t.state == .detached)))

/-! ### Suite reset (R187) -/

/-- An entry of the outbound list that a suite reset keeps behind the one in transmission: the picture message and the
reply to RESET SUITE (R187). -/
def Outbound.survivesReset : Outbound → Bool
  | .picture => true
  | .reply _ => true
  | _ => false

/-- What LNK's own reset leaves, the reply DONE having been placed (R187, steps 1 and 2). The entry in transmission is
sent whole (R181). -/
def Link.afterReset (l : Link) : Link :=
  { l with
    queue := []
    outbound := l.outbound.take 1 ++ (l.outbound.drop 1).filter (·.survivesReset)
    word := 0, pending := Vector.replicate 22 none, mask := BitVec.allOnes 22, enable := false, rejection := none }

/-- Every capture in flight is abandoned and the lanes, the wait list and the pattern source take their power-on values:
no lane is given to a station at a suite reset (R98). -/
def State.clearLanes (s : State) : State :=
  { ([0, 1, 2, 3] : List StationId).foldl State.abandonQuietly s with lanes := .powerOn }

/-- One station's part of a suite reset: the work order is aborted without an alert, and the transport is made safe and
rediscovered (R86, R114, R187). -/
def State.resetStation (s : State) (st : StationId) : State := ((s.abortOrder st true).toStation st .safe).rediscover st

/-- RESET SUITE: the reply is placed, LNK's own state is reset, and the blocks act (R187). -/
def State.resetSuite (s : State) (h : RequestHeader) : State :=
  let s := (s.reply h (.done .empty)).updLink (·.afterReset)
  let s := ([0, 1, 2, 3] : List StationId).foldl State.resetStation s.clearLanes
  let s := { s with delivery := { s.delivery with lastServed := 3 } }
  s.resetStacks

/-! ### Power (R26, R27, R57) -/

/-- What power-on makes of a reel's record when the retained check passes (R27). -/
def Reel.atPowerOn (r : Reel) : Reel :=
  let r := if r.location.isChamber then r.moved .unknown else r
  { r with
    history := r.history.map (fun p => if p.outcome = .running then { p with outcome := .aborted } else p)
    order := none }

/-- The retained memory after a passed check (R27). -/
def Retained.atPowerOn (m : Retained) : Retained :=
  { m with reels := m.reels.map (fun o => o.map (·.atPowerOn)), checkAgrees := true }

/-- A staging position that is a reel's location is OCCUPIED at power-on (R31). -/
def State.occupyAt (s : State) (p : Nat) : State :=
  if (s.reelAt (.staging p)).isSome then s.updPosition p (fun x => { x with state := .occupied }) else s

/-- Power-on after a passed check: every block at its power-on values, the retained memory adjusted, and the findings
raised (R27, R31, R57). -/
def State.powerOnPassed (s : State) : State :=
  let lost := s.registered.any (fun x => x.2.location.isChamber)
  let t := { State.unpowered s.retained.atPowerOn s.pending with powered := true }
  let t := (List.range 8).foldl State.occupyAt t
  let t := if lost then t.raise .locationUnknown {} else t
  match t.reelAt .carriage with
  | some i => (t.setCarriage (.reel i)).raise .liftHalted { reel := some i }
  | none => t

/-- Power-on after a failed check: the retained memory takes its defaults and RETAINED LOST is raised (R27). -/
def State.powerOnFailed (s : State) : State :=
  let t := { State.unpowered .default s.pending with powered := true }
  (t.updLink (fun l => { l with retainedPassed := false })).raise .retainedLost {}

/-- Power is applied (R27). -/
def State.applyPower (s : State) : State :=
  (if s.retained.checkAgrees then s.powerOnPassed else s.powerOnFailed).settle

/-- Power is removed: all volatile state is lost, and a retained write that it interrupts leaves the check word not
describing the content (R26). -/
def State.removePower (s : State) (interruptsWrite : Bool) : State :=
  State.unpowered { s.retained with checkAgrees := s.retained.checkAgrees && !interruptsWrite } s.pending

end Sys2Proof.Machine
end

