-- ==== Sys2Proof/Machine/Wire.lean ====
section
/-!
DEFINITION. Requests on the suite link: the link frame (R188, R189), the message header and the field encodings (R190),
and the request body with its presence byte (R191), read from bytes and written as bytes.
-/
namespace Sys2Proof

/-- The code of a request kind (R190): counted up from each owner's first code, in the order of R178. -/
def Request.kind : Request → Byte
  | .enrollReel _ => 16
  | .amendReel _ _ => 17
  | .locateReel _ _ => 18
  | .retireReel _ => 19
  | .queryReel _ => 20
  | .findReel _ => 21
  | .listReels => 22
  | .querySegments _ => 23
  | .queryPassHistory _ => 24
  | .setSegments _ _ => 25
  | .setSegmentMode _ _ _ _ => 26
  | .setQuarantineThreshold _ => 27
  | .releaseQuarantine _ => 28
  | .releaseHold _ => 29
  | .queryShelf _ => 32
  | .setDwell _ _ => 33
  | .queryStaging => 34
  | .fetch _ => 35
  | .mount _ _ _ => 36
  | .unmount _ => 37
  | .reshelve _ => 38
  | .cancelMove _ => 39
  | .queryLift => 40
  | .stopLift => 41
  | .resumeLift => 42
  | .returnLift => 43
  | .liftDirect => 44
  | .liftPassGoTo _ => 45
  | .liftPassPick _ => 45
  | .liftPassPlace _ => 45
  | .liftPassPark => 45
  | .liftRelease => 46
  | .setStation _ _ _ => 48
  | .queryStation _ => 49
  | .stationReset _ => 50
  | .loopbackOn _ => 51
  | .loopbackOff _ => 52
  | .forceRelease _ => 56
  | .queryLanes => 57
  | .openWorkOrder _ => 64
  | .setCues _ _ => 65
  | .start _ => 66
  | .pause _ => 67
  | .stop _ => 68
  | .abort _ => 69
  | .queryWorkOrder _ => 70
  | .markDefect _ _ _ => 72
  | .queryStore _ => 73
  | .setDetector _ => 80
  | .queryDetector => 81
  | .queryDefects _ _ => 82
  | .setKeyframe _ => 88
  | .deleteKeyframe _ _ => 89
  | .clearGradeList _ => 90
  | .queryGradeList _ => 91
  | .evaluateGrade _ _ _ => 92
  | .queryDelivery => 96
  | .setAlertMask _ => 112
  | .setAlertEnable _ => 113
  | .clearAlerts _ => 114
  | .queryAlerts => 115
  | .setClock _ => 116
  | .identify => 117
  | .resetSuite => 118

/-- A location of a type that a position of LIFT PASS carries: CELL, STAGING or CHAMBER. The codes of CARRIAGE and UNKNOWN
are outside its list (R190, R191). -/
def Location.isPlace : Location → Bool
  | .cell _ => true
  | .staging _ => true
  | .chamber _ => true
  | .carriage => false
  | .unknown => false

end Sys2Proof

namespace Sys2Proof.Machine

/-! ### Enumeration codes (R190) -/

/-- The values of an enumeration, in the order of their codes from 0 (R190). -/
def gaugeCodes : List Gauge := [.g35x4, .g35x3, .g16x1]
/-- The codes of the film bases (R190). -/
def baseCodes : List Base := [.nitrate, .acetate, .polyester]
/-- The codes of the emulsions (R190). -/
def emulsionCodes : List Emulsion := [.colour, .mono]
/-- The codes of the segment kinds (R190). -/
def kindCodes : List SegmentKind := [.picture, .leader, .gap]
/-- The codes of the repair modes (R190). -/
def repairCodes : List RepairMode := [.conceal, .mark, .none]
/-- The codes of the grade modes (R190). -/
def gradeModeCodes : List GradeMode := [.apply, .bypass]
/-- The codes of the transitions (R190). -/
def transitionCodes : List Transition := [.cut, .ramp]
/-- The codes of the profiles (R190). -/
def profileCodes : List Profile := [.fast, .standard, .step]
/-- The codes of the cue actions (R190). -/
def cueCodes : List CueAction := [.pause, .note]
/-- The codes of the zones (R190). -/
def zoneCodes : List Zone := [.n, .a, .q, .p, .warm]

/-- The code of a value: its place in the list of codes. -/
def codeOf {α : Type} [BEq α] (codes : List α) (v : α) : Nat := codes.findIdx (· == v)

/-! ### Reading fields (R190, R191) -/

/-- What reads one field from the front of a body: the value and the bytes that follow, or nothing where the bytes do
not encode one. -/
abbrev Reader (α : Type) := List Byte → Option (α × List Byte)

/-- An unsigned number of `size` bytes. -/
def readNat (size : Nat) : Reader Nat := fun l =>
  if l.length < size then none else some (natOfBytes (l.take size), l.drop size)

/-- A signed number of `size` bytes. -/
def readInt (size : Nat) : Reader Int := fun l =>
  if l.length < size then none else some (intOfBytes (l.take size), l.drop size)

/-- A bit field of `size` bytes. -/
def readBits (size width : Nat) : Reader (BitVec width) := fun l => do
  let (v, l) ← readNat size l
  return (BitVec.ofNat width v, l)

/-- An enumeration byte; a code outside the list is malformed (R191). -/
def readCode {α : Type} (codes : List α) : Reader α := fun l => do
  let (v, l) ← readNat 1 l
  let x ← codes[v]?
  return (x, l)

/-- A set or clear byte; a value other than 0 and 1 is malformed (R191). -/
def readFlag : Reader Bool := readCode [false, true]

/-- A location: its type and a number, which CARRIAGE and UNKNOWN do not use (R190). -/
def readLocation : Reader Location := fun l => do
  let (t, l) ← readNat 1 l
  let (v, l) ← readNat 2 l
  match t with
  | 0 => return (.cell v, l)
  | 1 => return (.staging v, l)
  | 2 => return (.chamber v, l)
  | 3 => return (.carriage, l)
  | 4 => return (.unknown, l)
  | _ => none

/-- A segment record (R194). -/
def readSegment : Reader Segment := fun l => do
  let (first, l) ← readNat 2 l
  let (last, l) ← readNat 2 l
  let (kind, l) ← readCode kindCodes l
  let (repair, l) ← readCode repairCodes l
  let (grade, l) ← readCode gradeModeCodes l
  let (flag, l) ← readFlag l
  return ({ first := first, last := last, kind := kind, repair := repair, grade := grade, spliceStart := flag }, l)

/-- A cue (R190). -/
def readCue : Reader Cue := fun l => do
  let (frame, l) ← readNat 2 l
  let (action, l) ← readCode cueCodes l
  return ({ frame := frame, action := action }, l)

/-- A tile span (R190). -/
def readSpan : Reader TileSpan := fun l => do
  let (row, l) ← readNat 1 l
  let (first, l) ← readNat 1 l
  let (last, l) ← readNat 1 l
  return ({ row := row, firstCol := first, lastCol := last }, l)

/-- A triple of code values (R190). -/
def readTriple : Reader (Rgb Nat) := fun l => do
  let (r, l) ← readNat 2 l
  let (g, l) ← readNat 2 l
  let (b, l) ← readNat 2 l
  return ({ red := r, green := g, blue := b }, l)

/-- A parameter set: seven values (R194). -/
def readParams : Reader ParamSet := fun l => do
  let (lr, l) ← readInt 2 l
  let (lg, l) ← readInt 2 l
  let (lb, l) ← readInt 2 l
  let (gain, l) ← readTriple l
  let (sat, l) ← readNat 2 l
  return ({ lift := { red := lr, green := lg, blue := lb }, gain := gain, saturation := sat }, l)

/-- A number of entries, one after another. -/
def readMany {α : Type} (r : Reader α) : Nat → Reader (List α)
  | 0 => fun l => some ([], l)
  | n + 1 => fun l => do
    let (x, l) ← r l
    let (rest, l) ← readMany r n l
    return (x :: rest, l)

/-- A list: a 1-byte count and its entries; a count above the rule's limit is malformed (R191). -/
def readList {α : Type} (limit : Nat) (r : Reader α) : Reader (List α) := fun l => do
  let (n, l) ← readNat 1 l
  if limit < n then none else readMany r n l

/-- An optional field: an absent one still occupies its bytes, which are not looked at (R191). -/
def readIf {α : Type} (present : Bool) (size : Nat) (r : Reader α) : Reader (Option α) := fun l =>
  if present then do
    let (x, l) ← r l
    return (some x, l)
  else do
    let (_, l) ← readNat size l
    return (none, l)

/-- An optional cue list. R191 leaves open what the count byte of an absent one requires. DESIGN CHOICE: the entries it
counts, which are not looked at (log entry 78). -/
def readCuesIf (present : Bool) : Reader (Option (List Cue)) := fun l =>
  if present then do
    let (x, l) ← readList Config.cueLimit readCue l
    return (some x, l)
  else do
    let (n, l) ← readNat 1 l
    let (_, l) ← readNat (3 * n) l
    return (none, l)

/-! ### Request bodies (R191) -/

/-- The fields of ENROLL REEL (R3). -/
def readEnroll (p : Nat) : Reader Request := fun l => do
  let (tag, l) ← readBits 8 64 l
  let (title, l) ← readBits 4 32 l
  let (gauge, l) ← readCode gaugeCodes l
  let (base, l) ← readCode baseCodes l
  let (emulsion, l) ← readCode emulsionCodes l
  let (length, l) ← readNat 2 l
  let (location, l) ← readLocation l
  let (reading, l) ← readIf (p.testBit 0) 1 (readNat 1) l
  let (limit, l) ← readIf (p.testBit 1) 1 (readNat 1) l
  return (.enrollReel { tag := tag, title := title, gauge := gauge, base := base, emulsion := emulsion, length := length,
                        location := location, reading := reading, passLimit := limit }, l)

/-- The fields of AMEND REEL (R5). -/
def readAmend (p : Nat) : Reader Request := fun l => do
  let (reel, l) ← readNat 2 l
  let (title, l) ← readIf (p.testBit 0) 4 (readBits 4 32) l
  let (base, l) ← readIf (p.testBit 1) 1 (readCode baseCodes) l
  let (emulsion, l) ← readIf (p.testBit 2) 1 (readCode emulsionCodes) l
  let (limit, l) ← readIf (p.testBit 3) 1 (readNat 1) l
  let (reading, l) ← readIf (p.testBit 4) 1 (readNat 1) l
  return (.amendReel reel { title := title, base := base, emulsion := emulsion, passLimit := limit,
                            reading := reading }, l)

/-- The fields of SET SEGMENT MODE (R12). -/
def readSegmentMode (p : Nat) : Reader Request := fun l => do
  let (reel, l) ← readNat 2 l
  let (frame, l) ← readNat 2 l
  let (repair, l) ← readIf (p.testBit 0) 1 (readCode repairCodes) l
  let (grade, l) ← readIf (p.testBit 1) 1 (readCode gradeModeCodes) l
  return (.setSegmentMode reel frame repair grade, l)

/-- The fields of QUERY SHELF: one of a cell and a zone (R30, log entry 28). -/
def readShelf (p : Nat) : Reader Request := fun l => do
  let (cell, l) ← readIf (p.testBit 0) 2 (readNat 2) l
  let (zone, l) ← readIf (p.testBit 1) 1 (readCode zoneCodes) l
  match cell, zone with
  | some c, none => return (.queryShelf (.cell c), l)
  | none, some z => return (.queryShelf (.zone z), l)
  | _, _ => none

/-- The fields of CANCEL MOVE: one of a reel and a station (R42, log entry 28). -/
def readCancel (p : Nat) : Reader Request := fun l => do
  let (reel, l) ← readIf (p.testBit 0) 2 (readNat 2) l
  let (station, l) ← readIf (p.testBit 1) 1 (readNat 1) l
  match reel, station with
  | some r, none => return (.cancelMove (.reel r), l)
  | none, some n => return (.cancelMove (.station n), l)
  | _, _ => none

/-- A position of LIFT PASS (R190). -/
def readPosition : Reader Location := fun l => do
  let (position, l) ← readLocation l
  if position.isPlace then some (position, l) else none

/-- The fields of LIFT PASS: a command, and a position except for PARK (R53, R190). -/
def readPass (p : Nat) : Reader Request := fun l => do
  let (command, l) ← readNat 1 l
  let (position, l) ← readIf (p.testBit 0) 3 readPosition l
  match command, position with
  | 0, some x => return (.liftPassGoTo x, l)
  | 1, some x => return (.liftPassPick x, l)
  | 2, some x => return (.liftPassPlace x, l)
  | 3, none => return (.liftPassPark, l)
  | _, _ => none

/-- The fields of OPEN WORK ORDER. Without its cues the reel form has 10 bytes after the presence byte counts as one, and
the loopback form 6; a cue has 3, so that the length of the body tells the forms apart (R103, R105, log entry 28). -/
def readOpen (p : Nat) : Reader Request := fun l => do
  if (l.length + 1) % 3 = 1 then
    let (station, l) ← readNat 1 l
    let (reel, l) ← readNat 2 l
    let (first, l) ← readNat 2 l
    let (last, l) ← readNat 2 l
    let (profile, l) ← readCode profileCodes l
    let (cues, l) ← readCuesIf (p.testBit 0) l
    return (.openWorkOrder { station := station, subject := .reel reel first last, profile := profile, cues := cues }, l)
  else
    let (station, l) ← readNat 1 l
    let (count, l) ← readNat 2 l
    let (profile, l) ← readCode profileCodes l
    let (cues, l) ← readCuesIf (p.testBit 0) l
    return (.openWorkOrder { station := station, subject := .loopback count, profile := profile, cues := cues }, l)

/-- The fields of SET DETECTOR (R133). -/
def readDetector (p : Nat) : Reader Request := fun l => do
  let (t, l) ← readIf (p.testBit 0) 2 (readNat 2) l
  let (ithr, l) ← readIf (p.testBit 1) 1 (readNat 1) l
  let (nmin, l) ← readIf (p.testBit 2) 1 (readNat 1) l
  let (nmax, l) ← readIf (p.testBit 3) 2 (readNat 2) l
  return (.setDetector { t := t, ithr := ithr, nmin := nmin, nmax := nmax }, l)

/-- The fields of SET KEYFRAME (R152). -/
def readKeyframe : Reader Request := fun l => do
  let (reel, l) ← readNat 2 l
  let (frame, l) ← readNat 2 l
  let (transition, l) ← readCode transitionCodes l
  let (params, l) ← readParams l
  return (.setKeyframe { reel := reel, frame := frame, transition := transition, params := params }, l)

/-- One number of `size` bytes. -/
def readOne (size : Nat) (f : Nat → Request) : Reader Request := fun l => do
  let (v, l) ← readNat size l
  return (f v, l)

/-- No field. -/
def readNone (r : Request) : Reader Request := fun l => some (r, l)

/-- The number of optional fields of a request kind (R191). -/
def optionalFields : Nat → Nat
  | 16 => 2
  | 17 => 5
  | 26 => 2
  | 32 => 2
  | 39 => 2
  | 45 => 1
  | 48 => 2
  | 64 => 1
  | 73 => 1
  | 80 => 4
  | 92 => 1
  | _ => 0

/-- The reader of a kind's fields, given its presence byte; none for a code that is no kind (R190, R191). -/
def bodyReader (p : Nat) : Nat → Option (Reader Request)
  | 16 => some (readEnroll p)
  | 17 => some (readAmend p)
  | 18 => some (fun l => do
      let (reel, l) ← readNat 2 l
      let (place, l) ← readLocation l
      return (.locateReel reel place, l))
  | 19 => some (readOne 2 .retireReel)
  | 20 => some (readOne 2 .queryReel)
  | 21 => some (fun l => do
      let (tag, l) ← readBits 8 64 l
      return (.findReel tag, l))
  | 22 => some (readNone .listReels)
  | 23 => some (readOne 2 .querySegments)
  | 24 => some (readOne 2 .queryPassHistory)
  | 25 => some (fun l => do
      let (reel, l) ← readNat 2 l
      let (map, l) ← readList Config.segmentLimit readSegment l
      return (.setSegments reel map, l))
  | 26 => some (readSegmentMode p)
  | 27 => some (readOne 1 .setQuarantineThreshold)
  | 28 => some (readOne 2 .releaseQuarantine)
  | 29 => some (readOne 2 .releaseHold)
  | 32 => some (readShelf p)
  | 33 => some (fun l => do
      let (zone, l) ← readCode zoneCodes l
      let (minutes, l) ← readNat 2 l
      return (.setDwell zone minutes, l))
  | 34 => some (readNone .queryStaging)
  | 35 => some (readOne 2 .fetch)
  | 36 => some (fun l => do
      let (reel, l) ← readNat 2 l
      let (station, l) ← readNat 1 l
      let (wait, l) ← readFlag l
      return (.mount reel station wait, l))
  | 37 => some (readOne 1 .unmount)
  | 38 => some (readOne 2 .reshelve)
  | 39 => some (readCancel p)
  | 40 => some (readNone .queryLift)
  | 41 => some (readNone .stopLift)
  | 42 => some (readNone .resumeLift)
  | 43 => some (readNone .returnLift)
  | 44 => some (readNone .liftDirect)
  | 45 => some (readPass p)
  | 46 => some (readNone .liftRelease)
  | 48 => some (fun l => do
      let (station, l) ← readNat 1 l
      let (filter, l) ← readIf (p.testBit 0) 1 (readNat 1) l
      let (tenure, l) ← readIf (p.testBit 1) 1 (readNat 1) l
      return (.setStation station filter tenure, l))
  | 49 => some (readOne 1 .queryStation)
  | 50 => some (readOne 1 .stationReset)
  | 51 => some (readOne 1 .loopbackOn)
  | 52 => some (readOne 1 .loopbackOff)
  | 56 => some (readOne 1 .forceRelease)
  | 57 => some (readNone .queryLanes)
  | 64 => some (readOpen p)
  | 65 => some (fun l => do
      let (station, l) ← readNat 1 l
      let (cues, l) ← readList Config.cueLimit readCue l
      return (.setCues station cues, l))
  | 66 => some (readOne 1 .start)
  | 67 => some (readOne 1 .pause)
  | 68 => some (readOne 1 .stop)
  | 69 => some (readOne 1 .abort)
  | 70 => some (readOne 1 .queryWorkOrder)
  | 72 => some (fun l => do
      let (station, l) ← readNat 1 l
      let (frame, l) ← readNat 2 l
      let (span, l) ← readSpan l
      return (.markDefect station frame span, l))
  | 73 => some (fun l => do
      let (station, l) ← readIf (p.testBit 0) 1 (readNat 1) l
      return (.queryStore station, l))
  | 80 => some (readDetector p)
  | 81 => some (readNone .queryDetector)
  | 82 => some (fun l => do
      let (station, l) ← readNat 1 l
      let (frame, l) ← readNat 2 l
      return (.queryDefects station frame, l))
  | 88 => some readKeyframe
  | 89 => some (fun l => do
      let (reel, l) ← readNat 2 l
      let (frame, l) ← readNat 2 l
      return (.deleteKeyframe reel frame, l))
  | 90 => some (readOne 2 .clearGradeList)
  | 91 => some (readOne 2 .queryGradeList)
  | 92 => some (fun l => do
      let (reel, l) ← readNat 2 l
      let (frame, l) ← readNat 2 l
      let (triple, l) ← readIf (p.testBit 0) 6 readTriple l
      return (.evaluateGrade reel frame triple, l))
  | 96 => some (readNone .queryDelivery)
  | 112 => some (fun l => do
      let (mask, l) ← readBits 4 32 l
      return (.setAlertMask mask, l))
  | 113 => some (fun l => do
      let (on, l) ← readFlag l
      return (.setAlertEnable on, l))
  | 114 => some (fun l => do
      let (flags, l) ← readBits 4 32 l
      return (.clearAlerts flags, l))
  | 115 => some (readNone .queryAlerts)
  | 116 => some (readOne 4 .setClock)
  | 117 => some (readNone .identify)
  | 118 => some (readNone .resetSuite)
  | _ => none

/-- The request a body of a kind encodes; none where R191 calls it malformed. -/
def decodeBody (kind : Byte) : List Byte → Option Request
  | [] => none
  | p :: l =>
    if 2 ^ optionalFields kind.toNat ≤ p.toNat then none
    else match bodyReader p.toNat kind.toNat with
    | none => none
    | some r => match r l with
      | some (q, []) => some q
      | _ => none

/-! ### The link frame (R188, R189) -/

/-- The length field of a frame (R188). -/
def frameLength (l : List Byte) : Nat := natOfBytes ((l.drop 1).take 4)

/-- The message of a frame (R188). -/
def frameMessage (l : List Byte) : List Byte := (l.drop 5).take (frameLength l)

/-- The bytes the check value covers: bytes 0 to 4 + length (R189). -/
def frameCovered (l : List Byte) : List Byte := l.take (5 + frameLength l)

/-- The check value a frame carries (R188). -/
def frameCheck (l : List Byte) : Nat := natOfBytes (l.drop (5 + frameLength l))

/-- The class byte of a message (R190). -/
def messageClass (m : List Byte) : Byte := m.headD 0

/-- The cause for which a received frame is rejected, the first found of R189; none for a frame that passes. A frame too
short to hold a length field disagrees with any length. -/
def rejectionOf (l : List Byte) : Option Rejection :=
  if l.length ≠ 9 + frameLength l ∨ Config.frameLengthLimit < frameLength l then some .length
  else if (checkValue (frameCovered l)).toNat ≠ frameCheck l then some .check
  else if l.headD 0 ≠ 0 then some .channel
  else if frameLength l < 4 ∨ messageClass (frameMessage l) ≠ 1 then some .class_
  else none

/-- The request in the message of a frame that passed (R190, R191). -/
def requestIn (m : List Byte) : QueuedRequest :=
  let kind := (m.drop 1).headD 0
  { kind := kind, number := BitVec.ofNat 16 (natOfBytes ((m.drop 2).take 2)), request := decodeBody kind (m.drop 4) }

/-- The link frame of a message on a channel, with its check value (R188, R189). -/
def linkFrame (channel : Byte) (message : List Byte) : List Byte :=
  let covered := channel :: bytesBE 4 message.length ++ message
  covered ++ bytesBE 4 (checkValue covered).toNat

/-! ### Writing requests (R190, R191) -/

/-- An enumeration byte. -/
def writeCode {α : Type} [BEq α] (codes : List α) (v : α) : List Byte := bytesBE 1 (codeOf codes v)

/-- A set or clear byte. -/
def writeFlag (b : Bool) : List Byte := bytesBE 1 (if b then 1 else 0)

/-- A signed number of `size` bytes in two's complement. -/
def writeInt (size : Nat) (v : Int) : List Byte := bytesBE size (v % (256 ^ size : Nat)).toNat

/-- A location (R190). -/
def writeLocation : Location → List Byte
  | .cell v => 0 :: bytesBE 2 v
  | .staging v => 1 :: bytesBE 2 v
  | .chamber v => 2 :: bytesBE 2 v
  | .carriage => [3, 0, 0]
  | .unknown => [4, 0, 0]

/-- A segment record (R194). -/
def writeSegment (g : Segment) : List Byte :=
  bytesBE 2 g.first ++ bytesBE 2 g.last ++ writeCode kindCodes g.kind ++ writeCode repairCodes g.repair
    ++ writeCode gradeModeCodes g.grade ++ writeFlag g.spliceStart

/-- A cue (R190). -/
def writeCue (c : Cue) : List Byte := bytesBE 2 c.frame ++ writeCode cueCodes c.action

/-- A triple of code values (R190). -/
def writeTriple (x : Rgb Nat) : List Byte := bytesBE 2 x.red ++ bytesBE 2 x.green ++ bytesBE 2 x.blue

/-- A parameter set (R194). -/
def writeParams (p : ParamSet) : List Byte :=
  writeInt 2 p.lift.red ++ writeInt 2 p.lift.green ++ writeInt 2 p.lift.blue ++ writeTriple p.gain
    ++ bytesBE 2 p.saturation

/-- A list with its 1-byte count (R191). -/
def writeList {α : Type} (w : α → List Byte) (l : List α) : List Byte := bytesBE 1 l.length ++ l.flatMap w

/-- An optional field of `size` bytes; the bytes of an absent one are zeros. -/
def writeIf {α : Type} (size : Nat) (w : α → List Byte) : Option α → List Byte
  | some x => w x
  | none => List.replicate size 0

/-- The presence byte: bit `k` stands for the `k`-th optional field (R191). -/
def presenceOf : List Bool → Nat
  | [] => 0
  | b :: rest => (if b then 1 else 0) + 2 * presenceOf rest

/-- A body: its presence byte and its fields. -/
def writeBody (present : List Bool) (fields : List Byte) : List Byte := bytesBE 1 (presenceOf present) ++ fields

/-- The body of a request (R191). -/
def encodeBody : Request → List Byte
  | .enrollReel f => writeBody [f.reading.isSome, f.passLimit.isSome]
      (bytesBE 8 f.tag.toNat ++ bytesBE 4 f.title.toNat ++ writeCode gaugeCodes f.gauge ++ writeCode baseCodes f.base
        ++ writeCode emulsionCodes f.emulsion ++ bytesBE 2 f.length ++ writeLocation f.location
        ++ writeIf 1 (bytesBE 1) f.reading ++ writeIf 1 (bytesBE 1) f.passLimit)
  | .amendReel r f => writeBody [f.title.isSome, f.base.isSome, f.emulsion.isSome, f.passLimit.isSome, f.reading.isSome]
      (bytesBE 2 r ++ writeIf 4 (fun t => bytesBE 4 (BitVec.toNat t)) f.title ++ writeIf 1 (writeCode baseCodes) f.base
        ++ writeIf 1 (writeCode emulsionCodes) f.emulsion ++ writeIf 1 (bytesBE 1) f.passLimit
        ++ writeIf 1 (bytesBE 1) f.reading)
  | .locateReel r l => writeBody [] (bytesBE 2 r ++ writeLocation l)
  | .retireReel r => writeBody [] (bytesBE 2 r)
  | .queryReel r => writeBody [] (bytesBE 2 r)
  | .findReel tag => writeBody [] (bytesBE 8 tag.toNat)
  | .listReels => writeBody [] []
  | .querySegments r => writeBody [] (bytesBE 2 r)
  | .queryPassHistory r => writeBody [] (bytesBE 2 r)
  | .setSegments r map => writeBody [] (bytesBE 2 r ++ writeList writeSegment map)
  | .setSegmentMode r f repair grade => writeBody [repair.isSome, grade.isSome]
      (bytesBE 2 r ++ bytesBE 2 f ++ writeIf 1 (writeCode repairCodes) repair
        ++ writeIf 1 (writeCode gradeModeCodes) grade)
  | .setQuarantineThreshold v => writeBody [] (bytesBE 1 v)
  | .releaseQuarantine r => writeBody [] (bytesBE 2 r)
  | .releaseHold r => writeBody [] (bytesBE 2 r)
  | .queryShelf (.cell c) => writeBody [true, false] (bytesBE 2 c ++ [0])
  | .queryShelf (.zone z) => writeBody [false, true] ([0, 0] ++ writeCode zoneCodes z)
  | .setDwell z v => writeBody [] (writeCode zoneCodes z ++ bytesBE 2 v)
  | .queryStaging => writeBody [] []
  | .fetch r => writeBody [] (bytesBE 2 r)
  | .mount r st wait => writeBody [] (bytesBE 2 r ++ bytesBE 1 st ++ writeFlag wait)
  | .unmount st => writeBody [] (bytesBE 1 st)
  | .reshelve r => writeBody [] (bytesBE 2 r)
  | .cancelMove (.reel r) => writeBody [true, false] (bytesBE 2 r ++ [0])
  | .cancelMove (.station st) => writeBody [false, true] ([0, 0] ++ bytesBE 1 st)
  | .queryLift => writeBody [] []
  | .stopLift => writeBody [] []
  | .resumeLift => writeBody [] []
  | .returnLift => writeBody [] []
  | .liftDirect => writeBody [] []
  | .liftPassGoTo l => writeBody [true] (0 :: writeLocation l)
  | .liftPassPick l => writeBody [true] (1 :: writeLocation l)
  | .liftPassPlace l => writeBody [true] (2 :: writeLocation l)
  | .liftPassPark => writeBody [false] [3, 0, 0, 0]
  | .liftRelease => writeBody [] []
  | .setStation st filter tenure => writeBody [filter.isSome, tenure.isSome]
      (bytesBE 1 st ++ writeIf 1 (bytesBE 1) filter ++ writeIf 1 (bytesBE 1) tenure)
  | .queryStation st => writeBody [] (bytesBE 1 st)
  | .stationReset st => writeBody [] (bytesBE 1 st)
  | .loopbackOn st => writeBody [] (bytesBE 1 st)
  | .loopbackOff st => writeBody [] (bytesBE 1 st)
  | .forceRelease l => writeBody [] (bytesBE 1 l)
  | .queryLanes => writeBody [] []
  | .openWorkOrder f => writeBody [f.cues.isSome]
      (bytesBE 1 f.station
        ++ (match f.subject with
          | .reel r first last => bytesBE 2 r ++ bytesBE 2 first ++ bytesBE 2 last
          | .loopback n => bytesBE 2 n)
        ++ writeCode profileCodes f.profile ++ writeIf 1 (writeList writeCue) f.cues)
  | .setCues st cues => writeBody [] (bytesBE 1 st ++ writeList writeCue cues)
  | .start st => writeBody [] (bytesBE 1 st)
  | .pause st => writeBody [] (bytesBE 1 st)
  | .stop st => writeBody [] (bytesBE 1 st)
  | .abort st => writeBody [] (bytesBE 1 st)
  | .queryWorkOrder st => writeBody [] (bytesBE 1 st)
  | .markDefect st f t => writeBody []
      (bytesBE 1 st ++ bytesBE 2 f ++ bytesBE 1 t.row ++ bytesBE 1 t.firstCol ++ bytesBE 1 t.lastCol)
  | .queryStore st => writeBody [st.isSome] (writeIf 1 (bytesBE 1) st)
  | .setDetector f => writeBody [f.t.isSome, f.ithr.isSome, f.nmin.isSome, f.nmax.isSome]
      (writeIf 2 (bytesBE 2) f.t ++ writeIf 1 (bytesBE 1) f.ithr ++ writeIf 1 (bytesBE 1) f.nmin
        ++ writeIf 2 (bytesBE 2) f.nmax)
  | .queryDetector => writeBody [] []
  | .queryDefects st f => writeBody [] (bytesBE 1 st ++ bytesBE 2 f)
  | .setKeyframe f => writeBody []
      (bytesBE 2 f.reel ++ bytesBE 2 f.frame ++ writeCode transitionCodes f.transition ++ writeParams f.params)
  | .deleteKeyframe r f => writeBody [] (bytesBE 2 r ++ bytesBE 2 f)
  | .clearGradeList r => writeBody [] (bytesBE 2 r)
  | .queryGradeList r => writeBody [] (bytesBE 2 r)
  | .evaluateGrade r f x => writeBody [x.isSome] (bytesBE 2 r ++ bytesBE 2 f ++ writeIf 6 writeTriple x)
  | .queryDelivery => writeBody [] []
  | .setAlertMask m => writeBody [] (bytesBE 4 m.toNat)
  | .setAlertEnable on => writeBody [] (writeFlag on)
  | .clearAlerts m => writeBody [] (bytesBE 4 m.toNat)
  | .queryAlerts => writeBody [] []
  | .setClock v => writeBody [] (bytesBE 4 v)
  | .identify => writeBody [] []
  | .resetSuite => writeBody [] []

/-- The link frame in which a host sends a request (R188 to R191). -/
def requestFrame (n : RequestNumber) (r : Request) : List Byte :=
  linkFrame 0 ([1, r.kind] ++ bytesBE 2 n.toNat ++ encodeBody r)

end Sys2Proof.Machine
end

