-- ==== Sys2Proof/Machine/Serve.lean ====
section
/-!
DEFINITION. Requests at LNK: arrival, the request queue, taking a request and handing it to its owner (R177 to R181).
-/
namespace Sys2Proof

/-- What decoding a body requires of a request beyond the sizes of its fields: its lists are within the limits of their
rules, and a position of LIFT PASS is of a type its field carries (R190, R191). -/
def Request.decodes : Request → Bool
  | .setSegments _ map => decide (map.length ≤ Config.segmentLimit)
  | .setCues _ cues => decide (cues.length ≤ Config.cueLimit)
  | .openWorkOrder f => f.cues.all (fun c => decide (c.length ≤ Config.cueLimit))
  | .liftPassGoTo l => l.isPlace
  | .liftPassPick l => l.isPlace
  | .liftPassPlace l => l.isPlace
  | _ => true

end Sys2Proof

namespace Sys2Proof.Machine

/-- The block that owns a request answers it (R178). The three requests that place their reply themselves are answered in
`takeRequest`. -/
def State.serve (s : State) : Request → Answered
  | .enrollReel f => s.enrollReel f
  | .amendReel r f => s.amendReel r f
  | .locateReel r l => s.locateReel r l
  | .retireReel r => s.retireReel r
  | .queryReel r => s.queryReel r
  | .findReel tag => s.findReelByTag tag
  | .listReels => s.listReels
  | .querySegments r => s.querySegments r
  | .queryPassHistory r => s.queryPassHistory r
  | .setSegments r map => s.setSegments r map
  | .setSegmentMode r f repair grade => s.setSegmentMode r f repair grade
  | .setQuarantineThreshold v => s.setQuarantineThreshold v
  | .releaseQuarantine r => s.releaseQuarantine r
  | .releaseHold r => s.releaseHold r
  | .queryShelf n => s.queryShelf n
  | .setDwell z v => s.setDwell z v
  | .queryStaging => s.queryStaging
  | .fetch r => s.fetch r
  | .mount r st wait => s.mount r st wait
  | .unmount st => s.unmount st
  | .reshelve r => s.reshelve r
  | .cancelMove n => s.cancelMove n
  | .queryLift => s.queryLift
  | .stopLift => s.stopLift
  | .resumeLift => s.resumeLift
  | .returnLift => s.returnLift
  | .liftDirect => s.liftDirect
  | .liftPassGoTo l => s.liftPassGoTo l
  | .liftPassPick l => s.liftPassPick l
  | .liftPassPlace l => s.liftPassPlace l
  | .liftPassPark => s.liftPassPark
  | .liftRelease => s.liftRelease
  | .setStation st filter tenure => s.setStation st filter tenure
  | .queryStation st => s.queryStation st
  | .stationReset st => s.stationReset st
  | .loopbackOn st => s.loopbackOn st
  | .loopbackOff st => s.loopbackOff st
  | .forceRelease l => s.forceRelease l
  | .queryLanes => s.queryLanes
  | .openWorkOrder f => s.openOrder f
  | .setCues st cues => s.setCues st cues
  | .start st => s.start st
  | .pause st => s.pause st
  | .stop st => s.stop st
  | .abort st => s.abort st
  | .queryWorkOrder st => s.queryOrder st
  | .markDefect st f t => s.markDefect st f t
  | .queryStore st => s.queryStore st
  | .setDetector f => s.setDetector f
  | .queryDetector => s.queryDetector
  | .queryDefects st f => s.queryDefects st f
  | .setKeyframe f => s.setKeyframe f
  | .deleteKeyframe r f => s.deleteKeyframe r f
  | .clearGradeList r => s.clearGradeList r
  | .queryGradeList r => s.queryGradeList r
  | .evaluateGrade r f x => s.evaluateGrade r f x
  | .queryDelivery => s.queryDelivery
  | .setAlertMask m => (s.putMask m).doneEmpty
  | .setAlertEnable on => (s.putEnable on).doneEmpty
  | .clearAlerts m => s.clearAlerts m
  | .queryAlerts => s.queryAlerts
  | .setClock v => s.setClock v
  | .identify => s.identify
  | .resetSuite => s.doneEmpty

/-- The request places its reply, and what follows it, itself: RESET SUITE places the reply before it acts (R187), and the
alert settings place notices behind it (R183). -/
def State.takeRequest (s : State) (h : RequestHeader) : Request → State
  | .resetSuite => s.resetSuite h
  | .setAlertMask m => ((s.putMask m).reply h (.done .empty)).updLink (·.placeDue)
  | .setAlertEnable on => ((s.putEnable on).reply h (.done .empty)).updLink (·.placeDue)
  | r => ((s.serve r).1.settle).reply h (s.serve r).2

/-- LNK takes a request: its owner answers it, and the reply is placed; a body that does not decode is REFUSED MALFORMED
(R178, R191), before any check of its owner's rule (DEDUCED, log entry 82: R5, R11 and R12 name other checks first). -/
def State.takeOne (s : State) (q : QueuedRequest) : State :=
  match q.request with
  | none => s.reply { kind := q.kind, number := q.number } (.refused .malformed)
  | some r => s.takeRequest { kind := q.kind, number := q.number } r

/-- The entry is the reply to a request taken from the queue. -/
def Outbound.isReply : Outbound → Bool
  | .reply _ => true
  | _ => false

/-- The entry is a BUSY reply made at arrival. -/
def Outbound.isBusy : Outbound → Bool
  | .busy _ => true
  | _ => false

/-- The reply to the request taken before has been sent (R178). -/
def Link.ready (l : Link) : Bool := !l.outbound.any (·.isReply)

/-- LNK takes the head of the request queue when the reply before it has been sent (R178). -/
def State.takeNext (s : State) : State :=
  if s.link.ready then
    match s.link.queue with
    | [] => s
    | q :: rest => (s.updLink (fun l => { l with queue := rest })).takeOne q
  else s

/-- A frame is rejected: its cause is recorded and FRAME REJECTED is raised (R177). -/
def State.reject (s : State) (r : Rejection) : State :=
  (s.updLink (fun l => { l with rejection := some r })).raise .frameRejected {}

/-- A request arrives: it joins the queue, is answered BUSY, or is rejected with cause OVERRUN (R178, R179). -/
def State.arrive (s : State) (q : QueuedRequest) : State :=
  if s.link.queue.length < Config.requestQueueLimit then
    (s.updLink (fun l => { l with queue := l.queue ++ [q] })).takeNext
  else if s.link.outbound.countP (·.isBusy) < Config.busyLimit then
    (s.updLink (fun l => l.place (.busy { kind := q.kind, number := q.number, body := .busy }))).raise
      .requestQueueFull {}
  else s.reject .overrun

/-- A host request arrives in a frame that passes every check (R177, R191). -/
def State.request (s : State) (n : RequestNumber) (r : Request) : State :=
  s.arrive { kind := r.kind, number := n, request := if r.decodes then some r else none }

/-- A link frame arrives (R177, R189). -/
def State.frameArrives (s : State) (l : List Byte) : State :=
  match rejectionOf l with
  | some r => s.reject r
  | none => s.arrive (requestIn (frameMessage l))

/-- Record what leaves the part on the suite link. -/
def State.emit (s : State) (e : Emission) : State := { s with sent := s.sent ++ [e] }

/-- The transmitter finishes a reply or a notice (R181, R183). The flag of a notice that was raised again meanwhile gets a
new one, and the reply's removal lets LNK take the next request (R178). When the last control message that stood in the
list at the end of a picture message has been sent, the arbiter is tested. That the transmitter takes the next entry before
LNK takes the next request, and that the arbiter is tested after both, is the model's choice (log entries 69 and 70). -/
def State.messageSent (s : State) : State :=
  match s.link.outbound with
  | .reply r :: _ => (s.emit (.reply r)).headLeaves (·.takeNext)
  | .busy r :: _ => (s.emit (.reply r)).headLeaves id
  | .taken n :: _ => (s.emit (.notice n)).headLeaves (·.updLink (·.placeNotice n.cause))
  | .notice _ :: _ => s.updLink (·.transmit)
  | .arbiterTest :: _ => (s.updLink (·.headSent)).deliveryArbiter
  | .picture :: _ => s
  | [] => s

end Sys2Proof.Machine
end

