-- ==== Sys2Proof/Machine/Completions.lean ====
section
/-!
DEFINITION. The ends of what runs inside the part: a stored capture (R92), the frame interval of the pattern source
(R87), an analysis (R124) and a picture message (R172).
-/
namespace Sys2Proof.Machine

/-! ### A stored capture (R92 to R94) -/

/-- The planes a lane has written: the pattern frame for loopback, or the samples the transport sent (R91, R99). -/
def State.planesOf (s : State) (c : Capture) (samples : List (Nat × Sample)) : Planes :=
  match s.openBody? c.station with
  | none => .blank
  | some b => match b.reel with
    | none => patternPlanes c.frame
    | some _ => Planes.captured (s.gaugeOf b).samples samples

/-- A held lane after a completion: the tenure count falls by one, and an expired count with a station waiting makes
release pending TENURE (R92, R93). -/
def Hold.completed (h : Hold) (waiting : Bool) : Hold :=
  let n := h.tenure - 1
  { h with tenure := n, release := if h.release = .none ∧ n = 0 ∧ waiting = true then .tenure else h.release }

/-- The lane's part of a completion (R92, step 2): the carriage becomes absent, and a release that is due frees the lane,
which the arbiter grants at once (R94). -/
def State.laneCompletes (s : State) (l : LaneId) : State :=
  let hold := (s.lane l).hold.map (·.completed (!s.lanes.waitList.isEmpty))
  if hold.any (fun h => h.release != .none) then s.releaseLane l else s.setLane l { hold := hold, carriage := none }

/-- REG counts a frame of the RUNNING pass record of the reel in the chamber (R23). -/
def State.countFrame (s : State) (st : StationId) : State :=
  match (s.openBody? st).bind (·.reel) with
  | some i => s.updRunning i (fun p => { p with frames := p.frames + 1 })
  | none => s

/-- A lane reports its capture stored: the store, the lane, the work order and the station act, and a station that gave up
its lane rejoins the wait list (R92). -/
def State.captureStored (s : State) (l : LaneId) (samples : List (Nat × Sample)) : State :=
  match (s.lane l).carriage with
  | none => s
  | some c =>
    let st := c.station
    let s := (s.storeCapture c (s.planesOf c samples)).laneCompletes l
    let s := (s.updStation st (fun t => { t with inFlight := none })).captureProgress st c.frame
    ((((s.countFrame st).stationAction st).joinWaitList st).afterCapture st)

/-! ### The pattern source (R87) -/

/-- The frame interval runs out: the next frame is offered when the capture of the frame before has completed (R87). -/
def State.intervalEnds (s : State) : State :=
  match s.lanes.source.assigned with
  | none => s
  | some st =>
    if s.lanes.source.state = .idle then s
    else
      let s := s.updSource (fun p => { p with intervalOver := true })
      if s.mayFeed st = true ∧ s.lanes.source.state = .feeding ∧ (s.station st).inFlight = none then s.offerFrame st
      else s

/-! ### The end of an analysis (R124, R147) -/

/-- The planes of the slot of a work order that holds a frame. -/
def State.planesAt (s : State) (st : StationId) (f : Nat) : Option Planes :=
  ((s.slotOf st f).bind s.slot?).map (·.planes)

/-- What the Repair Engine reads for the analysis in flight (R123, R132). -/
def State.examOf (s : State) (a : Analysis) (x : Slot) : Exam :=
  { gauge := s.slotGauge a.station, detector := a.detector, mode := a.mode, settings := a.settings, planes := x.planes
    before := if a.predecessor ∧ 0 < a.frame then s.planesAt a.station (a.frame - 1) else none
    after := if a.successor then s.planesAt a.station (a.frame + 1) else none
    gathered := x.defects }

/-- A slot as its analysis leaves it (R124, R147). -/
def Slot.repaired (x : Slot) (e : Exam) : Slot :=
  { x with
    state := .ready, planes := e.repaired, defects := e.defects
    flags := { x.flags with overflow := x.flags.overflow || e.dropped, unchecked := x.flags.unchecked || e.unchecked } }

/-- The Repair Engine hands a frame's defect tiles to REG (R146). -/
def State.handTiles (s : State) (st : StationId) (n : Nat) : State :=
  match ((s.order st).body).bind (·.reel) with
  | some i => s.updRunning i (fun p => { p with defectTiles := p.defectTiles + n })
  | none => s

/-- The slot of f - 1 learns that its successor is repaired, and a KEPT one is freed (R124, step 2). -/
def State.tellBefore (s : State) (st : StationId) (f : Nat) : State :=
  match s.slotBefore st f with
  | none => s
  | some k =>
    if (s.slot? k).any (fun x => x.state == .kept) then (s.updSlot k (·.cleared)).offerSlots
    else s.updSlot k (fun x => { x with successor := some .repaired })

/-- The slot of f + 1 learns that its predecessor is repaired and is tested for eligibility (R124, step 3). -/
def State.tellAfter (s : State) (st : StationId) (f : Nat) : State :=
  match s.slotOf st (f + 1) with
  | none => s
  | some k => (s.updSlot k (fun x => { x with predecessor := some .repaired })).testEligible k

/-- DEFECT OVERFLOW is raised when a tile record was dropped and the frame did not already carry the flag (R139). -/
def State.raiseDropped (s : State) (a : Analysis) (x : Slot) (e : Exam) : State :=
  if e.dropped = true ∧ x.flags.overflow = false then
    s.raise .defectOverflow
      { station := some a.station, reel := ((s.order a.station).body).bind (·.reel), frame := some a.frame }
  else s

/-- The effects of an analysis that ends with free at end clear (R124, steps 1 to 4). Until then the slot's list, flags and
planes stand as they were at its start, which is the model's choice (log entry 73). -/
def State.analysisReady (s : State) (a : Analysis) (x : Slot) : State :=
  let e := s.examOf a x
  let s := (s.raiseDropped a x e).updSlot a.slot (·.repaired e)
  let s := s.handTiles a.station (defectTiles e.gauge e.defects)
  (((s.tellBefore a.station a.frame).tellAfter a.station a.frame)).deliveryArbiter

/-- The Repair Engine ends its analysis, and the head of the repair queue starts (R123, R124). All that the analysis makes
of the slot is written here, at the report (R147, log entry 73). -/
def State.analysisEnds (s : State) : State :=
  match s.engine.analysis with
  | none => s
  | some a => match s.slot? a.slot with
    | none => s
    | some x =>
      let s := if x.freeAtEnd then (s.updSlot a.slot (·.cleared)).offerSlots else s.analysisReady a x
      ({ s with engine := { s.engine with analysis := none } } : State).startAnalysis

/-! ### The end of a picture message (R172) -/

/-- The slot of a message that ends, FREE or KEPT (R125, R172). -/
def State.endSlot (s : State) (k : Nat) : State :=
  let s := s.updSlot k (·.sent)
  if (s.slot? k).any (fun x => x.state == .free) then s.offerSlots else s

/-- The last part of the picture message in transmission has been sent (R172). The test of the arbiter takes its place
behind the control messages that wait, which are sent before it; with none waiting it is made at once (R181, log entry 70).
While a control message is in transmission there is nothing to end. -/
def State.pictureEnds (s : State) : State :=
  match s.link.outbound, s.delivery.message with
  | .picture :: _, some m =>
    let s := s.emit (.picture m.header ((m.slot.bind s.slot?).map (·.planes)))
    let s := match m.slot with
      | some k => s.endSlot k
      | none => s
    let s := { s with snapshot := none, delivery := { s.delivery with channel := .idle, message := none } }
    (s.updLink (fun l => { l with outbound := l.outbound ++ [.arbiterTest] })).headLeaves id
  | _, _ => s

end Sys2Proof.Machine
end

