-- ==== Sys2Proof/Machine/Layouts.lean ====
section
/-!
DEFINITION. The bytes of what the part sends on the suite link: replies (R192 to R194), ALERT notices (R193) and picture
messages (R195, R196), each in its link frame (R188).
-/
namespace Sys2Proof.Machine

/-! ### Fields -/

/-- A byte that holds an enumeration code or a small number. -/
def byteField (v : Nat) : List Byte := natField 1 v

/-- An optional item of `size` bytes; what an absent item's bytes hold is free (R193). -/
def optField {α : Type} (size : Nat) (w : α → List Byte) : Option α → List Byte
  | some x => w x
  | none => (List.range size).map Config.absentByte

/-- The presence bits of up to eight optional items in one byte, bit 0 for the first (R193). -/
def presence (bits : List Bool) : List Byte := bytesBE 1 (presenceOf bits)

/-- The presence bits of a longer list, eight to a byte, the first eight in the first byte (R193). -/
def presenceWide (bits : List Bool) : List Byte := presence (bits.take 8) ++ presence ((bits.drop 8).take 8)
  ++ (if 16 < bits.length then presence (bits.drop 16) else [])

/-- A list with its 1-byte count (R193). -/
def listField {α : Type} (w : α → List Byte) (l : List α) : List Byte := byteField l.length ++ l.flatMap w

/-- A location (R190). -/
def locationField : Location → List Byte
  | .cell v => 0 :: natField 2 v
  | .staging v => 1 :: natField 2 v
  | .chamber v => 2 :: natField 2 v
  | .carriage => [3, 0, 0]
  | .unknown => [4, 0, 0]

/-- A set or clear byte. -/
def flagField (b : Bool) : List Byte := byteField (if b then 1 else 0)

/-- The code of a condition grade: 1 for A to 5 for E (R190). -/
def gradeField (g : Grade) : List Byte := byteField (g.rank + 1)

/-- A fault name: the code the transport reports, or 255 for HEARTBEAT LOST (R193). -/
def faultField : FaultName → List Byte
  | .reported code => [code]
  | .heartbeatLost => [255]

/-- The members of a set of gauges (R193), in the order of the enumeration, which is the model's choice (log entry 72). -/
def gaugeMembers (g : GaugeSet) : List Gauge :=
  (if g.g35x4 then [Gauge.g35x4] else []) ++ (if g.g35x3 then [Gauge.g35x3] else [])
    ++ (if g.g16x1 then [Gauge.g16x1] else [])

/-- The members of a set of slot flags, numbered in the order of R117 (R193); that they are listed in it too is the model's
choice (log entry 72). -/
def flagMembers (x : SlotFlags) : List Nat :=
  (if x.oneSided then [0] else []) ++ (if x.overflow then [1] else []) ++ (if x.unchecked then [2] else [])
    ++ (if x.test then [3] else [])

/-! ### Records (R194) -/

/-- The reel record, 44 bytes (R194). -/
def reelRecordBytes (r : ReelReport) : List Byte :=
  presence [r.headMark.isSome, r.acid.isSome, r.home.isSome, r.grade.isSome, r.peak.isSome, r.order.isSome] ++ [0]
    ++ bytesBE 8 r.tag.toNat ++ optField 4 (fun m => bytesBE 4 (BitVec.toNat m)) r.headMark ++ bytesBE 4 r.title.toNat
    ++ byteField r.gauge.ctorIdx ++ byteField r.base.ctorIdx ++ byteField r.emulsion.ctorIdx ++ natField 2 r.length
    ++ byteField r.segments ++ byteField r.keyframes ++ optField 1 byteField r.acid ++ flagField r.quarantine
    ++ byteField r.cls.ctorIdx ++ flagField r.hold ++ locationField r.location ++ byteField r.cameFrom.ctorIdx
    ++ optField 2 (natField 2) r.home ++ byteField r.custody.ctorIdx ++ byteField r.passLimit
    ++ optField 1 gradeField r.grade ++ optField 2 (intField 2) r.peak
    ++ optField 1 (fun st : StationId => byteField st.val) r.order ++ byteField r.passes ++ natField 2 r.splices

/-- A segment record, 8 bytes (R194). -/
def segmentBytes (g : Segment) : List Byte :=
  natField 2 g.first ++ natField 2 g.last ++ byteField g.kind.ctorIdx ++ byteField g.repair.ctorIdx
    ++ byteField g.grade.ctorIdx ++ flagField g.spliceStart

/-- A parameter set, 14 bytes (R194, R195). -/
def paramBytes (p : ParamSet) : List Byte :=
  intField 2 p.lift.red ++ intField 2 p.lift.green ++ intField 2 p.lift.blue ++ natField 2 p.gain.red
    ++ natField 2 p.gain.green ++ natField 2 p.gain.blue ++ natField 2 p.saturation

/-- A keyframe record, 17 bytes (R194). -/
def keyframeBytes (k : Keyframe) : List Byte :=
  natField 2 k.frame ++ byteField k.transition.ctorIdx ++ paramBytes k.params

/-- A pass record, 24 bytes (R194). -/
def passBytes (p : PassRecord) : List Byte :=
  byteField p.number ++ byteField p.station.val ++ natField 4 p.startTime ++ byteField p.profileAtStart.ctorIdx
    ++ byteField p.lowestProfile.ctorIdx ++ natField 2 p.frames ++ natField 4 p.defectTiles ++ natField 2 p.boundaries
    ++ natField 2 p.unrecorded ++ natField 2 p.tears ++ presence [p.peak.isSome] ++ optField 2 (intField 2) p.peak
    ++ byteField p.outcome.ctorIdx

/-- A tile span, 3 bytes (R190). -/
def spanBytes (t : TileSpan) : List Byte := byteField t.row ++ byteField t.firstCol ++ byteField t.lastCol

/-- A defect record, 10 bytes, with given bytes for an absent span (R194, R196). -/
def defectBytes (absent : List Byte) (d : Defect) : List Byte :=
  byteField d.kind.ctorIdx ++ presence [d.span.isSome] ++ (d.span.map spanBytes).getD absent
    ++ natField 4 d.count ++ byteField d.outcome.ctorIdx

/-- An entry of LIST REELS, 14 bytes (R193). -/
def reelEntryBytes (e : ReelEntry) : List Byte :=
  natField 2 e.index ++ bytesBE 8 e.tag.toNat ++ byteField e.cls.ctorIdx ++ locationField e.location

/-- A staging position of QUERY STAGING (R35). That each position begins with its own presence bits is the model's choice
(log entry 71). -/
def stagingBytes (x : StagingReport) : List Byte :=
  presence [x.reel.isSome, x.required.isSome] ++ byteField x.state.ctorIdx ++ optField 2 (natField 2) x.reel
    ++ natField 2 x.dwell ++ optField 2 (natField 2) x.required ++ flagField x.announced

/-- A lift queue record, field by field in the order of R36. Its commanded target is a code of its two values, and its wait
flag is sent for every kind (log entry 65). -/
def moveBytes (m : MoveRecord) : List Byte :=
  presence [m.reel.isSome, m.station.isSome, m.destination.isSome, m.number.isSome, m.target.isSome, m.cause.isSome]
    ++ byteField m.kind.ctorIdx ++ optField 2 (natField 2) m.reel
    ++ optField 1 (fun st : StationId => byteField st.val) m.station ++ locationField m.source
    ++ optField 3 locationField m.destination ++ flagField m.wait ++ byteField m.state.ctorIdx
    ++ optField 1 byteField m.number ++ optField 1 (fun t : MoveTarget => byteField t.ctorIdx) m.target
    ++ optField 1 (fun c : HaltCause => byteField c.ctorIdx) m.cause

/-- The code of a forwarded command (R190). -/
def ForwardedCommand.code : ForwardedCommand → Nat
  | .goTo _ => 0
  | .pick _ => 1
  | .place _ => 2
  | .park => 3

/-- The position a forwarded command names. -/
def ForwardedCommand.position? : ForwardedCommand → Option Location
  | .goTo l => some l
  | .pick l => some l
  | .place l => some l
  | .park => none

/-- The code of a carriage state (R43). -/
def Carriage.code : Carriage → Nat
  | .empty => 0
  | .reel _ => 1
  | .unidentified => 2
  | .unreported => 3

/-- The reel a carriage state names. -/
def Carriage.named? : Carriage → Option Nat
  | .reel r => some r
  | _ => none

/-- A station and a frame number (R131). -/
def heldBytes (x : StationId × Nat) : List Byte := byteField x.1.val ++ natField 2 x.2

/-- A lane record, field by field in the order of R88. Its carriage is one optional item (log entry 68). -/
def laneBytes (l : Lane) : List Byte :=
  presence [l.hold.isSome, l.hold.isSome, l.hold.isSome, l.carriage.isSome] ++ flagField l.hold.isSome
    ++ optField 1 (fun h : Hold => byteField h.station.val) l.hold ++ optField 1 (fun h : Hold => byteField h.tenure) l.hold
    ++ optField 1 (fun h : Hold => byteField h.release.ctorIdx) l.hold
    ++ optField 4 (fun c : Capture => byteField c.station.val ++ natField 2 c.frame ++ byteField c.slot) l.carriage

/-- A slot of QUERY STORE (R131), with its own presence bits (log entry 71). -/
def slotBytes (x : SlotReport) : List Byte :=
  presence [x.predecessor.isSome, x.successor.isSome, x.mode.isSome] ++ byteField x.slot ++ byteField x.state.ctorIdx
    ++ natField 2 x.frame ++ optField 1 (fun p : Predecessor => byteField p.ctorIdx) x.predecessor
    ++ optField 1 (fun p : Successor => byteField p.ctorIdx) x.successor
    ++ optField 1 (fun m : RepairMode => byteField m.ctorIdx) x.mode ++ byteField x.defects
    ++ listField byteField (flagMembers x.flags) ++ flagField x.freeAtEnd

/-- The detector settings, in the order of R132. -/
def detectorBytes (d : Detector) : List Byte :=
  natField 2 d.t ++ byteField d.ithr ++ byteField d.nmin ++ natField 2 d.nmax

/-- Whether a frame analysed has a predecessor or a successor, as the code of the enumeration in which R132 lists the two
values, present and absent (R190, log entry 63). -/
def presentField (b : Bool) : List Byte := byteField (if b then 0 else 1)

/-- The analysis record without its copied settings (R133). -/
def analysisBytes (a : Analysis) : List Byte :=
  byteField a.slot ++ byteField a.station.val ++ natField 2 a.frame ++ byteField a.detector.ctorIdx
    ++ byteField a.mode.ctorIdx ++ presentField a.predecessor ++ presentField a.successor

/-- A triple of code values, 6 bytes (R190). -/
def tripleBytes (x : Rgb Nat) : List Byte := natField 2 x.red ++ natField 2 x.green ++ natField 2 x.blue

/-- The keyframes at the two ends of an interval, as the reply to EVALUATE GRADE carries them: both absent in the identity
case, the right one absent after the last keyframe (R166, log entry 62). -/
def intervalEnds : GradeInterval → Option Keyframe × Option Keyframe
  | .identity => (none, none)
  | .between k k' => (some k, some k')
  | .after k => (some k, none)

/-- A station of QUERY DELIVERY (R176). That each station's entry begins with its own presence bits, and that "whether it has
a deliverable item" is a byte of 1 for yes, is the model's choice (log entries 71 and 76). -/
def deliveryBytes (x : DeliveryReport) : List Byte :=
  presence [x.nextDeliver.isSome, x.slotState.isSome] ++ byteField x.state.ctorIdx
    ++ optField 2 (natField 2) x.nextDeliver ++ flagField x.hasItem
    ++ optField 1 (fun k : SlotState => byteField k.ctorIdx) x.slotState

/-! ### Answers (R193) -/

/-- The answer to QUERY STATION: the record in the order of R60, the running figure in place of the window, and the reel,
its custody and the lane (R62). That one group of presence bits at its head stands for the optional items of the record and
for the three behind it is the model's choice (log entry 80). Custody and lane are optional items (log entry 64), the positions of the perforation filter
are sent in four bytes (log entry 67), and the fault names and gauges stand in the order of log entry 72. -/
def stationBytes (t : Station) (figure : Option Int) (reel : Option Nat) (custody : Option Custody)
    (lane : Option LaneId) : List Byte :=
  presenceWide [t.capabilities.isSome, t.tagRead.isSome, t.markRead.isSome, t.profile.isSome, t.fallback.isSome,
      figure.isSome, t.filter.level.isSome, t.filter.pendingAt.isSome, t.filter.reference.isSome, t.lastGate.isSome,
      t.lastTear.isSome, t.inFlight.isSome, reel.isSome, custody.isSome, lane.isSome]
    ++ byteField t.state.ctorIdx ++ byteField t.motion.ctorIdx
    ++ optField 2 (fun c : Capabilities =>
        listField (fun g : Gauge => byteField g.ctorIdx) (gaugeMembers c.gauges) ++ byteField c.fastest.ctorIdx)
        t.capabilities
    ++ byteField t.sensor.ctorIdx ++ flagField t.threaded ++ byteField t.reservation.ctorIdx
    ++ optField 8 (fun x => bytesBE 8 (BitVec.toNat x)) t.tagRead
    ++ optField 4 (fun x => bytesBE 4 (BitVec.toNat x)) t.markRead
    ++ optField 1 (fun p : Profile => byteField p.ctorIdx) t.profile
    ++ optField 1 (fun p : Profile => byteField p.ctorIdx) t.fallback
    ++ optField 2 (intField 2) figure ++ optField 1 (fun x : Level => byteField x.ctorIdx) t.filter.level
    ++ optField 4 (natField 4) t.filter.pendingAt ++ optField 4 (natField 4) t.filter.reference
    ++ optField 2 (natField 2) t.lastGate ++ optField 2 (natField 2) t.lastTear ++ optField 2 (natField 2) t.inFlight
    ++ byteField t.stopPending.ctorIdx ++ listField faultField t.faults ++ byteField t.filterSetting
    ++ byteField t.tenure ++ optField 2 (natField 2) reel ++ optField 1 (fun c : Custody => byteField c.ctorIdx) custody
    ++ optField 1 (fun l : LaneId => byteField l.ctorIdx) lane

/-- The answer to QUERY WORK ORDER: the record in the order of R101 and the slot count (R116). A loopback work order's
reel NONE is sent as absent. Reel, range, the two pointers and last-captured are the optional items, the range one item
(log entry 45). -/
def orderBytes (w : WorkOrder) (slots : Nat) : List Byte :=
  let b := w.body
  presence [(b.bind (·.reel)).isSome, b.isSome, b.isSome, b.isSome, (b.bind (·.lastCaptured)).isSome]
    ++ optField 2 (natField 2) (b.bind (·.reel))
    ++ optField 4 (fun x : OrderBody => natField 2 x.first ++ natField 2 x.last) b
    ++ optField 2 (fun x : OrderBody => natField 2 x.nextCapture) b
    ++ optField 2 (fun x : OrderBody => natField 2 x.nextDeliver) b
    ++ optField 2 (natField 2) (b.bind (·.lastCaptured))
    ++ byteField w.requested.ctorIdx ++ byteField w.state.ctorIdx ++ byteField w.ending.ctorIdx
    ++ listField (fun c : Cue => natField 2 c.frame ++ byteField c.action.ctorIdx) w.cues ++ flagField w.passBegun
    ++ byteField slots

/-- The bytes of an answer: the items the owner's rule names, in its order (R193). How the carriage and the forwarded
command of QUERY LIFT divide into items is the model's choice (log entry 66), and so are the two optional items behind the
list of QUERY DEFECTS (log entry 74), the three free bytes of an absent tile span there (log entry 3), the byte for each station's attachment in
IDENTIFY (log entry 76) and the form of the pending marks in QUERY ALERTS (log entry 81). -/
def answerBytes : Answer → List Byte
  | .empty => []
  | .reelIndex i => natField 2 i
  | .reelRecord r => reelRecordBytes r
  | .reelList l => natField 2 l.length ++ l.flatMap reelEntryBytes
  | .segmentList l => listField segmentBytes l
  | .passList l => listField passBytes l
  | .shelfCell z x r =>
    presence [r.isSome] ++ byteField z.ctorIdx ++ byteField x.ctorIdx ++ optField 2 (natField 2) r
  | .shelfZone free reserved occupied lowest =>
    presence [lowest.isSome] ++ natField 2 free ++ natField 2 reserved ++ natField 2 occupied
      ++ optField 2 (natField 2) lowest
  | .stagingList l => l.flatMap stagingBytes
  | .moveState x => byteField x.ctorIdx
  | .liftReport lift carriage cause forwarded queue =>
    let position := forwarded.bind ForwardedCommand.position?
    presence [carriage.named?.isSome, cause.isSome, forwarded.isSome, position.isSome]
      ++ byteField lift.ctorIdx ++ byteField carriage.code ++ optField 2 (natField 2) carriage.named?
      ++ optField 1 (fun c : HaltCause => byteField c.ctorIdx) cause
      ++ optField 1 (fun c : ForwardedCommand => byteField c.code) forwarded ++ optField 3 locationField position
      ++ listField moveBytes queue
  | .stationReport t figure reel custody lane => stationBytes t figure reel custody lane
  | .laneReport a b w => laneBytes a ++ laneBytes b ++ listField (fun st : StationId => byteField st.val) w
  | .orderOpened first last nextCapture nextDeliver =>
    natField 2 first ++ natField 2 last ++ natField 2 nextCapture ++ natField 2 nextDeliver
  | .profileTaken p => byteField p.ctorIdx
  | .orderReport w slots => orderBytes w slots
  | .storeReport counts queue analysis message slots =>
    presence [analysis.isSome, message.isSome, slots.isSome] ++ counts.flatMap byteField ++ listField heldBytes queue
      ++ optField 3 heldBytes analysis ++ optField 3 heldBytes message ++ optField 1 (listField slotBytes) slots
  | .detectorSettings d => detectorBytes d
  | .detectorReport d a => presence [a.isSome] ++ detectorBytes d ++ optField 8 analysisBytes a
  | .defectReport l flags mode tiles =>
    presence [mode.isSome, tiles.isSome] ++ listField (defectBytes (optField 3 spanBytes none)) l
      ++ listField byteField (flagMembers flags) ++ optField 1 (fun m : RepairMode => byteField m.ctorIdx) mode
      ++ optField 2 (natField 2) tiles
  | .poolCounts keyframes free => byteField keyframes ++ natField 2 free
  | .listCleared removed free => byteField removed ++ natField 2 free
  | .gradeList l used free => listField keyframeBytes l ++ natField 2 used ++ natField 2 free
  | .evaluation kind mode treatment interval params stages =>
    let ends := intervalEnds interval
    presence [ends.1.isSome, ends.2.isSome, stages.isSome] ++ byteField kind.ctorIdx ++ byteField mode.ctorIdx
      ++ byteField treatment.ctorIdx ++ optField 17 keyframeBytes ends.1 ++ optField 17 keyframeBytes ends.2
      ++ paramBytes params
      ++ optField 20 (fun x : TransferStages =>
          tripleBytes x.y1 ++ tripleBytes x.y2 ++ natField 2 x.luma ++ tripleBytes x.y3) stages
  | .deliveryReport channel last message stations =>
    presence [message.isSome] ++ byteField channel.ctorIdx ++ byteField last.val
      ++ optField 4 (fun m : StationId × Nat × Treatment =>
          byteField m.1.val ++ natField 2 m.2.1 ++ byteField m.2.2.ctorIdx) message
      ++ stations.flatMap deliveryBytes
  | .alertWord w => bytesBE 4 w.toNat
  | .alertReport word pending mask enable rejection =>
    presence [rejection.isSome] ++ bytesBE 4 word.toNat ++ bytesBE 4 pending.toNat ++ bytesBE 4 mask.toNat
      ++ flagField enable ++ optField 1 (fun r : Rejection => byteField r.ctorIdx) rejection
  | .identity part passed clock detached =>
    Config.textBytes part ++ byteField Config.revision ++ natField 2 Config.registryEntries ++ natField 2 Config.keyframePool
      ++ natField 2 Config.shelfCells ++ byteField Config.stagingPositions ++ byteField Config.liftQueueLimit
      ++ byteField Config.stationCount ++ byteField Config.laneCount ++ byteField Config.frameSlots
      ++ byteField Config.requestQueueLimit ++ byteField Config.alertFlags ++ byteField (if passed then 0 else 1)
      ++ natField 4 clock ++ detached.flatMap flagField

/-! ### Replies and notices (R192, R193) -/

/-- A clamp entry: the field's position and the value taken (R192). -/
def clampBytes (c : Clamp) : List Byte := byteField c.position ++ intField 4 c.value

/-- The body of a reply (R192). -/
def replyBodyBytes : ReplyBody → List Byte
  | .done a => [0, 0, 0] ++ answerBytes a
  | .doneClamped cs a => [1, 0] ++ byteField cs.length ++ cs.flatMap clampBytes ++ answerBytes a
  | .accepted a => [2, 0, 0] ++ answerBytes a
  | .busy => [3, 0, 0]
  | .refused r => [4] ++ byteField (r.ctorIdx + 1) ++ [0]

/-- The message of a reply (R190, R192). -/
def replyMessage (r : Reply) : List Byte := [2, r.kind] ++ bytesBE 2 r.number.toNat ++ replyBodyBytes r.body

/-- The message of an ALERT notice (R190, R193). -/
def noticeMessage (n : Notice) : List Byte :=
  [3] ++ byteField n.cause.number.val ++ [0, 0] ++ bytesBE 4 n.word.toNat ++ byteField n.cause.number.val
    ++ presence [n.context.station.isSome, n.context.reel.isSome, n.context.frame.isSome] ++ natField 4 n.context.time
    ++ optField 1 (fun st : StationId => byteField st.val) n.context.station ++ optField 2 (natField 2) n.context.reel
    ++ optField 2 (natField 2) n.context.frame

/-! ### Picture messages (R195, R196) -/

/-- The flags byte of a picture header (R195). -/
def pictureFlags (h : PictureHeader) : Nat :=
  presenceOf [h.gap, h.test, h.oneSided, h.overflow, h.unchecked, h.bypass, h.closing]

/-- The header bytes of a picture message; the bytes of an absent field are 0 (R195, R196). -/
def pictureHeaderBytes (h : PictureHeader) : List Byte :=
  byteField h.station.val ++ presence [h.reel.isSome, h.mode.isSome, h.params.isSome] ++ natField 2 (h.reel.getD 0)
    ++ bytesBE 4 ((h.title.getD 0).toNat) ++ natField 2 h.frame ++ byteField h.gauge.ctorIdx
    ++ byteField h.treatment.ctorIdx ++ bytesBE 1 (pictureFlags h)
    ++ byteField ((h.mode.map (·.ctorIdx)).getD 0)
    ++ (match h.params with
      | some p => paramBytes p
      | none => List.replicate 14 0)
    ++ natField 4 h.time ++ byteField h.defects.length ++ h.defects.flatMap (defectBytes (List.replicate 3 0))

/-- The colour of the sample at a position, as GRE renders it (R163, R196). -/
def pictureColour (h : PictureHeader) (planes : Option Planes) (pos : Nat) : Rgb CodeValue :=
  match planes with
  | some x => renderColour h.treatment h.params (x.read pos).colour
  | none => { red := 0, green := 0, blue := 0 }

/-- One colour plane, row by row, two bytes a sample (R196). -/
def colourPlane (h : PictureHeader) (planes : Option Planes) (channel : Rgb CodeValue → CodeValue) : List Byte :=
  (List.range h.gauge.samples).flatMap (fun pos => bytesBE 2 (channel (pictureColour h planes pos)).toNat)

/-- The planes of a picture message: red, green, blue and then the infrared, which a BLACK frame does not carry
(R196). -/
def planeBytes (h : PictureHeader) (planes : Option Planes) : List Byte :=
  colourPlane h planes (·.red) ++ colourPlane h planes (·.green) ++ colourPlane h planes (·.blue)
    ++ (match planes with
      | some x => (List.range h.gauge.samples).map (fun pos => (x.read pos).ir)
      | none => [])

/-- The picture message (R190, R195). -/
def pictureMessage (h : PictureHeader) (planes : Option Planes) : List Byte :=
  [4, 0, 0, 0] ++ pictureHeaderBytes h ++ planeBytes h planes

/-- The link frame in which an emission leaves the part on the suite link; commands to stations and the lift leave on
their own ports (R188). -/
def emissionFrame : Emission → Option (List Byte)
  | .station _ _ => none
  | .lift _ => none
  | .reply r => some (linkFrame 0 (replyMessage r))
  | .notice n => some (linkFrame 0 (noticeMessage n))
  | .picture h planes => some (linkFrame 1 (pictureMessage h planes))

end Sys2Proof.Machine
end

