-- ==== Sys2Proof/Machine/Event.lean ====
section
/-!
DEFINITION. The frame every event of the powered part runs in.
-/
namespace Sys2Proof.Machine

/-- What a command answers. -/
abbrev Result := Host.Outcome State Fault Refusal

/-- An event taken whole by the powered part: its effects, then what chapter 2 says holds whenever its condition holds
(`settle`). `sent` starts empty (log entry 6). A part without power takes no event (log entry 9). -/
def event (f : State → State) (s : State) : Result :=
  .next (if s.powered then (f { s with sent := [] }).settle else s)

end Sys2Proof.Machine
end

