-- ==== Sys2Proof/Machine/LinkCommands.lean ====
section
/-!
DEFINITION. The meanings of the commands: link frames, the transmitter, the suite clock and the requests of the Link Controller
(chapter 10).
-/
namespace Sys2Proof.Machine

/-- FRAME RECEIVED (R177). -/
def execFrameReceived (bytes : List Byte) (s : State) : Result := event (fun s => s.frameArrives bytes) s

/-- OUTBOUND MESSAGE SENT (R181). -/
def execOutboundMessageSent (s : State) : Result := event State.messageSent s

/-- CLOCK SECOND TICK (R185). -/
def execClockSecondTick (s : State) : Result := event State.secondEnds s

/-- SET ALERT MASK arrives (R183, R178). -/
def execSetAlertMask (n : RequestNumber) (mask : BitVec 32) (s : State) : Result :=
  event (fun s => s.request n (.setAlertMask mask)) s

/-- SET ALERT ENABLE arrives (R183, R178). -/
def execSetAlertEnable (n : RequestNumber) (on : Bool) (s : State) : Result :=
  event (fun s => s.request n (.setAlertEnable on)) s

/-- CLEAR ALERTS arrives (R184, R178). -/
def execClearAlerts (n : RequestNumber) (flags : BitVec 32) (s : State) : Result :=
  event (fun s => s.request n (.clearAlerts flags)) s

/-- QUERY ALERTS arrives (R184, R178). -/
def execQueryAlerts (n : RequestNumber) (s : State) : Result := event (fun s => s.request n .queryAlerts) s

/-- SET CLOCK arrives (R185, R178). -/
def execSetClock (n : RequestNumber) (value : Nat) (s : State) : Result :=
  event (fun s => s.request n (.setClock value)) s

/-- IDENTIFY arrives (R186, R178). -/
def execIdentify (n : RequestNumber) (s : State) : Result := event (fun s => s.request n .identify) s

/-- RESET SUITE arrives (R187, R178). -/
def execResetSuite (n : RequestNumber) (s : State) : Result := event (fun s => s.request n .resetSuite) s

end Sys2Proof.Machine
end

