-- ==== Sys2Proof/Machine/OrderCommands.lean ====
section
/-!
DEFINITION. The meanings of the commands: the requests of the Work Order Unit (chapter 5).
-/
namespace Sys2Proof.Machine

/-- OPEN WORK ORDER arrives (R103, R178). -/
def execOpenWorkOrder (n : RequestNumber) (f : OpenFields) (s : State) : Result :=
  event (fun s => s.request n (.openWorkOrder f)) s

/-- SET CUES arrives (R106, R178). -/
def execSetCues (n : RequestNumber) (station : Nat) (cues : List Cue) (s : State) : Result :=
  event (fun s => s.request n (.setCues station cues)) s

/-- START arrives (R107, R178). -/
def execStart (n : RequestNumber) (station : Nat) (s : State) : Result :=
  event (fun s => s.request n (.start station)) s

/-- PAUSE arrives (R108, R178). -/
def execPause (n : RequestNumber) (station : Nat) (s : State) : Result :=
  event (fun s => s.request n (.pause station)) s

/-- STOP arrives (R109, R178). -/
def execStop (n : RequestNumber) (station : Nat) (s : State) : Result :=
  event (fun s => s.request n (.stop station)) s

/-- ABORT arrives (R114, R178). -/
def execAbort (n : RequestNumber) (station : Nat) (s : State) : Result :=
  event (fun s => s.request n (.abort station)) s

/-- QUERY WORK ORDER arrives (R116, R178). -/
def execQueryWorkOrder (n : RequestNumber) (station : Nat) (s : State) : Result :=
  event (fun s => s.request n (.queryWorkOrder station)) s

end Sys2Proof.Machine
end

