-- ==== Sys2Proof/Machine/PictureCommands.lean ====
section
/-!
DEFINITION. The meanings of the commands: the requests of the Frame Store, the Repair Engine, the Grade Engine and the Delivery
Unit, and the ends of captures, analyses and picture messages (chapters 4, 6 to 9).
-/
namespace Sys2Proof.Machine

/-- MARK DEFECT arrives (R128, R178). -/
def execMarkDefect (n : RequestNumber) (station : Nat) (frame : Nat) (span : TileSpan) (s : State) : Result :=
  event (fun s => s.request n (.markDefect station frame span)) s

/-- QUERY STORE arrives (R131, R178). -/
def execQueryStore (n : RequestNumber) (station : Option Nat) (s : State) : Result :=
  event (fun s => s.request n (.queryStore station)) s

/-- SET DETECTOR arrives (R133, R178). -/
def execSetDetector (n : RequestNumber) (f : DetectorFields) (s : State) : Result :=
  event (fun s => s.request n (.setDetector f)) s

/-- QUERY DETECTOR arrives (R133, R178). -/
def execQueryDetector (n : RequestNumber) (s : State) : Result := event (fun s => s.request n .queryDetector) s

/-- QUERY DEFECTS arrives (R149, R178). -/
def execQueryDefects (n : RequestNumber) (station : Nat) (frame : Nat) (s : State) : Result :=
  event (fun s => s.request n (.queryDefects station frame)) s

/-- SET KEYFRAME arrives (R152, R178). -/
def execSetKeyframe (n : RequestNumber) (f : KeyframeFields) (s : State) : Result :=
  event (fun s => s.request n (.setKeyframe f)) s

/-- DELETE KEYFRAME arrives (R153, R178). -/
def execDeleteKeyframe (n : RequestNumber) (reel : Nat) (frame : Nat) (s : State) : Result :=
  event (fun s => s.request n (.deleteKeyframe reel frame)) s

/-- CLEAR GRADE LIST arrives (R154, R178). -/
def execClearGradeList (n : RequestNumber) (reel : Nat) (s : State) : Result :=
  event (fun s => s.request n (.clearGradeList reel)) s

/-- QUERY GRADE LIST arrives (R155, R178). -/
def execQueryGradeList (n : RequestNumber) (reel : Nat) (s : State) : Result :=
  event (fun s => s.request n (.queryGradeList reel)) s

/-- EVALUATE GRADE arrives (R166, R178). -/
def execEvaluateGrade (n : RequestNumber) (reel : Nat) (frame : Nat) (triple : Option (Rgb Nat)) (s : State) : Result :=
  event (fun s => s.request n (.evaluateGrade reel frame triple)) s

/-- QUERY DELIVERY arrives (R176, R178). -/
def execQueryDelivery (n : RequestNumber) (s : State) : Result := event (fun s => s.request n .queryDelivery) s

/-- CAPTURE STORED (R92). -/
def execCaptureStored (lane : LaneId) (samples : List (Nat × Sample)) (s : State) : Result :=
  event (fun s => s.captureStored lane samples) s

/-- LOOPBACK FRAME INTERVAL (R87). -/
def execLoopbackFrameInterval (s : State) : Result := event State.intervalEnds s

/-- ANALYSIS END (R124). -/
def execAnalysisEnd (s : State) : Result := event State.analysisEnds s

/-- PICTURE MESSAGE END (R172). -/
def execPictureMessageEnd (s : State) : Result := event State.pictureEnds s

end Sys2Proof.Machine
end

