-- ==== Sys2Proof/Machine/PowerCommands.lean ====
section
/-!
DEFINITION. The meanings of the commands: power applied and removed (R26, R27).
-/
namespace Sys2Proof.Machine

/-- POWER ON (R27). -/
def execPowerOn (s : State) : Result := .next s.applyPower

/-- POWER LOSS (R26). -/
def execPowerLoss (interruptsWrite : Bool) (s : State) : Result :=
  .next (if s.powered then s.removePower interruptsWrite else s)

end Sys2Proof.Machine
end

