-- ==== Sys2Proof/Machine/RegistryCommands.lean ====
section
/-!
DEFINITION. The meanings of the commands: the requests of the Reel Registry (chapter 1).
-/
namespace Sys2Proof.Machine

/-- ENROLL REEL arrives (R3, R178). -/
def execEnrollReel (n : RequestNumber) (f : EnrollFields) (s : State) : Result :=
  event (fun s => s.request n (.enrollReel f)) s

/-- AMEND REEL arrives (R5, R178). -/
def execAmendReel (n : RequestNumber) (reel : Nat) (f : AmendFields) (s : State) : Result :=
  event (fun s => s.request n (.amendReel reel f)) s

/-- LOCATE REEL arrives (R6, R178). -/
def execLocateReel (n : RequestNumber) (reel : Nat) (place : Location) (s : State) : Result :=
  event (fun s => s.request n (.locateReel reel place)) s

/-- RETIRE REEL arrives (R7, R178). -/
def execRetireReel (n : RequestNumber) (reel : Nat) (s : State) : Result :=
  event (fun s => s.request n (.retireReel reel)) s

/-- QUERY REEL arrives (R8, R178). -/
def execQueryReel (n : RequestNumber) (reel : Nat) (s : State) : Result :=
  event (fun s => s.request n (.queryReel reel)) s

/-- FIND REEL arrives (R8, R178). -/
def execFindReel (n : RequestNumber) (tag : CanTag) (s : State) : Result :=
  event (fun s => s.request n (.findReel tag)) s

/-- LIST REELS arrives (R8, R178). -/
def execListReels (n : RequestNumber) (s : State) : Result := event (fun s => s.request n .listReels) s

/-- QUERY SEGMENTS arrives (R9, R178). -/
def execQuerySegments (n : RequestNumber) (reel : Nat) (s : State) : Result :=
  event (fun s => s.request n (.querySegments reel)) s

/-- QUERY PASS HISTORY arrives (R9, R178). -/
def execQueryPassHistory (n : RequestNumber) (reel : Nat) (s : State) : Result :=
  event (fun s => s.request n (.queryPassHistory reel)) s

/-- SET SEGMENTS arrives (R11, R178). -/
def execSetSegments (n : RequestNumber) (reel : Nat) (map : List Segment) (s : State) : Result :=
  event (fun s => s.request n (.setSegments reel map)) s

/-- SET SEGMENT MODE arrives (R12, R178). -/
def execSetSegmentMode (n : RequestNumber) (reel : Nat) (frame : Nat) (repair : Option RepairMode) (grade : Option GradeMode) (s : State) : Result :=
  event (fun s => s.request n (.setSegmentMode reel frame repair grade)) s

/-- SET QUARANTINE THRESHOLD arrives (R17, R178). -/
def execSetQuarantineThreshold (n : RequestNumber) (value : Nat) (s : State) : Result :=
  event (fun s => s.request n (.setQuarantineThreshold value)) s

/-- RELEASE QUARANTINE arrives (R18, R178). -/
def execReleaseQuarantine (n : RequestNumber) (reel : Nat) (s : State) : Result :=
  event (fun s => s.request n (.releaseQuarantine reel)) s

/-- RELEASE HOLD arrives (R21, R178). -/
def execReleaseHold (n : RequestNumber) (reel : Nat) (s : State) : Result :=
  event (fun s => s.request n (.releaseHold reel)) s

end Sys2Proof.Machine
end

