-- ==== Sys2Proof/Machine/StackCommands.lean ====
section
/-!
DEFINITION. The meanings of the commands: the requests of the Stack Controller and the reports of the lift (chapter 2).
-/
namespace Sys2Proof.Machine

/-- QUERY SHELF arrives (R30, R178). -/
def execQueryShelf (n : RequestNumber) (name : ShelfName) (s : State) : Result :=
  event (fun s => s.request n (.queryShelf name)) s

/-- SET DWELL arrives (R33, R178). -/
def execSetDwell (n : RequestNumber) (zone : Zone) (minutes : Nat) (s : State) : Result :=
  event (fun s => s.request n (.setDwell zone minutes)) s

/-- QUERY STAGING arrives (R35, R178). -/
def execQueryStaging (n : RequestNumber) (s : State) : Result := event (fun s => s.request n .queryStaging) s

/-- FETCH arrives (R37, R178). -/
def execFetch (n : RequestNumber) (reel : Nat) (s : State) : Result := event (fun s => s.request n (.fetch reel)) s

/-- MOUNT arrives (R38, R178). -/
def execMount (n : RequestNumber) (reel : Nat) (station : Nat) (wait : Bool) (s : State) : Result :=
  event (fun s => s.request n (.mount reel station wait)) s

/-- UNMOUNT arrives (R39, R178). -/
def execUnmount (n : RequestNumber) (station : Nat) (s : State) : Result :=
  event (fun s => s.request n (.unmount station)) s

/-- RESHELVE arrives (R40, R178). -/
def execReshelve (n : RequestNumber) (reel : Nat) (s : State) : Result :=
  event (fun s => s.request n (.reshelve reel)) s

/-- CANCEL MOVE arrives (R42, R178). -/
def execCancelMove (n : RequestNumber) (name : MoveName) (s : State) : Result :=
  event (fun s => s.request n (.cancelMove name)) s

/-- QUERY LIFT arrives (R43, R178). -/
def execQueryLift (n : RequestNumber) (s : State) : Result := event (fun s => s.request n .queryLift) s

/-- STOP LIFT arrives (R48, R178). -/
def execStopLift (n : RequestNumber) (s : State) : Result := event (fun s => s.request n .stopLift) s

/-- RESUME LIFT arrives (R49, R178). -/
def execResumeLift (n : RequestNumber) (s : State) : Result := event (fun s => s.request n .resumeLift) s

/-- RETURN LIFT arrives (R50, R178). -/
def execReturnLift (n : RequestNumber) (s : State) : Result := event (fun s => s.request n .returnLift) s

/-- LIFT DIRECT arrives (R52, R178). -/
def execLiftDirect (n : RequestNumber) (s : State) : Result := event (fun s => s.request n .liftDirect) s

/-- LIFT RELEASE arrives (R52, R178). -/
def execLiftRelease (n : RequestNumber) (s : State) : Result := event (fun s => s.request n .liftRelease) s

/-- LIFT PASS GO TO arrives (R53, R178). -/
def execLiftPassGoTo (n : RequestNumber) (position : Location) (s : State) : Result :=
  event (fun s => s.request n (.liftPassGoTo position)) s

/-- LIFT PASS PICK arrives (R53, R178). -/
def execLiftPassPick (n : RequestNumber) (position : Location) (s : State) : Result :=
  event (fun s => s.request n (.liftPassPick position)) s

/-- LIFT PASS PLACE arrives (R53, R178). -/
def execLiftPassPlace (n : RequestNumber) (position : Location) (s : State) : Result :=
  event (fun s => s.request n (.liftPassPlace position)) s

/-- LIFT PASS PARK arrives (R53, R178). -/
def execLiftPassPark (n : RequestNumber) (s : State) : Result := event (fun s => s.request n .liftPassPark) s

/-- ARRIVED (R51). -/
def execArrived (number : Nat) (s : State) : Result := event (fun s => s.liftArrived number) s

/-- MOVE TIMER EXPIRY (R48). -/
def execMoveTimerExpiry (s : State) : Result := event State.moveTimeout s

/-- FAULT (R48). -/
def execLiftFault (s : State) : Result := event State.liftFaulted s

/-- PICKED (R54). -/
def execPicked (position : Location) (s : State) : Result := event (fun s => s.liftPicked position) s

/-- PLACED (R55). -/
def execPlaced (position : Location) (s : State) : Result := event (fun s => s.liftPlaced position) s

/-- POSITIONED (R56). -/
def execPositioned (s : State) : Result := event State.liftPositioned s

/-- CARRIAGE (R58). -/
def execCarriage (loaded : Bool) (s : State) : Result := event (fun s => s.carriageReport loaded) s

/-- DWELL MINUTE TICK (R32). -/
def execDwellMinuteTick (position : Nat) (s : State) : Result := event (fun s => s.dwellMinute position) s

end Sys2Proof.Machine
end

