-- ==== Sys2Proof/Machine/StationCommands.lean ====
section
/-!
DEFINITION. The meanings of the commands: the requests of the Scan Stations and the Capture Crosspoint and the reports of the
transports (chapters 3 and 4).
-/
namespace Sys2Proof.Machine

/-- SET STATION arrives (R62, R178). -/
def execSetStation (n : RequestNumber) (station : Nat) (filter : Option Nat) (tenure : Option Nat) (s : State) : Result :=
  event (fun s => s.request n (.setStation station filter tenure)) s

/-- QUERY STATION arrives (R62, R178). -/
def execQueryStation (n : RequestNumber) (station : Nat) (s : State) : Result :=
  event (fun s => s.request n (.queryStation station)) s

/-- STATION RESET arrives (R86, R178). -/
def execStationReset (n : RequestNumber) (station : Nat) (s : State) : Result :=
  event (fun s => s.request n (.stationReset station)) s

/-- LOOPBACK ON arrives (R87, R178). -/
def execLoopbackOn (n : RequestNumber) (station : Nat) (s : State) : Result :=
  event (fun s => s.request n (.loopbackOn station)) s

/-- LOOPBACK OFF arrives (R87, R178). -/
def execLoopbackOff (n : RequestNumber) (station : Nat) (s : State) : Result :=
  event (fun s => s.request n (.loopbackOff station)) s

/-- FORCE RELEASE arrives (R95, R178). -/
def execForceRelease (n : RequestNumber) (lane : Nat) (s : State) : Result :=
  event (fun s => s.request n (.forceRelease lane)) s

/-- QUERY LANES arrives (R100, R178). -/
def execQueryLanes (n : RequestNumber) (s : State) : Result := event (fun s => s.request n .queryLanes) s

/-- ATTACH (R65). -/
def execAttach (st : StationId) (s : State) : Result := event (fun s => s.attached st) s

/-- IDENT REPLY (R66). -/
def execIdentReply (st : StationId) (f : IdentFields) (s : State) : Result := event (fun s => s.identTaken st f) s

/-- HEARTBEAT (R67). -/
def execHeartbeat (st : StationId) (s : State) : Result := event (fun s => s.heartbeatTaken st) s

/-- DISCOVERY TIMER EXPIRY (R65). -/
def execDiscoveryTimerExpiry (st : StationId) (s : State) : Result := event (fun s => s.discoveryExpired st) s

/-- HEARTBEAT TIMER EXPIRY (R67). -/
def execHeartbeatTimerExpiry (st : StationId) (s : State) : Result := event (fun s => s.heartbeatExpired st) s

/-- CAN PRESENT (R69). -/
def execCanPresent (st : StationId) (present : Bool) (s : State) : Result := event (fun s => s.canSensed st present) s

/-- TAG READ (R70). -/
def execTagRead (st : StationId) (tag : CanTag) (s : State) : Result := event (fun s => s.tagTaken st tag) s

/-- HEAD MARK READ (R70). -/
def execHeadMarkRead (st : StationId) (mark : HeadMark) (s : State) : Result := event (fun s => s.markTaken st mark) s

/-- ACID READING (R72). -/
def execAcidReading (st : StationId) (reading : Int) (s : State) : Result := event (fun s => s.acidTaken st reading) s

/-- THREADED (R71). -/
def execThreaded (st : StationId) (s : State) : Result := event (fun s => s.threadedTaken st) s

/-- UNTHREADED (R71). -/
def execUnthreaded (st : StationId) (s : State) : Result := event (fun s => s.unthreadedTaken st) s

/-- AT SPEED (R80). -/
def execAtSpeed (st : StationId) (count : Nat) (s : State) : Result := event (fun s => s.atSpeedTaken st count) s

/-- FRAME AT GATE (R80). -/
def execFrameAtGate (st : StationId) (count : Nat) (s : State) : Result := event (fun s => s.gateTaken st count) s

/-- PERF INTERVAL (R73). -/
def execPerfInterval (st : StationId) (f : PerfFields) (s : State) : Result := event (fun s => s.perfTaken st f) s

/-- TEAR SENSE (R74). -/
def execTearSense (st : StationId) (count : Nat) (s : State) : Result := event (fun s => s.tearTaken st count) s

/-- SPLICE (R76). -/
def execSplice (st : StationId) (count : Nat) (s : State) : Result := event (fun s => s.spliceTaken st count) s

/-- BREAK (R84). -/
def execFilmBreak (st : StationId) (s : State) : Result := event (fun s => s.breakTaken st) s

/-- SEIZE (R85). -/
def execSeize (st : StationId) (faults : List Byte) (s : State) : Result := event (fun s => s.seizeTaken st faults) s

/-- REWOUND (R83). -/
def execRewound (st : StationId) (s : State) : Result := event (fun s => s.rewoundTaken st) s

end Sys2Proof.Machine
end

