-- ==== Sys2Proof/Machine/Dispatch.lean ====
section
/-!
DEFINITION. The commands, each with its meaning: one arm for each row of spec/opcode_table.json.
-/
namespace Sys2Proof.Machine

/-- The effect of a command on everything but the queue of waiting commands. -/
def exec (i : Instr) (s : State) : Host.Outcome State Fault Refusal :=
  match i with
  | .powerOn => Sys2Proof.Machine.execPowerOn s
  | .frameReceived bytes => Sys2Proof.Machine.execFrameReceived bytes s
  | .outboundMessageSent => Sys2Proof.Machine.execOutboundMessageSent s
  | .clockSecondTick => Sys2Proof.Machine.execClockSecondTick s
  | .enrollReel n f => Sys2Proof.Machine.execEnrollReel n f s
  | .amendReel n reel f => Sys2Proof.Machine.execAmendReel n reel f s
  | .locateReel n reel place => Sys2Proof.Machine.execLocateReel n reel place s
  | .retireReel n reel => Sys2Proof.Machine.execRetireReel n reel s
  | .queryReel n reel => Sys2Proof.Machine.execQueryReel n reel s
  | .findReel n tag => Sys2Proof.Machine.execFindReel n tag s
  | .listReels n => Sys2Proof.Machine.execListReels n s
  | .querySegments n reel => Sys2Proof.Machine.execQuerySegments n reel s
  | .queryPassHistory n reel => Sys2Proof.Machine.execQueryPassHistory n reel s
  | .setSegments n reel map => Sys2Proof.Machine.execSetSegments n reel map s
  | .setSegmentMode n reel frame repair grade => Sys2Proof.Machine.execSetSegmentMode n reel frame repair grade s
  | .setQuarantineThreshold n value => Sys2Proof.Machine.execSetQuarantineThreshold n value s
  | .releaseQuarantine n reel => Sys2Proof.Machine.execReleaseQuarantine n reel s
  | .releaseHold n reel => Sys2Proof.Machine.execReleaseHold n reel s
  | .queryShelf n name => Sys2Proof.Machine.execQueryShelf n name s
  | .setDwell n zone minutes => Sys2Proof.Machine.execSetDwell n zone minutes s
  | .queryStaging n => Sys2Proof.Machine.execQueryStaging n s
  | .fetch n reel => Sys2Proof.Machine.execFetch n reel s
  | .mount n reel station wait => Sys2Proof.Machine.execMount n reel station wait s
  | .unmount n station => Sys2Proof.Machine.execUnmount n station s
  | .reshelve n reel => Sys2Proof.Machine.execReshelve n reel s
  | .cancelMove n name => Sys2Proof.Machine.execCancelMove n name s
  | .queryLift n => Sys2Proof.Machine.execQueryLift n s
  | .stopLift n => Sys2Proof.Machine.execStopLift n s
  | .resumeLift n => Sys2Proof.Machine.execResumeLift n s
  | .returnLift n => Sys2Proof.Machine.execReturnLift n s
  | .liftDirect n => Sys2Proof.Machine.execLiftDirect n s
  | .liftRelease n => Sys2Proof.Machine.execLiftRelease n s
  | .liftPassGoTo n position => Sys2Proof.Machine.execLiftPassGoTo n position s
  | .liftPassPick n position => Sys2Proof.Machine.execLiftPassPick n position s
  | .liftPassPlace n position => Sys2Proof.Machine.execLiftPassPlace n position s
  | .liftPassPark n => Sys2Proof.Machine.execLiftPassPark n s
  | .setStation n station filter tenure => Sys2Proof.Machine.execSetStation n station filter tenure s
  | .queryStation n station => Sys2Proof.Machine.execQueryStation n station s
  | .stationReset n station => Sys2Proof.Machine.execStationReset n station s
  | .loopbackOn n station => Sys2Proof.Machine.execLoopbackOn n station s
  | .loopbackOff n station => Sys2Proof.Machine.execLoopbackOff n station s
  | .forceRelease n lane => Sys2Proof.Machine.execForceRelease n lane s
  | .queryLanes n => Sys2Proof.Machine.execQueryLanes n s
  | .openWorkOrder n f => Sys2Proof.Machine.execOpenWorkOrder n f s
  | .setCues n station cues => Sys2Proof.Machine.execSetCues n station cues s
  | .start n station => Sys2Proof.Machine.execStart n station s
  | .pause n station => Sys2Proof.Machine.execPause n station s
  | .stop n station => Sys2Proof.Machine.execStop n station s
  | .abort n station => Sys2Proof.Machine.execAbort n station s
  | .queryWorkOrder n station => Sys2Proof.Machine.execQueryWorkOrder n station s
  | .markDefect n station frame span => Sys2Proof.Machine.execMarkDefect n station frame span s
  | .queryStore n station => Sys2Proof.Machine.execQueryStore n station s
  | .setDetector n f => Sys2Proof.Machine.execSetDetector n f s
  | .queryDetector n => Sys2Proof.Machine.execQueryDetector n s
  | .queryDefects n station frame => Sys2Proof.Machine.execQueryDefects n station frame s
  | .setKeyframe n f => Sys2Proof.Machine.execSetKeyframe n f s
  | .deleteKeyframe n reel frame => Sys2Proof.Machine.execDeleteKeyframe n reel frame s
  | .clearGradeList n reel => Sys2Proof.Machine.execClearGradeList n reel s
  | .queryGradeList n reel => Sys2Proof.Machine.execQueryGradeList n reel s
  | .evaluateGrade n reel frame triple => Sys2Proof.Machine.execEvaluateGrade n reel frame triple s
  | .queryDelivery n => Sys2Proof.Machine.execQueryDelivery n s
  | .setAlertMask n mask => Sys2Proof.Machine.execSetAlertMask n mask s
  | .setAlertEnable n on => Sys2Proof.Machine.execSetAlertEnable n on s
  | .clearAlerts n flags => Sys2Proof.Machine.execClearAlerts n flags s
  | .queryAlerts n => Sys2Proof.Machine.execQueryAlerts n s
  | .setClock n value => Sys2Proof.Machine.execSetClock n value s
  | .identify n => Sys2Proof.Machine.execIdentify n s
  | .resetSuite n => Sys2Proof.Machine.execResetSuite n s
  | .attach st => Sys2Proof.Machine.execAttach st s
  | .identReply st f => Sys2Proof.Machine.execIdentReply st f s
  | .heartbeat st => Sys2Proof.Machine.execHeartbeat st s
  | .discoveryTimerExpiry st => Sys2Proof.Machine.execDiscoveryTimerExpiry st s
  | .heartbeatTimerExpiry st => Sys2Proof.Machine.execHeartbeatTimerExpiry st s
  | .canPresent st present => Sys2Proof.Machine.execCanPresent st present s
  | .tagRead st tag => Sys2Proof.Machine.execTagRead st tag s
  | .headMarkRead st mark => Sys2Proof.Machine.execHeadMarkRead st mark s
  | .acidReading st reading => Sys2Proof.Machine.execAcidReading st reading s
  | .threaded st => Sys2Proof.Machine.execThreaded st s
  | .unthreaded st => Sys2Proof.Machine.execUnthreaded st s
  | .atSpeed st count => Sys2Proof.Machine.execAtSpeed st count s
  | .frameAtGate st count => Sys2Proof.Machine.execFrameAtGate st count s
  | .perfInterval st f => Sys2Proof.Machine.execPerfInterval st f s
  | .tearSense st count => Sys2Proof.Machine.execTearSense st count s
  | .splice st count => Sys2Proof.Machine.execSplice st count s
  | .filmBreak st => Sys2Proof.Machine.execFilmBreak st s
  | .seize st faults => Sys2Proof.Machine.execSeize st faults s
  | .rewound st => Sys2Proof.Machine.execRewound st s
  | .captureStored lane samples => Sys2Proof.Machine.execCaptureStored lane samples s
  | .loopbackFrameInterval => Sys2Proof.Machine.execLoopbackFrameInterval s
  | .analysisEnd => Sys2Proof.Machine.execAnalysisEnd s
  | .pictureMessageEnd => Sys2Proof.Machine.execPictureMessageEnd s
  | .arrived number => Sys2Proof.Machine.execArrived number s
  | .moveTimerExpiry => Sys2Proof.Machine.execMoveTimerExpiry s
  | .liftFault => Sys2Proof.Machine.execLiftFault s
  | .picked position => Sys2Proof.Machine.execPicked position s
  | .placed position => Sys2Proof.Machine.execPlaced position s
  | .positioned => Sys2Proof.Machine.execPositioned s
  | .carriage loaded => Sys2Proof.Machine.execCarriage loaded s
  | .dwellMinuteTick position => Sys2Proof.Machine.execDwellMinuteTick position s
  | .powerLoss interruptsWrite => Sys2Proof.Machine.execPowerLoss interruptsWrite s

end Sys2Proof.Machine
end

