-- ==== Sys2Proof/Safety.lean ====
section
/-!
DEFINITION. What counts as a safe run of the part, and the words the statements use: a command that goes on, a link that
takes a request at once, stacks with nothing due, an answered request, and the invariants of the lanes, of the outbound
list, of the frame store, of the settings and of the registry.
-/

namespace Sys2Proof

/-- The command that brings a request, with its request number (R178). -/
def Request.command (n : RequestNumber) : Request → Instr
  | .enrollReel f => .enrollReel n f
  | .amendReel r f => .amendReel n r f
  | .locateReel r l => .locateReel n r l
  | .retireReel r => .retireReel n r
  | .queryReel r => .queryReel n r
  | .findReel tag => .findReel n tag
  | .listReels => .listReels n
  | .querySegments r => .querySegments n r
  | .queryPassHistory r => .queryPassHistory n r
  | .setSegments r map => .setSegments n r map
  | .setSegmentMode r f repair grade => .setSegmentMode n r f repair grade
  | .setQuarantineThreshold v => .setQuarantineThreshold n v
  | .releaseQuarantine r => .releaseQuarantine n r
  | .releaseHold r => .releaseHold n r
  | .queryShelf x => .queryShelf n x
  | .setDwell z v => .setDwell n z v
  | .queryStaging => .queryStaging n
  | .fetch r => .fetch n r
  | .mount r st wait => .mount n r st wait
  | .unmount st => .unmount n st
  | .reshelve r => .reshelve n r
  | .cancelMove x => .cancelMove n x
  | .queryLift => .queryLift n
  | .stopLift => .stopLift n
  | .resumeLift => .resumeLift n
  | .returnLift => .returnLift n
  | .liftDirect => .liftDirect n
  | .liftPassGoTo l => .liftPassGoTo n l
  | .liftPassPick l => .liftPassPick n l
  | .liftPassPlace l => .liftPassPlace n l
  | .liftPassPark => .liftPassPark n
  | .liftRelease => .liftRelease n
  | .setStation st filter tenure => .setStation n st filter tenure
  | .queryStation st => .queryStation n st
  | .stationReset st => .stationReset n st
  | .loopbackOn st => .loopbackOn n st
  | .loopbackOff st => .loopbackOff n st
  | .forceRelease l => .forceRelease n l
  | .queryLanes => .queryLanes n
  | .openWorkOrder f => .openWorkOrder n f
  | .setCues st cues => .setCues n st cues
  | .start st => .start n st
  | .pause st => .pause n st
  | .stop st => .stop n st
  | .abort st => .abort n st
  | .queryWorkOrder st => .queryWorkOrder n st
  | .markDefect st f t => .markDefect n st f t
  | .queryStore st => .queryStore n st
  | .setDetector f => .setDetector n f
  | .queryDetector => .queryDetector n
  | .queryDefects st f => .queryDefects n st f
  | .setKeyframe f => .setKeyframe n f
  | .deleteKeyframe r f => .deleteKeyframe n r f
  | .clearGradeList r => .clearGradeList n r
  | .queryGradeList r => .queryGradeList n r
  | .evaluateGrade r f x => .evaluateGrade n r f x
  | .queryDelivery => .queryDelivery n
  | .setAlertMask m => .setAlertMask n m
  | .setAlertEnable on => .setAlertEnable n on
  | .clearAlerts m => .clearAlerts n m
  | .queryAlerts => .queryAlerts n
  | .setClock v => .setClock n v
  | .identify => .identify n
  | .resetSuite => .resetSuite n

end Sys2Proof

namespace Sys2Proof.Machine

/-! ### Safe runs -/

/-- The command goes on to a next state. -/
def goesOn (c : Instr) (s : State) : Prop := ∃ t, exec c s = .next t

/-- A run that never stops: every command that waits is taken and answered by a next state, for `k` steps. -/
def safeFor (k : Nat) (s : State) : Prop := ∃ t, Sys2Proof.core.run k s = .next t

/-! ### When a request is taken at once -/

/-- The transmitter never leaves a notice untaken at the head of the outbound list (R181, R183). -/
def Link.headTaken (l : Link) : Prop := ∀ f, l.outbound.head? ≠ some (.notice f)

/-- LNK takes a request that arrives at once: the part is powered, no request waits, and the reply to the request taken
before has been sent (R178). -/
structure Free (s : State) : Prop where
  powered : s.powered = true
  queue : s.link.queue = []
  ready : s.link.ready = true
  taken : s.link.headTaken

/-- Nothing that chapter 2 applies by itself is due: the lift has nothing to start, every registered reel at an OCCUPIED
position has been announced or has not stood there for its required dwell, and every waiting MOUNT record has the state its
dwell gives it (R34, R41, R44). -/
structure Rested (s : State) : Prop where
  lift : s.stk.lift = .idle → s.stk.queue = []
  announced : ∀ (p i : Nat) (x : Staging) (r : Reel), s.position? p = some x → x.state = .occupied → s.reel? i = some r →
    r.location = .staging p → x.announced = true ∨ x.dwell < s.retained.dwell.of r.cameFrom
  waits : ∀ m ∈ s.stk.queue, m.kind = .mount → (m.state = .queued ∨ m.state = .dwellWait) → s.mountState m = m.state

/-- The lift does not start a move by itself: it is not IDLE, or its queue is empty (R44). -/
def NoStart (s : State) : Prop := s.stk.lift = .idle → s.stk.queue = []

/-- Nothing that R34 and R41 apply by themselves is due: the announced marks and the states of the waiting MOUNT records
stand as the dwell counters give them. -/
structure DwellFollowed (s : State) : Prop where
  announced : ∀ (p i : Nat) (x : Staging) (r : Reel), s.position? p = some x → x.state = .occupied → s.reel? i = some r →
    r.location = .staging p → x.announced = true ∨ x.dwell < s.retained.dwell.of r.cameFrom
  waits : ∀ m ∈ s.stk.queue, m.kind = .mount → (m.state = .queued ∨ m.state = .dwellWait) → s.mountState m = m.state

/-- A powered part whose link takes a request at once and whose stacks have nothing due. -/
structure Calm (s : State) : Prop extends Free s, Rested s

/-- The state with the reply to a request at the tail of the outbound list. -/
def State.answered (s : State) (r : Request) (n : RequestNumber) (b : ReplyBody) : State :=
  { s with
    link := { s.link with outbound := s.link.outbound ++ [.reply { kind := r.kind, number := n, body := b }] } }

/-- The state with its ports quiet: an event starts with nothing sent. -/
def State.silent (s : State) : State := { s with sent := [] }

/-- The reply to a request stands in the outbound list. -/
def Replied (t : State) (r : Request) (n : RequestNumber) (b : ReplyBody) : Prop :=
  Outbound.reply { kind := r.kind, number := n, body := b } ∈ t.link.outbound

/-- The event has placed the one reply to a request: no other reply stands in the outbound list. -/
def RepliedOnce (t : State) (r : Request) (n : RequestNumber) (b : ReplyBody) : Prop :=
  t.link.outbound.filter (·.isReply) = [.reply { kind := r.kind, number := n, body := b }]

/-- LNK with a rejected frame's cause recorded (R177). -/
def State.rejecting (s : State) (x : Rejection) : State := { s with link := { s.link with rejection := some x } }

/-! ### Frames -/

/-- The blocks that serve a pass are as they were: stations, lanes, work orders, frame store, Repair Engine, snapshot and
picture channel. -/
structure SameWork (s t : State) : Prop where
  stations : t.stations = s.stations
  lanes : t.lanes = s.lanes
  orders : t.orders = s.orders
  store : t.store = s.store
  engine : t.engine = s.engine
  snapshot : t.snapshot = s.snapshot
  delivery : t.delivery = s.delivery

/-- The stacks are as they were but for the announced marks of staging positions and the waiting states of MOUNT records,
which follow their conditions in every event (R34, R41). -/
structure SameStacks (s t : State) : Prop where
  positions : ∀ p x, s.position? p = some x → ∃ y, t.position? p = some y ∧ y.state = x.state ∧ y.dwell = x.dwell
  queue : t.stk.queue.map (fun m => { m with state := MoveState.queued })
    = s.stk.queue.map (fun m => { m with state := MoveState.queued })
  lift : t.stk.lift = s.stk.lift
  carriage : t.stk.carriage = s.stk.carriage
  cause : t.stk.cause = s.stk.cause
  counter : t.stk.counter = s.stk.counter
  timer : t.stk.timer = s.stk.timer
  forwarded : t.stk.forwarded = s.stk.forwarded
  reported : t.stk.reported = s.stk.reported

/-- LNK is as it was but for what alerts change: the flags, their pending marks and the outbound list. -/
structure SameSettings (s t : State) : Prop where
  queue : t.link.queue = s.link.queue
  mask : t.link.mask = s.link.mask
  enable : t.link.enable = s.link.enable
  rejection : t.link.rejection = s.link.rejection
  clock : t.link.clock = s.link.clock
  retainedPassed : t.link.retainedPassed = s.link.retainedPassed

/-- An alert flag is set in the alert word (R182). -/
def State.flag (s : State) (f : AlertFlag) : Bool := s.link.word.getLsbD f.number

/-- Every flag that was set is still set (R182). -/
def FlagsKept (s t : State) : Prop := ∀ f, s.flag f = true → t.flag f = true

/-- Lane `l` carries frame `f` of station `st` into slot `k` from the middle of a pass: the station, which is RUNNING at
speed at a continuous profile, has an ACTIVE work order of reel `i` with more frames to capture behind `f`, no cue at it,
and nothing pending that would make it act otherwise when the capture completes (R81, R110). -/
structure MidPass (s : State) (l : LaneId) (h : Hold) (st : StationId) (f k i : Nat) (b : OrderBody) (r : Reel) (x : Slot) :
    Prop where
  carries : s.lane l = { hold := some h, carriage := some { station := st, frame := f, slot := k } }
  holder : h.station = st
  holds : s.laneOf st = some l
  slot : s.slot? k = some x
  filling : x.state = .filling
  active : (s.order st).state = .active
  body : (s.order st).body = some b
  ofReel : b.reel = some i
  reel : s.reel? i = some r
  inside : f < b.last
  more : s.capturableFrom b (f + 1) ≤ b.last
  noCue : ∀ c ∈ (s.order st).cues, c.frame ≠ f
  running : (s.station st).state = .running
  atSpeed : (s.station st).motion = .atSpeed
  continuous : (s.station st).profile ≠ some .step
  noStop : (s.station st).stopPending = .none
  noFallback : (s.station st).fallback = none

/-- Lane `l`, with no release pending and no station waiting, carries frame `f` of station `st`, whose work order has a body,
into the FILLING slot `k`: what a completion finds, whatever the station and its work order then do (R81, R92, R110). -/
structure Completing (s : State) (l : LaneId) (h : Hold) (st : StationId) (f k : Nat) (b : OrderBody) (x : Slot) : Prop where
  carries : s.lane l = { hold := some h, carriage := some { station := st, frame := f, slot := k } }
  holder : h.station = st
  holds : s.laneOf st = some l
  unhurried : h.release = .none
  alone : s.lanes.waitList = []
  slot : s.slot? k = some x
  filling : x.state = .filling
  body : (s.order st).body = some b

/-! ### Invariants -/

/-- The lanes are exclusive: two HELD lanes have two holders, no holder of a lane waits for one, and no station waits
twice (R88, R89). -/
structure LanesExclusive (s : State) : Prop where
  holders : ∀ st, ¬ (s.lanes.laneA.heldBy st = true ∧ s.lanes.laneB.heldBy st = true)
  apart : ∀ st ∈ s.lanes.waitList, s.laneOf st = none
  once : s.lanes.waitList.Nodup

/-- The flags whose notices wait in the outbound list, untaken. -/
def Link.waitingNotices (l : Link) : List AlertFlag :=
  l.outbound.filterMap (fun e => match e with
    | .notice f => some f
    | _ => none)

/-- The outbound list is in order: the head is taken, every waiting notice has its pending mark, and no flag has two
notices waiting (R181, R183). -/
structure OutboundInOrder (l : Link) : Prop where
  taken : l.headTaken
  pending : ∀ f ∈ l.waitingNotices, (l.pending[f.number]).isSome = true
  once : l.waitingNotices.Nodup

/-- The planes of every slot have their canonical form (R117). -/
def PlanesCanonical (s : State) : Prop := ∀ k x, s.slot? k = some x → x.planes.wf = true

/-- The settings stand in the ranges their rules give them (R17, R33, R62, R133, R185), the move counter in 1 to 255
(R43), and the dwell counters and the tenure counts within theirs (R32, R93). -/
structure SettingsInRange (s : State) : Prop where
  threshold : 5 ≤ s.retained.threshold ∧ s.retained.threshold ≤ 30
  dwell : s.retained.dwell.n ≤ 1440 ∧ s.retained.dwell.a ≤ 1440 ∧ s.retained.dwell.q ≤ 1440 ∧ s.retained.dwell.p ≤ 1440
  stations : ∀ st, 1 ≤ (s.station st).filterSetting ∧ (s.station st).filterSetting ≤ 15
    ∧ 1 ≤ (s.station st).tenure ∧ (s.station st).tenure ≤ 255
  detector : 16 ≤ s.engine.settings.t ∧ s.engine.settings.t ≤ 1023 ∧ 1 ≤ s.engine.settings.ithr
    ∧ s.engine.settings.ithr ≤ 255 ∧ 1 ≤ s.engine.settings.nmin ∧ s.engine.settings.nmin ≤ 255
    ∧ s.engine.settings.nmin ≤ s.engine.settings.nmax ∧ s.engine.settings.nmax ≤ 4096
  clock : s.link.clock ≤ 86399
  counter : 1 ≤ s.stk.counter ∧ s.stk.counter ≤ 255
  staging : ∀ p x, s.position? p = some x → x.dwell ≤ 65535
  tenures : ∀ l h, (s.lane l).hold = some h → h.tenure ≤ 255

/-- A reel's record stands in the ranges its rules give it: the length, the pass limit and the latest reading (R3, R5, R16),
the home cell in the zone of the reel's class (R15, R29), and the pass records numbered by their positions, each begun at a
suite time (R22, R185). -/
structure RecordInRange (r : Reel) : Prop where
  length : 1 ≤ r.length ∧ r.length ≤ 60000
  passLimit : 1 ≤ r.passLimit ∧ r.passLimit ≤ 16
  acid : ∀ v, r.acid = some v → v ≤ 30
  home : ∀ c, r.home = some c → c < 640 ∧ zoneOfCell c = r.cls
  passes : ∀ k p, r.history[k]? = some p → p.number = k + 1 ∧ p.startTime ≤ 86399

/-- Every record stands in its ranges, and no two registered reels have one can tag (R1, R3) or one home cell (R29). -/
structure RegistryInRange (s : State) : Prop where
  records : ∀ i r, s.reel? i = some r → RecordInRange r
  tags : ∀ i j r q, s.reel? i = some r → s.reel? j = some q → r.tag = q.tag → i = j
  homes : ∀ i j r q c, s.reel? i = some r → s.reel? j = some q → r.home = some c → q.home = some c → i = j

end Sys2Proof.Machine
end

