-- ==== Sys2Proof/WellFormed.lean ====
section
/-!
DEFINITION. Well-formed commands: every operand is one that the encodings of R190 and R191, or the port that sends the
command, can carry. What lies in an encoding but outside a rule's range is well formed: the owner clamps or refuses it
(R191).
-/
namespace Sys2Proof

/-- A number that a field of `size` bytes holds (R190). -/
def fits (size v : Nat) : Bool := decide (v < 256 ^ size)

/-- An optional number that a field of `size` bytes holds. -/
def fitsOpt (size : Nat) (v : Option Nat) : Bool := v.all (fits size)

/-- A signed number that a field of two bytes holds (R190). -/
def fitsSigned (v : Int) : Bool := decide (-32768 ≤ v) && decide (v ≤ 32767)

/-- A location whose number fits its two bytes (R190). -/
def Location.fits : Location → Bool
  | .cell v => decide (v < 65536)
  | .staging v => decide (v < 65536)
  | .chamber v => decide (v < 65536)
  | .carriage => true
  | .unknown => true

/-- A location that a report of the lift or a position of LIFT PASS can name: a cell, a staging position or a chamber
(R43, R53, R190). -/
def Location.named : Location → Bool
  | .carriage => false
  | .unknown => false
  | l => l.fits

/-- A segment whose frames fit (R194). -/
def Segment.fits (g : Segment) : Bool := Sys2Proof.fits 2 g.first && Sys2Proof.fits 2 g.last

/-- A cue list within its limit whose frames fit (R101, R190). -/
def cuesFitWire (l : List Cue) : Bool := decide (l.length ≤ Config.cueLimit) && l.all (fun c => fits 2 c.frame)

/-- A triple whose values fit (R190). -/
def tripleFits (x : Rgb Nat) : Bool := fits 2 x.red && fits 2 x.green && fits 2 x.blue

/-- A parameter set whose values fit (R190). -/
def paramsFit (p : ParamSet) : Bool :=
  fitsSigned p.lift.red && fitsSigned p.lift.green && fitsSigned p.lift.blue && tripleFits p.gain && fits 2 p.saturation

/-- The fields of ENROLL REEL fit (R190). -/
def enrollFits (f : EnrollFields) : Bool :=
  fits 2 f.length && f.location.fits && fitsOpt 1 f.reading && fitsOpt 1 f.passLimit

/-- The subject of OPEN WORK ORDER fits (R190). -/
def subjectFits : OrderSubject → Bool
  | .reel r first last => fits 2 r && fits 2 first && fits 2 last
  | .loopback n => fits 2 n

/-- A request whose fields their encodings hold (R190, R191). -/
def Request.wellFormed : Request → Bool
  | .enrollReel f => enrollFits f
  | .amendReel r f => fits 2 r && fitsOpt 1 f.passLimit && fitsOpt 1 f.reading
  | .locateReel r l => fits 2 r && l.fits
  | .retireReel r => fits 2 r
  | .queryReel r => fits 2 r
  | .findReel _ => true
  | .listReels => true
  | .querySegments r => fits 2 r
  | .queryPassHistory r => fits 2 r
  | .setSegments r map => fits 2 r && decide (map.length ≤ Config.segmentLimit) && map.all (·.fits)
  | .setSegmentMode r f _ _ => fits 2 r && fits 2 f
  | .setQuarantineThreshold v => fits 1 v
  | .releaseQuarantine r => fits 2 r
  | .releaseHold r => fits 2 r
  | .queryShelf (.cell c) => fits 2 c
  | .queryShelf (.zone _) => true
  | .setDwell _ v => fits 2 v
  | .queryStaging => true
  | .fetch r => fits 2 r
  | .mount r st _ => fits 2 r && fits 1 st
  | .unmount st => fits 1 st
  | .reshelve r => fits 2 r
  | .cancelMove (.reel r) => fits 2 r
  | .cancelMove (.station st) => fits 1 st
  | .queryLift => true
  | .stopLift => true
  | .resumeLift => true
  | .returnLift => true
  | .liftDirect => true
  | .liftPassGoTo l => l.named
  | .liftPassPick l => l.named
  | .liftPassPlace l => l.named
  | .liftPassPark => true
  | .liftRelease => true
  | .setStation st filter tenure => fits 1 st && fitsOpt 1 filter && fitsOpt 1 tenure
  | .queryStation st => fits 1 st
  | .stationReset st => fits 1 st
  | .loopbackOn st => fits 1 st
  | .loopbackOff st => fits 1 st
  | .forceRelease l => fits 1 l
  | .queryLanes => true
  | .openWorkOrder f => fits 1 f.station && subjectFits f.subject && f.cues.all cuesFitWire
  | .setCues st cues => fits 1 st && cuesFitWire cues
  | .start st => fits 1 st
  | .pause st => fits 1 st
  | .stop st => fits 1 st
  | .abort st => fits 1 st
  | .queryWorkOrder st => fits 1 st
  | .markDefect st f t => fits 1 st && fits 2 f && fits 1 t.row && fits 1 t.firstCol && fits 1 t.lastCol
  | .queryStore st => fitsOpt 1 st
  | .setDetector f => fitsOpt 2 f.t && fitsOpt 1 f.ithr && fitsOpt 1 f.nmin && fitsOpt 2 f.nmax
  | .queryDetector => true
  | .queryDefects st f => fits 1 st && fits 2 f
  | .setKeyframe f => fits 2 f.reel && fits 2 f.frame && paramsFit f.params
  | .deleteKeyframe r f => fits 2 r && fits 2 f
  | .clearGradeList r => fits 2 r
  | .queryGradeList r => fits 2 r
  | .evaluateGrade r f x => fits 2 r && fits 2 f && x.all tripleFits
  | .queryDelivery => true
  | .setAlertMask _ => true
  | .setAlertEnable _ => true
  | .clearAlerts _ => true
  | .queryAlerts => true
  | .setClock v => fits 4 v
  | .identify => true
  | .resetSuite => true

/-- The positions of the samples a lane writes are distinct and lie in the largest geometry (R91, R117). -/
def samplesFit (l : List (Nat × Sample)) : Bool :=
  decide ((l.map (·.1)).Nodup) && l.all (fun e => decide (e.1 < 12582912))

/-- A well-formed command. A station number, a lane or a tag of a port event has no ill-formed value in its type. -/
def Instr.wellFormed : Instr → Bool
  | .powerOn => true
  | .frameReceived _ => true
  | .outboundMessageSent => true
  | .clockSecondTick => true
  | .enrollReel _ f => (Request.enrollReel f).wellFormed
  | .amendReel _ r f => (Request.amendReel r f).wellFormed
  | .locateReel _ r l => (Request.locateReel r l).wellFormed
  | .retireReel _ r => (Request.retireReel r).wellFormed
  | .queryReel _ r => (Request.queryReel r).wellFormed
  | .findReel _ _ => true
  | .listReels _ => true
  | .querySegments _ r => (Request.querySegments r).wellFormed
  | .queryPassHistory _ r => (Request.queryPassHistory r).wellFormed
  | .setSegments _ r map => (Request.setSegments r map).wellFormed
  | .setSegmentMode _ r f repair grade => (Request.setSegmentMode r f repair grade).wellFormed
  | .setQuarantineThreshold _ v => (Request.setQuarantineThreshold v).wellFormed
  | .releaseQuarantine _ r => (Request.releaseQuarantine r).wellFormed
  | .releaseHold _ r => (Request.releaseHold r).wellFormed
  | .queryShelf _ n => (Request.queryShelf n).wellFormed
  | .setDwell _ z v => (Request.setDwell z v).wellFormed
  | .queryStaging _ => true
  | .fetch _ r => (Request.fetch r).wellFormed
  | .mount _ r st wait => (Request.mount r st wait).wellFormed
  | .unmount _ st => (Request.unmount st).wellFormed
  | .reshelve _ r => (Request.reshelve r).wellFormed
  | .cancelMove _ n => (Request.cancelMove n).wellFormed
  | .queryLift _ => true
  | .stopLift _ => true
  | .resumeLift _ => true
  | .returnLift _ => true
  | .liftDirect _ => true
  | .liftRelease _ => true
  | .liftPassGoTo _ l => (Request.liftPassGoTo l).wellFormed
  | .liftPassPick _ l => (Request.liftPassPick l).wellFormed
  | .liftPassPlace _ l => (Request.liftPassPlace l).wellFormed
  | .liftPassPark _ => true
  | .setStation _ st filter tenure => (Request.setStation st filter tenure).wellFormed
  | .queryStation _ st => (Request.queryStation st).wellFormed
  | .stationReset _ st => (Request.stationReset st).wellFormed
  | .loopbackOn _ st => (Request.loopbackOn st).wellFormed
  | .loopbackOff _ st => (Request.loopbackOff st).wellFormed
  | .forceRelease _ l => (Request.forceRelease l).wellFormed
  | .queryLanes _ => true
  | .openWorkOrder _ f => (Request.openWorkOrder f).wellFormed
  | .setCues _ st cues => (Request.setCues st cues).wellFormed
  | .start _ st => (Request.start st).wellFormed
  | .pause _ st => (Request.pause st).wellFormed
  | .stop _ st => (Request.stop st).wellFormed
  | .abort _ st => (Request.abort st).wellFormed
  | .queryWorkOrder _ st => (Request.queryWorkOrder st).wellFormed
  | .markDefect _ st f t => (Request.markDefect st f t).wellFormed
  | .queryStore _ st => (Request.queryStore st).wellFormed
  | .setDetector _ f => (Request.setDetector f).wellFormed
  | .queryDetector _ => true
  | .queryDefects _ st f => (Request.queryDefects st f).wellFormed
  | .setKeyframe _ f => (Request.setKeyframe f).wellFormed
  | .deleteKeyframe _ r f => (Request.deleteKeyframe r f).wellFormed
  | .clearGradeList _ r => (Request.clearGradeList r).wellFormed
  | .queryGradeList _ r => (Request.queryGradeList r).wellFormed
  | .evaluateGrade _ r f x => (Request.evaluateGrade r f x).wellFormed
  | .queryDelivery _ => true
  | .setAlertMask _ _ => true
  | .setAlertEnable _ _ => true
  | .clearAlerts _ _ => true
  | .queryAlerts _ => true
  | .setClock _ v => (Request.setClock v).wellFormed
  | .identify _ => true
  | .resetSuite _ => true
  | .attach _ => true
  | .identReply _ _ => true
  | .heartbeat _ => true
  | .discoveryTimerExpiry _ => true
  | .heartbeatTimerExpiry _ => true
  | .canPresent _ _ => true
  | .tagRead _ _ => true
  | .headMarkRead _ _ => true
  | .acidReading _ _ => true
  | .threaded _ => true
  | .unthreaded _ => true
  | .atSpeed _ _ => true
  | .frameAtGate _ _ => true
  | .perfInterval _ f => decide (f.transitions.Pairwise (fun a b => a.position ≤ b.position))
  | .tearSense _ _ => true
  | .splice _ _ => true
  | .filmBreak _ => true
  | .seize _ names => names.all (fun b => b != 255)
  | .rewound _ => true
  | .captureStored _ samples => samplesFit samples
  | .loopbackFrameInterval => true
  | .analysisEnd => true
  | .pictureMessageEnd => true
  | .arrived number => decide (1 ≤ number) && decide (number ≤ 255)
  | .moveTimerExpiry => true
  | .liftFault => true
  | .picked l => l.named
  | .placed l => l.named
  | .positioned => true
  | .carriage _ => true
  | .dwellMinuteTick p => decide (p < Config.stagingPositions)
  | .powerLoss _ => true

end Sys2Proof
end

