-- ==== Sys2Proof/Certificates/Slice0/Obligations.lean ====
section
/-!
DEFINITION. The statements for the provers.
-/

open Sys2Proof Sys2Proof.Machine

/-! ### The machine -/

/-- A step takes the command at the front of the queue and runs it on the state with the rest of the queue. Rests also on
the model's own choices or readings, log entries 7 and 8. -/
def Obligations.StepTakesTheFrontCommand : Prop :=
  ∀ (c : Instr) (s : State), step { s with pending := c :: s.pending } = exec c s

/-- No command stops the part: each is answered by a next state, and none touches the queue of waiting commands. Rests also
on the model's own choices or readings, log entries 9 and 50. -/
def Obligations.EveryCommandGoesOn : Prop :=
  ∀ (c : Instr) (s : State), ∃ t, exec c s = .next t ∧ t.pending = s.pending

/-- R27: power-on after a failed check leaves every block at its power-on value, the registry free and RETAINED LOST set:
the state that log entry 1 takes for reset. R26, R27: a power loss keeps the retained content and loses everything else; one
that interrupts a retained write makes the next power-on find a failed check, and one that does not leaves the check word as
it was. Rests also on the model's own choices or readings, log entries 1, 5, 9, 11, 12 and 55. -/
def Obligations.PowerLossAndTheFailedCheck : Prop :=
  (∀ s : State, s.retained.checkAgrees = false → exec .powerOn s = .next { State.reset with pending := s.pending })
  ∧ (∀ (s : State), s.powered = true →
    (∃ t, exec (.powerLoss false) s = .next t ∧ t.powered = false ∧ t.retained = s.retained ∧ t.stk = .powerOn
      ∧ (∀ st, t.station st = .powerOn ∧ t.order st = .powerOn) ∧ t.lanes = .powerOn ∧ t.store = .powerOn
      ∧ t.engine = .powerOn ∧ t.snapshot = none ∧ t.delivery = .powerOn ∧ t.link = .powerOn ∧ t.sent = [])
    ∧ ∃ t, exec (.powerLoss true) s = .next t ∧ t.powered = false ∧ t.retained.reels = s.retained.reels
      ∧ t.retained.dwell = s.retained.dwell ∧ t.retained.threshold = s.retained.threshold
      ∧ exec .powerOn t = .next { State.reset with pending := s.pending })

/-- R27, R31, R57: power-on after a passed check keeps the registry and its settings. A reel in a chamber becomes UNKNOWN
with custody NONE, RUNNING passes are ABORTED, work order fields are cleared, and every other field of every record stays.
The volatile blocks take their power-on values, staging and carriage are rebuilt from the locations, and LOCATION UNKNOWN is
raised exactly when a reel was in a chamber. Rests also on the model's own choices or readings, log entries 5, 9, 12 and 55.
-/
def Obligations.PowerOnKeepsTheRegistry : Prop :=
  ∀ s : State, s.retained.checkAgrees = true → ∃ t, exec .powerOn s = .next t
    ∧ t.powered = true ∧ t.pending = s.pending
    ∧ t.retained.dwell = s.retained.dwell ∧ t.retained.threshold = s.retained.threshold
    ∧ t.retained.checkAgrees = true
    ∧ (∀ i, s.reel? i = none → t.reel? i = none)
    ∧ (∀ i r, s.reel? i = some r → (∀ k, r.location ≠ .chamber k) → t.reel? i = some
        { r with
          order := none
          history := r.history.map (fun p => if p.outcome = .running then { p with outcome := .aborted } else p) })
    ∧ (∀ i r k, s.reel? i = some r → r.location = .chamber k → t.reel? i = some
        { r with
          location := .unknown, custody := .none, order := none
          history := r.history.map (fun p => if p.outcome = .running then { p with outcome := .aborted } else p) })
    ∧ (∀ st, t.station st = .powerOn ∧ t.order st = .powerOn) ∧ t.lanes = .powerOn ∧ t.store = .powerOn
    ∧ t.engine = .powerOn ∧ t.snapshot = none ∧ t.delivery = .powerOn
    ∧ t.stk.lift = .halted ∧ t.stk.queue = [] ∧ t.stk.cause = some .fault ∧ t.stk.counter = 1 ∧ t.stk.timer = none
    ∧ t.stk.forwarded = none ∧ t.stk.reported = false
    ∧ t.stk.carriage = (match s.reelAt .carriage with
        | some i => Carriage.reel i
        | none => .unreported)
    ∧ (∀ p x, t.position? p = some x → x.dwell = 0
        ∧ x.state = if (s.reelAt (.staging p)).isSome then StagingState.occupied else .empty)
    ∧ t.link.queue = [] ∧ t.link.mask = BitVec.allOnes 22 ∧ t.link.enable = false ∧ t.link.clock = 0
    ∧ t.link.rejection = none ∧ t.link.retainedPassed = true ∧ t.flag .retainedLost = false
    ∧ (t.flag .locationUnknown = true ↔ ∃ i r k, s.reel? i = some r ∧ r.location = .chamber k)

/-! ### The suite link -/

/-- R177, R189: a frame is rejected for LENGTH, CHECK, CHANNEL or CLASS, the first that applies in this order: its cause is
recorded, FRAME REJECTED is raised naming nothing, and nothing else happens. R178, R179: a request that arrives while the
reply before it has not been sent joins a request queue of fewer than 8, is answered BUSY with REQUEST QUEUE FULL when the
queue is full, and is rejected with cause OVERRUN when 8 BUSY replies wait besides. Rests also on the model's own choices or
readings, log entry 2. -/
def Obligations.FramesAreRejectedAndRequestsWait : Prop :=
  (∀ (l : List Byte) (s : State), s.powered = true → Rested s →
    let length := natOfBytes ((l.drop 1).take 4)
    let covered := l.take (5 + length)
    let sentCheck := natOfBytes (l.drop (5 + length))
    (l.length ≠ 9 + length ∨ 1024 < length →
      exec (.frameReceived l) s = .next ((s.silent.rejecting .length).raise .frameRejected {}))
    ∧ (l.length = 9 + length → length ≤ 1024 → (checkValue covered).toNat ≠ sentCheck →
      exec (.frameReceived l) s = .next ((s.silent.rejecting .check).raise .frameRejected {}))
    ∧ (l.length = 9 + length → length ≤ 1024 → (checkValue covered).toNat = sentCheck → l.head? ≠ some 0 →
      exec (.frameReceived l) s = .next ((s.silent.rejecting .channel).raise .frameRejected {}))
    ∧ (l.length = 9 + length → length ≤ 1024 → (checkValue covered).toNat = sentCheck → l.head? = some 0 →
        (length < 4 ∨ l[5]? ≠ some 1) →
      exec (.frameReceived l) s = .next ((s.silent.rejecting .class_).raise .frameRejected {})))
  ∧ (∀ (s : State) (n : RequestNumber) (r : Request), s.powered = true → Rested s → s.link.headTaken →
    s.link.ready = false → r.decodes = true →
    let busy := s.link.outbound.countP (·.isBusy)
    (s.link.queue.length < 8 → exec (r.command n) s = .next { s.silent with link := { s.link with
        queue := s.link.queue ++ [{ kind := r.kind, number := n, request := some r }] } })
    ∧ (8 ≤ s.link.queue.length → busy < 8 → exec (r.command n) s = .next (({ s.silent with link := { s.link with
        outbound := s.link.outbound ++ [.busy { kind := r.kind, number := n, body := .busy }] } } : State).raise
          .requestQueueFull {}))
    ∧ (8 ≤ s.link.queue.length → 8 ≤ busy →
      exec (r.command n) s = .next ((s.silent.rejecting .overrun).raise .frameRejected {})))

/-- R188 to R191: the frame of a well-formed request is accepted and decoded without loss: its arrival is the request's
command. Rests also on the model's own choices or readings, log entries 2, 10, 28 and 45. -/
def Obligations.FrameOfARequestIsItsCommand : Prop :=
  ∀ (n : RequestNumber) (r : Request) (s : State), r.wellFormed = true →
    ∃ t, exec (.frameReceived (requestFrame n r)) s = .next t ∧ exec (r.command n) s = .next t

/-- R190, R191: decoding the encoded body of a well-formed request gives the request back. Rests also on the model's own
choices or readings, log entries 28 and 45. -/
def Obligations.DecodingInvertsEncoding : Prop :=
  ∀ r : Request, r.wellFormed = true → decodeBody r.kind (encodeBody r) = some r

/-- R178, R180: every request that LNK takes gets exactly one reply, with its kind and number. -/
def Obligations.EveryRequestTakenGetsOneReply : Prop :=
  ∀ (s : State) (n : RequestNumber) (r : Request), Free s → ∃ t b, exec (r.command n) s = .next t ∧ RepliedOnce t r n b

/-- R180: a request that is refused changes nothing but that its reply is placed. PASS LIMIT, which raises an alert
(R103), is left out. -/
def Obligations.RefusedRequestsChangeNothing : Prop :=
  ∀ (s t : State) (n : RequestNumber) (r : Request) (x : Reason), Calm s → x ≠ .passLimit →
    exec (r.command n) s = .next t → RepliedOnce t r n (.refused x) → t = s.silent.answered r n (.refused x)

/-- R178, R181, R183: when the transmitter has sent the head of the outbound list, the message leaves the part and the list;
a notice behind it is composed with the word and the context as they stand, and its pending mark is cleared; and the reply's
removal lets LNK take the oldest request, after the notice behind it has been composed, also where the arbiter's test stands
between the two. Where that test stands behind the last control message that waited at a message end, it leaves the list
with that message, and begins no delivery while the channel is SENDING or no work order offers a frame. Rests also on the
model's own choices or readings, log entries 13, 15, 69 and 70. -/
def Obligations.SentMessagesLeaveTheOutboundList : Prop :=
  ∀ (s : State) (rest : List Outbound), s.powered = true → Rested s →
    let plain := (∀ f, rest.head? ≠ some (.notice f)) ∧ rest.head? ≠ some .arbiterTest
    (∀ b, s.link.outbound = .busy b :: rest → plain →
      exec .outboundMessageSent s = .next { s with sent := [.reply b], link := { s.link with outbound := rest } })
    ∧ (∀ b, s.link.outbound = .reply b :: rest → plain → s.link.queue = [] →
      exec .outboundMessageSent s = .next { s with sent := [.reply b], link := { s.link with outbound := rest } })
    ∧ (∀ x, s.link.outbound = .taken x :: rest → plain →
        s.link.pending[x.cause.number] = none →
      exec .outboundMessageSent s = .next { s with sent := [.notice x], link := { s.link with outbound := rest } })
    ∧ (∀ b f c tail, s.link.outbound = .busy b :: rest → rest = .notice f :: tail → s.link.pending[f.number] = some c →
      exec .outboundMessageSent s = .next { s with
        sent := [.reply b]
        link := { s.link with
          outbound := .taken { word := s.link.word, cause := f, context := c } :: tail
          pending := s.link.pending.set f.number none } })
    ∧ (∀ b q qs, s.link.outbound = .reply b :: rest → rest.any (·.isReply) = false → s.link.queue = q :: qs →
      ∃ t x, exec .outboundMessageSent s = .next t ∧ Emission.reply b ∈ t.sent
        ∧ t.link.outbound.filter (·.isReply) = [.reply { kind := q.kind, number := q.number, body := x }])
    ∧ (∀ b, s.link.outbound = .busy b :: .arbiterTest :: rest → plain →
        (s.delivery.channel = .sending ∨ ∀ st, (s.order st).state.offers = false) →
      exec .outboundMessageSent s = .next { s with sent := [.reply b], link := { s.link with outbound := rest } })
    ∧ (∀ e b f c tail, (e = Outbound.busy b ∨ e = .reply b) →
        (s.link.outbound = e :: .notice f :: tail ∨ s.link.outbound = e :: .arbiterTest :: .notice f :: tail) →
        s.link.pending[f.number] = some c →
      ∃ t, exec .outboundMessageSent s = .next t ∧ Emission.reply b ∈ t.sent
        ∧ t.link.outbound.head? = some (.taken { word := s.link.word, cause := f, context := c }))
    ∧ (s.link.outbound = .picture :: rest → exec .outboundMessageSent s = .next s.silent)

/-- R182, R183: raising a flag sets it and no other, keeps the context of this setting while no notice is taken, places one
notice when the flag is reported and none for it waits, and composes it at once when the transmitter is idle. Rests also on
the model's own choices or readings, log entry 13. -/
def Obligations.RaisingAFlagPlacesItsNotice : Prop :=
  ∀ (s : State) (f : AlertFlag) (x : Names), s.link.headTaken →
    let context : AlertContext := { time := s.link.clock, station := x.station, reel := x.reel, frame := x.frame }
    let word := s.link.word ||| BitVec.twoPow 22 f.number
    let reported := s.link.mask.getLsbD f.number && s.link.enable
    let waits := s.link.outbound.any (·.isNoticeOf f)
    let kept : State := { s with link := { s.link with
      word := word, pending := s.link.pending.set f.number (some context) } }
    (∀ g, (s.raise f x).flag g = (s.flag g || g == f))
    ∧ (reported = false → s.raise f x = kept)
    ∧ (reported = true → waits = true → s.raise f x = kept)
    ∧ (reported = true → waits = false → s.link.outbound ≠ [] →
        s.raise f x = { kept with link := { kept.link with outbound := s.link.outbound ++ [.notice f] } })
    ∧ (reported = true → s.link.outbound = [] → s.raise f x = { s with link := { s.link with
        word := word, pending := s.link.pending.set f.number none
        outbound := [.taken { word := word, cause := f, context := context }] } })

/-- R182: a flag stays set. While no request waits, no command but a frame, CLEAR ALERTS, RESET SUITE and the two of the
power clears one. -/
def Obligations.FlagsStaySet : Prop :=
  ∀ (c : Instr) (s t : State), s.link.queue = [] → c ≠ .powerOn → (∀ b, c ≠ .powerLoss b) → (∀ l, c ≠ .frameReceived l) →
    (∀ n m, c ≠ .clearAlerts n m) → (∀ n, c ≠ .resetSuite n) → exec c s = .next t → FlagsKept s t

/-- R183, R184: SET ALERT MASK and SET ALERT ENABLE replace one setting and answer DONE; afterwards every pending flag that
is reported has its notice and no unreported flag has one waiting. CLEAR ALERTS clears the flags it names with their pending
marks and waiting notices, leaves the others, and answers with the word that results. Rests also on the model's own choices
or readings, log entry 38. -/
def Obligations.AlertSettingsGovernNotices : Prop :=
  ∀ (s : State) (n : RequestNumber), Calm s →
    (∀ m : BitVec 32, ∃ t, exec (.setAlertMask n m) s = .next t ∧ RepliedOnce t (.setAlertMask m) n (.done .empty)
      ∧ t.link.mask = m.setWidth 22 ∧ t.link.enable = s.link.enable ∧ t.link.word = s.link.word
      ∧ (∀ f, t.link.reported f = true → (s.link.pending[f.number]).isSome = true →
          t.link.outbound.any (·.isNoticeOf f) = true)
      ∧ (∀ f, t.link.reported f = false → Outbound.notice f ∉ t.link.outbound)
      ∧ t.link.clock = s.link.clock ∧ t.link.rejection = s.link.rejection ∧ t.retained = s.retained ∧ t.stk = s.stk
      ∧ SameWork s t)
    ∧ (∀ on : Bool, ∃ t, exec (.setAlertEnable n on) s = .next t ∧ RepliedOnce t (.setAlertEnable on) n (.done .empty)
      ∧ t.link.enable = on ∧ t.link.mask = s.link.mask ∧ t.link.word = s.link.word
      ∧ (∀ f, t.link.reported f = true → (s.link.pending[f.number]).isSome = true →
          t.link.outbound.any (·.isNoticeOf f) = true)
      ∧ (∀ f, t.link.reported f = false → Outbound.notice f ∉ t.link.outbound)
      ∧ t.link.clock = s.link.clock ∧ t.link.rejection = s.link.rejection ∧ t.retained = s.retained ∧ t.stk = s.stk
      ∧ SameWork s t)
    ∧ (∀ m : BitVec 32, ∃ t, exec (.clearAlerts n m) s = .next t
      ∧ RepliedOnce t (.clearAlerts m) n (.done (.alertWord t.link.word))
      ∧ (∀ f, t.flag f = (s.flag f && !m.getLsbD f.number))
      ∧ (∀ f : AlertFlag, t.link.pending[f.number] = if m.getLsbD f.number then none else s.link.pending[f.number])
      ∧ (∀ f, m.getLsbD f.number = true → Outbound.notice f ∉ t.link.outbound)
      ∧ t.link.mask = s.link.mask ∧ t.link.enable = s.link.enable ∧ t.link.clock = s.link.clock
      ∧ t.link.rejection = s.link.rejection ∧ t.retained = s.retained ∧ t.stk = s.stk ∧ SameWork s t)

/-- R185: the suite clock counts seconds from 0 to 86399 and goes on at 0; SET CLOCK clamps its value to 86399 and answers
DONE, or DONE-CLAMPED with the value taken. Neither touches anything else. R62: SET STATION takes the filter setting it
names clamped to 1 to 15 and the tenure setting clamped to 1 to 255, in every state, and is answered DONE, or DONE-CLAMPED
with the values taken; a station above 3 is MALFORMED. Rests also on the model's own choices or readings, log entry 27. -/
def Obligations.ClockAndStationSettingsAreClamped : Prop :=
  ((∀ s : State, s.powered = true → Rested s → exec .clockSecondTick s = .next { s.silent with link := { s.link with
      clock := if s.link.clock < 86399 then s.link.clock + 1 else 0 } })
  ∧ ∀ (s : State) (n : RequestNumber) (v : Nat), Calm s →
      exec (.setClock n v) s = .next (({ s.silent with link := { s.link with clock := min v 86399 } } : State).answered
        (.setClock v) n (if v ≤ 86399 then .done .empty else .doneClamped [{ position := 0, value := 86399 }] .empty)))
  ∧ (∀ (s : State) (n : RequestNumber) (filter tenure : Option Nat), Calm s →
    let clamps : List Clamp := (match filter with
        | some v => if 1 ≤ v ∧ v ≤ 15 then [] else [{ position := 1, value := (max 1 (min v 15) : Nat) }]
        | none => [])
      ++ (match tenure with
        | some v => if 1 ≤ v ∧ v ≤ 255 then [] else [{ position := 2, value := (max 1 (min v 255) : Nat) }]
        | none => [])
    (∀ st : StationId, exec (.setStation n st.val filter tenure) s = .next (({ s.silent with
      stations := s.stations.set st { s.station st with
        filterSetting := match filter with
          | some v => max 1 (min v 15)
          | none => (s.station st).filterSetting
        tenure := match tenure with
          | some v => max 1 (min v 255)
          | none => (s.station st).tenure } } : State).answered (.setStation st.val filter tenure) n
      (if clamps = [] then .done .empty else .doneClamped clamps .empty)))
    ∧ (∀ k, 4 ≤ k → exec (.setStation n k filter tenure) s =
        .next (s.silent.answered (.setStation k filter tenure) n (.refused .malformed))))

/-! ### The Reel Registry -/

/-- R3, R4, R15, R16, R29: an enrolment whose checks pass takes the lowest free entry, fills the whole record, identifies an
unidentified can at a staging position, raises ACID READING HIGH when the reading quarantines the reel, and is answered with
the index, clamped where a field was clamped. No other record and no setting changes. Rests also on the model's own choices
or readings, log entry 27. -/
def Obligations.EnrolmentFillsTheLowestFreeEntry : Prop :=
  ∀ (s : State) (n : RequestNumber) (f : EnrollFields) (i : Nat), Free s → NoStart s →
    (∀ j r, s.reel? j = some r → r.tag ≠ f.tag) → i < 512 → s.reel? i = none → (∀ j, j < i → s.reel? j ≠ none) →
    let length := max 1 (min f.length 60000)
    let quarantine := f.reading.any (fun v => decide (s.retained.threshold ≤ min v 30))
    let cls : ReelClass := if f.base = .nitrate then .n else if quarantine then .q
      else if f.base = .acetate then .a else .p
    (f.location = .unknown ∨ (∃ c, f.location = .cell c ∧ c < 640 ∧ s.cellState c = .free ∧ zoneOfCell c = cls)
      ∨ ∃ p x, f.location = .staging p ∧ s.position? p = some x ∧ x.state = .unidentified) →
    let clamps : List Clamp := (if f.length = length then [] else [{ position := 5, value := length }])
      ++ (match f.reading with
        | some v => if v ≤ 30 then [] else [{ position := 7, value := 30 }]
        | none => [])
      ++ (match f.passLimit with
        | some v => if 1 ≤ v ∧ v ≤ 16 then [] else [{ position := 8, value := (max 1 (min v 16) : Nat) }]
        | none => [])
    ∃ t, exec (.enrollReel n f) s = .next t
      ∧ t.reel? i = some
        { tag := f.tag, headMark := none, title := f.title, gauge := f.gauge, base := f.base, emulsion := f.emulsion
          length := length
          segments := [{ first := 0, last := length - 1, kind := .picture, repair := .conceal, grade := .apply,
                         spliceStart := false }]
          keyframes := [], acid := f.reading.map (fun v => min v 30), quarantine := quarantine
          location := f.location, cameFrom := cls.zone
          home := match f.location with
            | .cell c => some c
            | _ => none
          custody := .none, hold := false
          passLimit := match f.passLimit with
            | some v => max 1 (min v 16)
            | none => 12
          history := [], grade := none, peak := none, order := none }
      ∧ (∀ j, j ≠ i → t.reel? j = s.reel? j)
      ∧ t.retained.dwell = s.retained.dwell ∧ t.retained.threshold = s.retained.threshold
      ∧ (∀ p x, s.position? p = some x → ∃ y, t.position? p = some y ∧ y.dwell = x.dwell
          ∧ y.state = if f.location = .staging p then StagingState.occupied else x.state)
      ∧ (quarantine = true → t.flag .acidReadingHigh = true)
      ∧ t.stk.lift = s.stk.lift ∧ t.stk.carriage = s.stk.carriage ∧ SameWork s t ∧ SameSettings s t ∧ t.sent = []
      ∧ RepliedOnce t (.enrollReel f) n
          (if clamps = [] then .done (.reelIndex i) else .doneClamped clamps (.reelIndex i))

/-- R5, R16, R19: an amendment writes the fields it names, clamping the pass limit to 1 to 16 and the reading to 0 to 30; a
reading at or above the threshold sets the quarantine flag, with ACID READING HIGH when it was clear; and a class change
releases a home cell outside the new zone. A change of emulsion or pass limit is refused while a work order names the reel,
and a class change while the reel is in a cell or on the carriage. Rests also on the model's own choices or readings, log
entries 27 and 31. -/
def Obligations.AmendmentWritesTheNamedFields : Prop :=
  ∀ (s : State) (n : RequestNumber) (i : Nat) (r : Reel) (f : AmendFields), Calm s → s.reel? i = some r →
    let quarantine := r.quarantine || f.reading.any (fun v => decide (s.retained.threshold ≤ min v 30))
    let base := f.base.getD r.base
    let cls := classOf base quarantine
    let limit := match f.passLimit with
      | some v => max 1 (min v 16)
      | none => r.passLimit
    let amended : Reel := { r with
      title := f.title.getD r.title, base := base, emulsion := f.emulsion.getD r.emulsion, passLimit := limit
      acid := match f.reading with
        | some v => some (min v 30)
        | none => r.acid
      quarantine := quarantine
      home := if cls = r.cls then r.home else r.home.filter (fun c => zoneOfCell c == cls) }
    let clamps : List Clamp := (match f.passLimit with
        | some v => if 1 ≤ v ∧ v ≤ 16 then [] else [{ position := 4, value := (max 1 (min v 16) : Nat) }]
        | none => [])
      ++ (match f.reading with
        | some v => if v ≤ 30 then [] else [{ position := 5, value := 30 }]
        | none => [])
    let body : ReplyBody := if clamps = [] then .done .empty else .doneClamped clamps .empty
    let blocked := (f.emulsion.isSome = true ∨ f.passLimit.isSome = true) ∧ r.order.isSome = true
    let pinned := cls ≠ r.cls ∧ ((∃ c, r.location = .cell c) ∨ r.location = .carriage)
    (blocked → exec (.amendReel n i f) s = .next (s.silent.answered (.amendReel i f) n (.refused .wrongState)))
    ∧ (¬ blocked → pinned →
        exec (.amendReel n i f) s = .next (s.silent.answered (.amendReel i f) n (.refused .location)))
    ∧ (¬ blocked → ¬ pinned → quarantine = r.quarantine →
        exec (.amendReel n i f) s = .next ((s.silent.setReel i (some amended)).answered (.amendReel i f) n body))
    ∧ (¬ blocked → ¬ pinned → quarantine ≠ r.quarantine → exec (.amendReel n i f) s = .next
        (((s.silent.setReel i (some amended)).raise .acidReadingHigh { reel := some i }).answered (.amendReel i f) n body))

/-- R6: LOCATE REEL places a reel whose location is UNKNOWN in a cell of its zone that is free or its own, which becomes
its home cell, or at a staging position whose can is unidentified, which becomes OCCUPIED while its dwell runs on and
whose reel came from its class's zone. A reel that is elsewhere is refused. R7: RETIRE REEL frees the entry of a reel
in a cell or UNKNOWN that no work order and no record of the lift queue names, and is answered with its index;
otherwise it is refused and changes nothing. -/
def Obligations.LocatingAndRetiringAReel : Prop :=
  (∀ (s : State) (n : RequestNumber) (i : Nat) (r : Reel), s.reel? i = some r →
    (∀ c, Calm s → r.location = .unknown → c < 640 → zoneOfCell c = r.cls → (s.cellState c = .free ∨ r.home = some c) →
      exec (.locateReel n i (.cell c)) s = .next ((s.silent.setReel i (some
        { r with location := .cell c, home := some c, custody := .none })).answered (.locateReel i (.cell c)) n
          (.done .empty)))
    ∧ (∀ p x, Free s → NoStart s → r.location = .unknown → s.position? p = some x → x.state = .unidentified →
      ∃ t, exec (.locateReel n i (.staging p)) s = .next t
        ∧ t.reel? i = some { r with location := .staging p, cameFrom := r.cls.zone, custody := .none }
        ∧ (∀ j, j ≠ i → t.reel? j = s.reel? j)
        ∧ (∃ y, t.position? p = some y ∧ y.state = .occupied ∧ y.dwell = x.dwell)
        ∧ (∀ q y, q ≠ p → s.position? q = some y → ∃ z, t.position? q = some z ∧ z.state = y.state ∧ z.dwell = y.dwell)
        ∧ t.stk.lift = s.stk.lift ∧ t.stk.carriage = s.stk.carriage ∧ SameWork s t ∧ SameSettings s t ∧ t.sent = []
        ∧ RepliedOnce t (.locateReel i (.staging p)) n (.done .empty))
    ∧ (∀ c, Calm s → c < 640 → r.location ≠ .unknown → exec (.locateReel n i (.cell c)) s =
        .next (s.silent.answered (.locateReel i (.cell c)) n (.refused .wrongState))))
  ∧ (∀ (s : State) (n : RequestNumber) (i : Nat) (r : Reel), Calm s → s.reel? i = some r →
    let named := ∃ m ∈ s.stk.queue, m.reel = some i
    let shelved := (∃ c, r.location = .cell c) ∨ r.location = .unknown
    (r.order = none → ¬ named → shelved →
      exec (.retireReel n i) s = .next ((s.silent.setReel i none).answered (.retireReel i) n (.done (.reelIndex i))))
    ∧ ((r.order ≠ none ∨ named) →
      exec (.retireReel n i) s = .next (s.silent.answered (.retireReel i) n (.refused .wrongState)))
    ∧ (r.order = none → ¬ named → ¬ shelved →
      exec (.retireReel n i) s = .next (s.silent.answered (.retireReel i) n (.refused .location))))
  ∧ ∀ (s : State) (n : RequestNumber) (i : Nat), Calm s → s.reel? i = none →
    exec (.retireReel n i) s = .next (s.silent.answered (.retireReel i) n (.refused .notFound))

/-- R10 to R12: SET SEGMENTS replaces the segment map of a reel no work order names by a list of 1 to 32 segments that cover
the reel, and refuses any other list; SET SEGMENT MODE changes only the modes named, and only of the segment that contains
the frame. Both are refused NOT FOUND for an index that names no reel. Rests also on the model's own choices or readings,
log entry 30. -/
def Obligations.SegmentRequestsWriteTheMap : Prop :=
  (∀ (s : State) (n : RequestNumber) (i : Nat), Calm s →
    s.reel? i = none →
    (∀ map : List Segment, map.length ≤ 32 →
      exec (.setSegments n i map) s = .next (s.silent.answered (.setSegments i map) n (.refused .notFound)))
    ∧ ∀ (f : Nat) (repair : Option RepairMode) (grade : Option GradeMode), exec (.setSegmentMode n i f repair grade) s =
      .next (s.silent.answered (.setSegmentMode i f repair grade) n (.refused .notFound)))
  ∧ ∀ (s : State) (n : RequestNumber) (i : Nat) (r : Reel), Calm s → s.reel? i = some r →
    (∀ map : List Segment, r.order = none → 1 ≤ map.length → map.length ≤ 32 → (map.head?.map (·.first)) = some 0 →
        (map.getLast?.map (·.last)) = some (r.length - 1) → (∀ g ∈ map, g.first ≤ g.last) →
        map.IsChain (fun g h => h.first = g.last + 1) →
      exec (.setSegments n i map) s = .next ((s.silent.setReel i (some { r with segments := map })).answered
        (.setSegments i map) n (.done .empty)))
    ∧ (∀ map : List Segment, map.length ≤ 32 → r.order ≠ none → exec (.setSegments n i map) s =
        .next (s.silent.answered (.setSegments i map) n (.refused .wrongState)))
    ∧ (∀ map : List Segment, r.order = none →
        ¬ (map.length ≤ 32 ∧ (map.head?.map (·.first)) = some 0 ∧ (map.getLast?.map (·.last)) = some (r.length - 1)
          ∧ (∀ g ∈ map, g.first ≤ g.last) ∧ map.IsChain (fun g h => h.first = g.last + 1)) →
      exec (.setSegments n i map) s = .next (s.silent.answered (.setSegments i map) n (.refused .malformed)))
    ∧ (∀ (f : Nat) (repair : Option RepairMode) (grade : Option GradeMode), f < r.length →
      exec (.setSegmentMode n i f repair grade) s = .next ((s.silent.setReel i (some { r with
        segments := r.segments.map (fun g => if g.first ≤ f ∧ f ≤ g.last then
          { g with repair := repair.getD g.repair, grade := grade.getD g.grade } else g) })).answered
            (.setSegmentMode i f repair grade) n (.done .empty)))
    ∧ (∀ (f : Nat) (repair : Option RepairMode) (grade : Option GradeMode), r.length ≤ f →
      exec (.setSegmentMode n i f repair grade) s =
        .next (s.silent.answered (.setSegmentMode i f repair grade) n (.refused .malformed)))

/-- R17: the quarantine threshold takes the value asked for, clamped to 5 to 30 with the reply DONE-CLAMPED, and no record,
so no quarantine flag, changes. It is 15 by default. The threshold in force decides whether RELEASE QUARANTINE finds the
reel still acid, and whether a reading sets the quarantine flag. -/
def Obligations.QuarantineThresholdIsClamped : Prop :=
  (∀ (s : State) (n : RequestNumber) (v : Nat), Calm s → 5 ≤ v → v ≤ 30 →
    exec (.setQuarantineThreshold n v) s = .next (({ s.silent with retained :=
      { s.retained with threshold := v, checkAgrees := true } } : State).answered (.setQuarantineThreshold v) n
        (.done .empty)))
  ∧ (∀ (s : State) (n : RequestNumber) (v : Nat), Calm s → (v < 5 ∨ 30 < v) → ∃ field,
    exec (.setQuarantineThreshold n v) s = .next (({ s.silent with retained :=
      { s.retained with threshold := max 5 (min v 30), checkAgrees := true } } : State).answered
        (.setQuarantineThreshold v) n
        (.doneClamped [{ position := field, value := (max 5 (min v 30) : Nat) }] .empty)))
  ∧ State.reset.retained.threshold = 15
  ∧ (∀ (s : State) (n : RequestNumber) (i : Nat) (r : Reel) (a : Nat), Calm s → s.reel? i = some r → r.acid = some a →
    (r.quarantine = true → s.retained.threshold ≤ a →
      exec (.releaseQuarantine n i) s = .next (s.silent.answered (.releaseQuarantine i) n (.refused .stillAcid)))
    ∧ (r.quarantine = true → a < s.retained.threshold → r.location = .unknown → ∃ t r',
      exec (.releaseQuarantine n i) s = .next t ∧ t.reel? i = some r' ∧ r'.quarantine = false))
  ∧ ∀ (s : State) (st : StationId) (i : Nat) (r : Reel) (v : Nat), s.powered = true → Rested s →
    (s.station st).state = .loaded → s.reelAt (.chamber st.val) = some i → s.reel? i = some r → r.quarantine = false →
    v ≤ 30 →
    ∃ t r', exec (.acidReading st v) s = .next t ∧ t.reel? i = some r'
      ∧ (r'.quarantine = true ↔ s.retained.threshold ≤ v)

/-- R18, R19: RELEASE QUARANTINE clears the flag of a reel whose latest reading is below the threshold, releasing a home cell
outside the new zone; it is refused STILL-ACID or LOCATION, and changes nothing when the flag is already clear. R21: RELEASE
HOLD clears the hold and leaves the custody state. -/
def Obligations.ReleasingQuarantineAndHold : Prop :=
  ∀ (s : State) (n : RequestNumber) (i : Nat), Calm s →
    (s.reel? i = none →
      exec (.releaseQuarantine n i) s = .next (s.silent.answered (.releaseQuarantine i) n (.refused .notFound))
      ∧ exec (.releaseHold n i) s = .next (s.silent.answered (.releaseHold i) n (.refused .notFound)))
    ∧ ∀ r, s.reel? i = some r →
      let acid := ∃ v, r.acid = some v ∧ s.retained.threshold ≤ v
      let pinned := r.base ≠ .nitrate ∧ ((∃ c, r.location = .cell c) ∨ r.location = .carriage)
      let cls := classOf r.base false
      exec (.releaseHold n i) s = .next ((s.silent.setReel i (some { r with hold := false })).answered (.releaseHold i) n
        (.done .empty))
      ∧ (r.quarantine = false →
        exec (.releaseQuarantine n i) s = .next (s.silent.answered (.releaseQuarantine i) n (.done .empty)))
      ∧ (r.quarantine = true → acid →
        exec (.releaseQuarantine n i) s = .next (s.silent.answered (.releaseQuarantine i) n (.refused .stillAcid)))
      ∧ (r.quarantine = true → ¬ acid → pinned →
        exec (.releaseQuarantine n i) s = .next (s.silent.answered (.releaseQuarantine i) n (.refused .location)))
      ∧ (r.quarantine = true → ¬ acid → ¬ pinned →
        exec (.releaseQuarantine n i) s = .next ((s.silent.setReel i (some { r with
          quarantine := false
          home := if cls = r.cls then r.home else r.home.filter (fun c => zoneOfCell c == cls) })).answered
            (.releaseQuarantine i) n (.done .empty)))

/-- R8, R9: the five queries of one reel and LIST REELS answer from the records as they stand and change nothing. -/
def Obligations.RegistryQueriesAnswerFromTheRecords : Prop :=
  ∀ (s : State) (n : RequestNumber), Calm s →
    (∀ i r, s.reel? i = some r →
      exec (.queryReel n i) s = .next (s.silent.answered (.queryReel i) n (.done (.reelRecord
        { tag := r.tag, headMark := r.headMark, title := r.title, gauge := r.gauge, base := r.base
          emulsion := r.emulsion, length := r.length, segments := r.segments.length, keyframes := r.keyframes.length
          acid := r.acid, quarantine := r.quarantine, cls := classOf r.base r.quarantine, hold := r.hold
          location := r.location, cameFrom := r.cameFrom, home := r.home, custody := r.custody
          passLimit := r.passLimit, grade := r.grade, peak := r.peak, order := r.order, passes := r.history.length
          splices := r.knownSplices })))
      ∧ exec (.querySegments n i) s = .next (s.silent.answered (.querySegments i) n (.done (.segmentList r.segments)))
      ∧ exec (.queryPassHistory n i) s =
          .next (s.silent.answered (.queryPassHistory i) n (.done (.passList r.history))))
    ∧ (∀ i, s.reel? i = none →
      exec (.queryReel n i) s = .next (s.silent.answered (.queryReel i) n (.refused .notFound))
      ∧ exec (.querySegments n i) s = .next (s.silent.answered (.querySegments i) n (.refused .notFound))
      ∧ exec (.queryPassHistory n i) s = .next (s.silent.answered (.queryPassHistory i) n (.refused .notFound)))
    ∧ (∀ tag i r, s.reel? i = some r → r.tag = tag → (∀ j r', j < i → s.reel? j = some r' → r'.tag ≠ tag) →
      exec (.findReel n tag) s = .next (s.silent.answered (.findReel tag) n (.done (.reelIndex i))))
    ∧ (∀ tag, (∀ i r, s.reel? i = some r → r.tag ≠ tag) →
      exec (.findReel n tag) s = .next (s.silent.answered (.findReel tag) n (.refused .notFound)))
    ∧ exec (.listReels n) s = .next (s.silent.answered .listReels n (.done (.reelList
        ((List.range 512).filterMap (fun i => (s.reel? i).map (fun r =>
          { index := i, tag := r.tag, cls := classOf r.base r.quarantine, location := r.location }))))))

/-! ### The Cold Stacks and the lift -/

/-- R36 to R41: while the lift is not IDLE, an accepted FETCH, MOUNT, UNMOUNT or RESHELVE joins the tail of the lift queue
and is answered ACCEPTED with the state of its record; a MOUNT whose reel has not warmed up waits in DWELL-WAIT when it
asked to wait. R42: CANCEL MOVE takes a record that has not started out of the queue, named by its reel or, for an UNMOUNT,
by its station; the lift's own move is refused WRONG STATE and an absent record NOT FOUND. Rests also on the model's own
choices or readings, log entry 24. -/
def Obligations.MoveRequestsJoinAndLeaveTheLiftQueue : Prop :=
  (∀ (s : State) (n : RequestNumber), Calm s → s.stk.lift ≠ .idle → s.stk.queue.length < 16 →
    let joins : Request → MoveRecord → State := fun r m =>
      ({ s.silent with stk := { s.stk with queue := s.stk.queue ++ [m] } } : State).answered r n
        (.accepted (.moveState m.state))
    (∀ i r c, s.reel? i = some r → (∀ m ∈ s.stk.queue, m.reel ≠ some i) → r.location = .cell c →
      exec (.fetch n i) s = .next (joins (.fetch i)
        { kind := .fetch, reel := some i, station := none, source := .cell c, destination := none, wait := false
          state := .queued, number := none, target := none, cause := none }))
    ∧ (∀ i r p x wait (st : StationId), s.reel? i = some r →
        (∀ m ∈ s.stk.queue, m.reel ≠ some i ∧ m.station ≠ some st) → r.location = .staging p →
        s.position? p = some x → (s.station st).state = .empty → r.hold = false →
        (s.retained.dwell.of r.cameFrom ≤ x.dwell ∨ wait = true) →
      exec (.mount n i st.val wait) s = .next (joins (.mount i st.val wait)
        { kind := .mount, reel := some i, station := some st, source := .staging p, destination := none, wait := wait
          state := if s.retained.dwell.of r.cameFrom ≤ x.dwell then .queued else .dwellWait
          number := none, target := none, cause := none }))
    ∧ (∀ st : StationId, (∀ m ∈ s.stk.queue, m.station ≠ some st) → (s.station st).state = .loaded →
        (s.order st).state = .closed →
      exec (.unmount n st.val) s = .next (joins (.unmount st.val)
        { kind := .unmount, reel := s.reelAt (.chamber st.val), station := some st, source := .chamber st.val
          destination := none, wait := false, state := .queued, number := none, target := none, cause := none }))
    ∧ (∀ i r p, s.reel? i = some r → (∀ m ∈ s.stk.queue, m.reel ≠ some i) → r.location = .staging p → r.hold = false →
      exec (.reshelve n i) s = .next (joins (.reshelve i)
        { kind := .reshelve, reel := some i, station := none, source := .staging p, destination := none, wait := false
          state := .queued, number := none, target := none, cause := none })))
  ∧ (∀ (s : State) (n : RequestNumber) (x : MoveName) (before after : List MoveRecord) (m : MoveRecord), Calm s →
    let names : MoveRecord → Prop := fun m => match x with
      | .reel i => m.reel = some i
      | .station k => m.kind = .unmount ∧ ∃ st : StationId, m.station = some st ∧ st.val = k
    (s.stk.queue = before ++ m :: after → (∀ y ∈ before ++ after, ¬ names y) → names m →
        m.state = .queued ∨ m.state = .dwellWait →
      exec (.cancelMove n x) s = .next (({ s.silent with stk := { s.stk with queue := before ++ after } } : State).answered
        (.cancelMove x) n (.done .empty)))
    ∧ (s.stk.queue = before ++ m :: after → (∀ y ∈ before, ¬ names y) → names m →
        m.state = .moving ∨ m.state = .halted →
      exec (.cancelMove n x) s = .next (s.silent.answered (.cancelMove x) n (.refused .wrongState)))
    ∧ ((∀ y ∈ s.stk.queue, ¬ names y) →
      exec (.cancelMove n x) s = .next (s.silent.answered (.cancelMove x) n (.refused .notFound))))

/-- R43 to R46: with the lift IDLE and its queue empty, an accepted FETCH, MOUNT, UNMOUNT or RESHELVE starts its move at
once: the lift takes the next move number, is MOVING and is sent CARRY from the source to the destination, and the move
timer starts at 120 seconds. FETCH and UNMOUNT go to the lowest EMPTY staging position, MOUNT to the chamber, RESHELVE to
the home cell or, without one, to the lowest FREE cell of the reel's zone, which becomes its home cell. A staging source or
destination is RESERVED with dwell count 0, a chamber takes its reservation, and the station of an UNMOUNT is EMPTY without
reads; the reel's location is the carriage, which carries it, with custody NONE, or the carriage carries an unidentified
can. R45: without an EMPTY position a FETCH stays QUEUED; a RESHELVE that finds no FREE cell leaves the queue, and ZONE FULL
is raised, naming the reel. R44: with several records waiting, the oldest that can start does, and those that cannot keep
their places and do not stop a younger one: when an accepted request joins them at the IDLE lift, when LIFT RELEASE (R52) or
the arrival of a FETCH or a RESHELVE (R47) makes the lift IDLE, and when a DWELL MINUTE TICK makes a MOUNT QUEUED (R41).
Where none can start the lift stays IDLE and nothing moves. Rests also on the model's own choices or readings, log entries
16 and 32. -/
def Obligations.MovesStartAtAnIdleLift : Prop :=
  (∀ (s : State) (n : RequestNumber), Calm s → s.stk.lift = .idle →
    let started : MoveRecord → State → Location → Carriage → State := fun m t dest load => { t with
      stk := { t.stk with
        queue := [{ m with
          destination := some dest, state := .moving, number := some s.stk.counter, target := some .destination }]
        lift := .moving, carriage := load, cause := none
        counter := if s.stk.counter < 255 then s.stk.counter + 1 else 1
        timer := some 120 }
      sent := [.lift (.carry s.stk.counter m.source dest)] }
    let accepted : Request → State → State := fun q t => t.answered q n (.accepted (.moveState .queued))
    let held : State → Nat → Staging → State := fun t p x => { t with stk := { t.stk with
      positions := t.stk.positions.setIfInBounds p { x with state := .reserved, dwell := 0 } } }
    let carried : State → Nat → Reel → State := fun t i r =>
      t.setReel i (some { r with location := .carriage, custody := .none })
    let lowest : Nat → Staging → Prop := fun p x => s.position? p = some x ∧ x.state = .empty
      ∧ ∀ q y, q < p → s.position? q = some y → y.state ≠ .empty
    let record : MoveKind → Option Nat → Option StationId → Location → Bool → MoveRecord := fun kind reel st source wait =>
      { kind := kind, reel := reel, station := st, source := source, destination := none, wait := wait
        state := .queued, number := none, target := none, cause := none }
    (∀ i r c, s.reel? i = some r → r.location = .cell c →
      let m := record .fetch (some i) none (.cell c) false
      (∀ p x, lowest p x → exec (.fetch n i) s =
        .next (accepted (.fetch i) (started m (held (carried s i r) p x) (.staging p) (.reel i))))
      ∧ ((∀ p x, s.position? p = some x → x.state ≠ .empty) → exec (.fetch n i) s =
        .next (accepted (.fetch i) { s.silent with stk := { s.stk with queue := [m] } })))
    ∧ (∀ i r p x wait (st : StationId), s.reel? i = some r → r.location = .staging p → s.position? p = some x →
        (s.station st).state = .empty → s.reelAt (.chamber st.val) = none → r.hold = false →
        s.retained.dwell.of r.cameFrom ≤ x.dwell →
      let told : State := { s with
        stations := s.stations.set st { s.station st with reservation := Reservation.incoming } }
      exec (.mount n i st.val wait) s = .next (accepted (.mount i st.val wait)
        (started (record .mount (some i) (some st) (.staging p) wait) (held (carried told i r) p x) (.chamber st.val)
          (.reel i))))
    ∧ (∀ (st : StationId) p x, (s.station st).state = .loaded → (s.order st).state = .closed → lowest p x →
      let told : State := { s with stations := s.stations.set st { s.station st with
        reservation := .outgoing, state := .empty, threaded := false, tagRead := none, markRead := none } }
      let m : Option Nat → MoveRecord := fun reel => record .unmount reel (some st) (.chamber st.val) false
      (∀ i r, s.reelAt (.chamber st.val) = some i → s.reel? i = some r → exec (.unmount n st.val) s =
        .next (accepted (.unmount st.val) (started (m (some i)) (held (carried told i r) p x) (.staging p) (.reel i))))
      ∧ (s.reelAt (.chamber st.val) = none → exec (.unmount n st.val) s =
        .next (accepted (.unmount st.val) (started (m none) (held told p x) (.staging p) .unidentified))))
    ∧ (∀ i r p x, s.reel? i = some r → r.location = .staging p → s.position? p = some x → r.hold = false →
      let m := record .reshelve (some i) none (.staging p) false
      let free : Nat → Prop := fun c => c < 640 ∧ zoneOfCell c = r.cls ∧ s.cellState c = .free
      (∀ c, (r.home = some c ∨ (r.home = none ∧ free c ∧ ∀ c', c' < c → ¬ free c')) → exec (.reshelve n i) s =
        .next (accepted (.reshelve i) (started m (held (carried s i { r with home := some c }) p x) (.cell c) (.reel i))))
      ∧ (r.home = none → (∀ c, ¬ free c) → exec (.reshelve n i) s =
        .next (accepted (.reshelve i) (s.silent.raise .zoneFull { reel := some i })))))
  ∧ ∀ (s v : State) (n : RequestNumber) (c : Instr) (answer : Option (Request × ReplyBody)), DwellFollowed v →
    ((c = .liftRelease n ∧ answer = some (.liftRelease, .done .empty) ∧ Free s ∧ s.stk.lift = .direct
        ∧ s.stk.carriage = .empty ∧ s.stk.forwarded = none ∧ v = { s with stk := { s.stk with lift := .idle } })
      ∨ (∃ q y, c = q.command n ∧ answer = some (q, .accepted (.moveState y.state)) ∧ Free s ∧ s.stk.lift = .idle
        ∧ s.stk.queue.length < 16 ∧ v = { s with stk := { s.stk with queue := s.stk.queue ++ [y] } }
        ∧ y.destination = none ∧ y.number = none ∧ y.target = none ∧ y.cause = none
        ∧ ((∃ i r k, q = .fetch i ∧ s.reel? i = some r ∧ r.location = .cell k ∧ (∀ z ∈ s.stk.queue, z.reel ≠ some i)
            ∧ y.kind = .fetch ∧ y.reel = some i ∧ y.station = none ∧ y.source = .cell k ∧ y.wait = false
            ∧ y.state = .queued)
          ∨ (∃ i r p x, ∃ st : StationId, q = .mount i st.val y.wait ∧ s.reel? i = some r ∧ r.location = .staging p
            ∧ s.position? p = some x ∧ (∀ z ∈ s.stk.queue, z.reel ≠ some i ∧ z.station ≠ some st)
            ∧ (s.station st).state = .empty ∧ r.hold = false
            ∧ (s.retained.dwell.of r.cameFrom ≤ x.dwell ∨ y.wait = true)
            ∧ y.kind = .mount ∧ y.reel = some i ∧ y.station = some st ∧ y.source = .staging p
            ∧ y.state = if s.retained.dwell.of r.cameFrom ≤ x.dwell then .queued else .dwellWait)
          ∨ (∃ st : StationId, q = .unmount st.val ∧ (∀ z ∈ s.stk.queue, z.station ≠ some st)
            ∧ (s.station st).state = .loaded ∧ (s.order st).state = .closed ∧ y.kind = .unmount
            ∧ y.reel = s.reelAt (.chamber st.val) ∧ y.station = some st ∧ y.source = .chamber st.val ∧ y.wait = false
            ∧ y.state = .queued)
          ∨ (∃ i r p, q = .reshelve i ∧ s.reel? i = some r ∧ r.location = .staging p ∧ r.hold = false
            ∧ (∀ z ∈ s.stk.queue, z.reel ≠ some i) ∧ y.kind = .reshelve ∧ y.reel = some i ∧ y.station = none
            ∧ y.source = .staging p ∧ y.wait = false ∧ y.state = .queued)))
      ∨ (∃ p x, c = .dwellMinuteTick p ∧ answer = none ∧ s.powered = true ∧ s.stk.lift = .idle ∧ s.position? p = some x
        ∧ (x.state = .occupied ∨ x.state = .unidentified) ∧
        let minutes := min 65535 (x.dwell + 1)
        let warm : Option Nat → Bool := fun i => (i.bind s.reel?).any (fun r => s.retained.dwell.of r.cameFrom ≤ minutes)
        v = { s with stk := { s.stk with
          positions := s.stk.positions.setIfInBounds p { x with
            dwell := minutes
            announced := x.announced || (decide (x.state = .occupied) && warm (s.reelAt (.staging p))) }
          queue := s.stk.queue.map (fun z =>
            if z.kind = .mount ∧ z.state = .dwellWait ∧ z.source = .staging p ∧ warm z.reel = true
            then { z with state := .queued } else z) } })
      ∨ (∃ k y i r p x a, ∃ earlier later : List MoveRecord, c = .arrived k ∧ answer = none ∧ s.powered = true
        ∧ s.stk.queue = earlier ++ y :: later ∧ (y.state = .moving ∨ y.state = .halted) ∧ y.number = some k
        ∧ (∀ z ∈ earlier ++ later, z.state ≠ .moving ∧ z.state ≠ .halted) ∧ y.target = some .destination
        ∧ y.reel = some i ∧ s.reel? i = some r ∧ s.position? p = some x ∧
        let after : Reel → Staging → State := fun r' x' => { s.setReel i (some r') with
          stk := { s.stk with
            positions := s.stk.positions.setIfInBounds p x', queue := earlier ++ later, carriage := .empty, timer := none
            lift := .idle } }
        ((y.kind = .reshelve ∧ y.destination = some (.cell a) ∧ y.source = .staging p
            ∧ v = after { r with location := .cell a, custody := .none } { x with state := .empty, dwell := 0 })
          ∨ (y.kind = .fetch ∧ y.destination = some (.staging p) ∧ y.source = .cell a
            ∧ (∀ j r', j ≠ i → s.reel? j = some r' → r'.location ≠ .staging p)
            ∧ v = after { r with location := .staging p, custody := .none, cameFrom := (zoneOfCell a).zone }
              { state := .occupied, dwell := 0, announced := s.retained.dwell.of (zoneOfCell a).zone == 0 })))) →
    let holds : MoveRecord → Prop := fun z => ∃ i r, z.reel = some i ∧ v.reel? i = some r ∧ r.location = z.source
    let lowest : Location → Prop := fun d => ∃ p x, d = .staging p ∧ v.position? p = some x ∧ x.state = .empty
      ∧ ∀ q y, q < p → v.position? q = some y → y.state ≠ .empty
    let can : MoveRecord → Location → Prop := fun z d => z.state = .queued ∧ match z.kind with
      | .fetch => holds z ∧ lowest d
      | .mount => holds z ∧ ∃ st : StationId, z.station = some st ∧ d = .chamber st.val ∧ (v.station st).state = .empty
          ∧ v.reelAt (.chamber st.val) = none
      | .unmount => lowest d ∧ ∃ st : StationId, z.station = some st ∧ (v.station st).state = .loaded
          ∧ (v.order st).state = .closed
      | .reshelve => holds z ∧ ∃ i r k, z.reel = some i ∧ v.reel? i = some r ∧ d = .cell k ∧
          let free : Nat → Prop := fun k => k < 640 ∧ zoneOfCell k = r.cls ∧ v.cellState k = .free
          (r.home = some k ∨ (r.home = none ∧ free k ∧ ∀ k', k' < k → ¬ free k'))
    let waits : MoveRecord → Prop := fun z =>
      (∀ d, ¬ can z d) ∧ (z.kind = .reshelve → z.state = .queued → ¬ holds z)
    let same : State → Prop := fun t => (∀ q b, answer = some (q, b) → RepliedOnce t q n b) ∧ t.orders = s.orders
      ∧ t.lanes = s.lanes ∧ t.store = s.store ∧ t.engine = s.engine ∧ t.snapshot = s.snapshot ∧ t.delivery = s.delivery
      ∧ t.retained.dwell = s.retained.dwell ∧ t.retained.threshold = s.retained.threshold
      ∧ t.stk.forwarded = s.stk.forwarded ∧ t.stk.reported = s.stk.reported
    (∀ (before after : List MoveRecord) (m : MoveRecord) (d : Location), v.stk.queue = before ++ m :: after →
        (∀ z ∈ before, waits z) → can m d →
        (∀ z ∈ before ++ after, z.kind = .mount → z.source ≠ m.source ∧ z.source ≠ d) →
      ∃ t, exec c s = .next t ∧ same t
      ∧ t.stk.queue = before ++ { m with
          destination := some d, state := .moving, number := some v.stk.counter, target := some .destination } :: after
      ∧ t.stk.lift = .moving ∧ t.stk.cause = none ∧ t.stk.timer = some 120
      ∧ t.stk.counter = (if v.stk.counter < 255 then v.stk.counter + 1 else 1)
      ∧ t.stk.carriage = (match m.reel with
          | some i => Carriage.reel i
          | none => .unidentified)
      ∧ t.sent = [.lift (.carry v.stk.counter m.source d)]
      ∧ (∀ p x, v.position? p = some x → t.position? p = some
          (if m.source = .staging p ∨ d = .staging p then { x with state := .reserved, dwell := 0 } else x))
      ∧ (∀ i, m.reel ≠ some i → t.reel? i = v.reel? i)
      ∧ (∀ i r, m.reel = some i → v.reel? i = some r → t.reel? i = some { r with
          location := .carriage, custody := .none
          home := match m.kind, d with
            | .reshelve, .cell k => some k
            | _, _ => r.home })
      ∧ (∀ st, m.station ≠ some st → t.station st = v.station st)
      ∧ (∀ st, m.station = some st →
          (m.kind = .mount → t.station st = { v.station st with reservation := .incoming })
          ∧ (m.kind = .unmount → t.station st = { v.station st with
              reservation := .outgoing, state := .empty, threaded := false, tagRead := none, markRead := none })))
    ∧ ((∀ z ∈ v.stk.queue, waits z) → ∃ t, exec c s = .next t ∧ same t ∧ t.stk.queue = v.stk.queue ∧ t.stk.lift = .idle
      ∧ t.stk.positions = v.stk.positions ∧ t.stk.carriage = v.stk.carriage ∧ t.stk.counter = v.stk.counter
      ∧ t.stk.timer = v.stk.timer ∧ t.sent = [] ∧ t.stations = v.stations ∧ ∀ i, t.reel? i = v.reel? i)

/-- R33: SET DWELL replaces the setting of one zone, clamped to 0 to 1440; the zone WARM has none and is refused. R32: a
minute at a staging position that holds a can counts its dwell up, resting at 65535; a position that holds none does not
count. R34: the tick at which a reel's count reaches its required dwell sets the announced mark and raises ACCLIMATIZED,
naming the reel, once. R41: the MOUNT records that wait at that position for it become QUEUED. Rests also on the model's own
choices or readings, log entry 27. -/
def Obligations.DwellIsSetAndCounted : Prop :=
  (∀ (s : State) (n : RequestNumber) (v : Nat),
    (Calm s → exec (.setDwell n .warm v) s = .next (s.silent.answered (.setDwell .warm v) n (.refused .malformed)))
    ∧ (Free s → NoStart s → ∀ z : ReelClass, ∃ t, exec (.setDwell n z.zone v) s = .next t
      ∧ t.retained.dwell.of z.zone = min v 1440
      ∧ (∀ y : ReelClass, y ≠ z → t.retained.dwell.of y.zone = s.retained.dwell.of y.zone)
      ∧ (∀ i, t.reel? i = s.reel? i) ∧ t.retained.threshold = s.retained.threshold
      ∧ SameStacks s t ∧ SameWork s t ∧ SameSettings s t ∧ t.sent = []
      ∧ RepliedOnce t (.setDwell z.zone v) n
          (if v ≤ 1440 then .done .empty else .doneClamped [{ position := 1, value := 1440 }] .empty)))
  ∧ (∀ (s : State) (p : Nat) (x : Staging), s.powered = true → s.position? p = some x →
    (NoStart s → (x.state = .occupied ∨ x.state = .unidentified) → ∃ t, exec (.dwellMinuteTick p) s = .next t
      ∧ (∃ y, t.position? p = some y ∧ y.state = x.state ∧ y.dwell = min 65535 (x.dwell + 1))
      ∧ (∀ q y, q ≠ p → s.position? q = some y → ∃ z, t.position? q = some z ∧ z.state = y.state ∧ z.dwell = y.dwell)
      ∧ t.retained = s.retained ∧ t.stk.lift = s.stk.lift ∧ t.stk.carriage = s.stk.carriage ∧ SameWork s t
      ∧ SameSettings s t ∧ t.sent = [])
    ∧ (Rested s → (x.state = .occupied ∨ x.state = .unidentified) →
      let minutes := min 65535 (x.dwell + 1)
      let warm : Option Nat → Bool := fun i => (i.bind s.reel?).any (fun r => s.retained.dwell.of r.cameFrom ≤ minutes)
      let counted : Bool → State := fun mark => { s.silent with stk := { s.stk with
        positions := s.stk.positions.setIfInBounds p { x with dwell := minutes, announced := x.announced || mark }
        queue := s.stk.queue.map (fun m =>
          if m.kind = .mount ∧ m.state = .dwellWait ∧ m.source = .staging p ∧ warm m.reel = true
          then { m with state := .queued } else m) } }
      (∀ i, x.state = .occupied → x.announced = false → s.reelAt (.staging p) = some i → warm (some i) = true →
        exec (.dwellMinuteTick p) s = .next ((counted true).raise .acclimatized { reel := some i }))
      ∧ ((x.state = .unidentified ∨ x.announced = true ∨ warm (s.reelAt (.staging p)) = false) →
        exec (.dwellMinuteTick p) s = .next (counted false)))
    ∧ (Rested s → (x.state = .empty ∨ x.state = .reserved) → exec (.dwellMinuteTick p) s = .next s.silent))

/-- R49, R50, R57: a HALTED move goes on: RESUME LIFT redirects it to its destination and RETURN LIFT to its source, with
REDIRECT sent and the move timer restarted. Without a move RESUME LIFT makes an empty lift IDLE, once CARRIAGE has been
taken, and RETURN LIFT is refused; a lift that is not HALTED is refused both. Rests also on the model's own choices or
readings, log entry 44. -/
def Obligations.HaltedMovesAreRedirected : Prop :=
  ∀ (s : State) (n : RequestNumber), Calm s →
    (∀ (before after : List MoveRecord) (m : MoveRecord) (k : Nat) (d : Location), s.stk.lift = .halted →
        s.stk.queue = before ++ m :: after → m.state = .halted → m.number = some k → m.destination = some d →
        (∀ y ∈ before ++ after, y.state = .queued ∨ y.state = .dwellWait) →
      (s.stk.reported = true → exec (.resumeLift n) s = .next (({ s with
        sent := [.lift (.redirect k d)]
        stk := { s.stk with
          queue := before ++ { m with state := .moving, target := some .destination, cause := none } :: after
          lift := .moving, cause := none, timer := some 120 } } : State).answered .resumeLift n (.done .empty)))
      ∧ exec (.returnLift n) s = .next (({ s with
        sent := [.lift (.redirect k m.source)]
        stk := { s.stk with
          queue := before ++ { m with state := .moving, target := some .source, cause := none } :: after
          lift := .moving, cause := none, timer := some 120 } } : State).answered .returnLift n (.done .empty)))
    ∧ (s.stk.lift = .halted → s.stk.queue = [] → s.stk.reported = true → s.stk.carriage = .empty →
      exec (.resumeLift n) s = .next (({ s.silent with stk := { s.stk with lift := .idle, cause := none } } :
        State).answered .resumeLift n (.done .empty)))
    ∧ (s.stk.lift = .halted → s.stk.queue = [] → s.stk.carriage ≠ .empty →
      exec (.resumeLift n) s = .next (s.silent.answered .resumeLift n (.refused .wrongState)))
    ∧ (s.stk.lift = .halted → s.stk.queue = [] →
      exec (.returnLift n) s = .next (s.silent.answered .returnLift n (.refused .wrongState)))
    ∧ (s.stk.lift ≠ .halted →
      exec (.resumeLift n) s = .next (s.silent.answered .resumeLift n (.refused .wrongState))
      ∧ exec (.returnLift n) s = .next (s.silent.answered .returnLift n (.refused .wrongState)))

/-- R52: LIFT DIRECT is granted to an IDLE lift with an EMPTY carriage, or to one that is HALTED without a move once
CARRIAGE has been taken, and DIRECT GRANTED is raised; LIFT RELEASE makes an empty lift under direct control IDLE when no
forwarded command is in progress. Otherwise both are refused. R53: under direct control, with no forwarded command in
progress, the four LIFT PASS commands are sent to the lift and become the forwarded command when their checks pass: no
chamber, PICK with an EMPTY carriage at a place no record of the queue has its reel at, PLACE with a loaded one at an EMPTY
staging position or a cell that may hold the reel. A chamber, a staging position that is not EMPTY, any cell for an
unidentified can, and for a reel a cell outside its zone, OCCUPIED or home of another reel are refused LOCATION; the other
failing checks and everything outside direct control are refused WRONG STATE. R190, R191: a position of type CARRIAGE or
UNKNOWN does not decode and is refused MALFORMED in every state. Rests also on the model's own choices or readings, log
entry 24. -/
def Obligations.DirectControlPassesCommands : Prop :=
  (∀ (s : State) (n : RequestNumber), Calm s →
    let may := (s.stk.lift = .idle ∧ s.stk.carriage = .empty)
      ∨ (s.stk.lift = .halted ∧ (∀ m ∈ s.stk.queue, m.state ≠ .moving ∧ m.state ≠ .halted) ∧ s.stk.reported = true)
    (may → exec (.liftDirect n) s = .next ((({ s.silent with stk := { s.stk with lift := .direct, cause := none } } :
        State).raise .directGranted {}).answered .liftDirect n (.done .empty)))
    ∧ (¬ may → exec (.liftDirect n) s = .next (s.silent.answered .liftDirect n (.refused .wrongState)))
    ∧ (s.stk.lift = .direct → s.stk.carriage = .empty → s.stk.forwarded = none → s.stk.queue = [] →
      exec (.liftRelease n) s = .next (({ s.silent with stk := { s.stk with lift := .idle, cause := none } } :
        State).answered .liftRelease n (.done .empty)))
    ∧ (s.stk.lift ≠ .direct ∨ s.stk.carriage ≠ .empty ∨ s.stk.forwarded ≠ none →
      exec (.liftRelease n) s = .next (s.silent.answered .liftRelease n (.refused .wrongState))))
  ∧ (∀ (s : State) (n : RequestNumber) (l : Location), Calm s →
    ((∃ c, l = .cell c ∧ c < 640) ∨ ∃ p, l = .staging p ∧ p < 8) →
    let forwards : Request → ForwardedCommand → State := fun r c =>
      ({ s with sent := [.lift (.forwarded c)], stk := { s.stk with forwarded := some c } } : State).answered r n
        (.done .empty)
    let refuses : Request → Reason → State := fun r x => s.silent.answered r n (.refused x)
    (s.stk.lift = .direct → s.stk.forwarded = none →
      exec (.liftPassGoTo n l) s = .next (forwards (.liftPassGoTo l) (.goTo l))
      ∧ exec (.liftPassPark n) s = .next (forwards .liftPassPark .park)
      ∧ (s.stk.carriage = .empty → (∀ i, s.reelAt l = some i → ∀ m ∈ s.stk.queue, m.reel ≠ some i) →
        exec (.liftPassPick n l) s = .next (forwards (.liftPassPick l) (.pick l)))
      ∧ (s.stk.carriage ≠ .empty → exec (.liftPassPick n l) s = .next (refuses (.liftPassPick l) .wrongState))
      ∧ (∀ i m, s.stk.carriage = .empty → s.reelAt l = some i → m ∈ s.stk.queue → m.reel = some i →
        exec (.liftPassPick n l) s = .next (refuses (.liftPassPick l) .wrongState))
      ∧ (s.stk.carriage = .empty → exec (.liftPassPlace n l) s = .next (refuses (.liftPassPlace l) .wrongState))
      ∧ (∀ p x, l = .staging p → s.position? p = some x → s.stk.carriage ≠ .empty →
        exec (.liftPassPlace n l) s = .next (if x.state = .empty then forwards (.liftPassPlace l) (.place l)
          else refuses (.liftPassPlace l) .location))
      ∧ (∀ c, l = .cell c → s.stk.carriage = .unidentified →
        exec (.liftPassPlace n l) s = .next (refuses (.liftPassPlace l) .location))
      ∧ (∀ c i r, l = .cell c → s.stk.carriage = .reel i → s.reel? i = some r →
        let takes := zoneOfCell c = r.cls ∧ s.cellState c ≠ .occupied ∧ ∀ j, s.homeReel c = some j → j = i
        (takes → exec (.liftPassPlace n l) s = .next (forwards (.liftPassPlace l) (.place l)))
        ∧ (¬ takes → exec (.liftPassPlace n l) s = .next (refuses (.liftPassPlace l) .location))))
    ∧ (s.stk.lift ≠ .direct ∨ s.stk.forwarded ≠ none →
      exec (.liftPassGoTo n l) s = .next (refuses (.liftPassGoTo l) .wrongState)
      ∧ exec (.liftPassPick n l) s = .next (refuses (.liftPassPick l) .wrongState)
      ∧ exec (.liftPassPlace n l) s = .next (refuses (.liftPassPlace l) .wrongState)
      ∧ exec (.liftPassPark n) s = .next (refuses .liftPassPark .wrongState)))
  ∧ (∀ (s : State) (n : RequestNumber) (k : StationId), Calm s →
    let l : Location := .chamber k.val
    let reason : Reason := if s.stk.lift = .direct ∧ s.stk.forwarded = none then .location else .wrongState
    exec (.liftPassGoTo n l) s = .next (s.silent.answered (.liftPassGoTo l) n (.refused reason))
    ∧ exec (.liftPassPick n l) s = .next (s.silent.answered (.liftPassPick l) n (.refused reason))
    ∧ exec (.liftPassPlace n l) s = .next (s.silent.answered (.liftPassPlace l) n (.refused reason)))
  ∧ (∀ (s : State) (n : RequestNumber) (l : Location), Calm s → (l = .carriage ∨ l = .unknown) →
    exec (.liftPassGoTo n l) s = .next (s.silent.answered (.liftPassGoTo l) n (.refused .malformed))
    ∧ exec (.liftPassPick n l) s = .next (s.silent.answered (.liftPassPick l) n (.refused .malformed))
    ∧ exec (.liftPassPlace n l) s = .next (s.silent.answered (.liftPassPlace l) n (.refused .malformed)))

/-- R47, R51: an ARRIVED report with the number of the lift's move ends it at its destination: a fetched reel stands at its
staging position, OCCUPIED with a new dwell count, and came from the zone of the cell it left; a returned reel stands at
staging and came from WARM; a reshelved reel stands in its cell and its staging position is EMPTY. The carriage is EMPTY,
the record has left the queue and MOVE DONE is set. R47, R68: an ARRIVED report ends a MOUNT in the chamber: the reel's
location is the chamber with custody UNVERIFIED, which the reads the station holds decide at once (R70): a tag or mark that
differs from the record's makes it MISMATCH with the hold set and CUSTODY MISMATCH raised, the tag alone TAG-OK, tag and
mark VERIFIED with the mark stored; its staging position is EMPTY, the reservation has ended, and an EMPTY station has
entered LOADED; a station in any other state keeps it, but for what R70 has a change of custody do. R50, R51: with the
commanded target SOURCE the move ends where it began: a fetched reel is back in its cell and the reserved staging position
EMPTY; a mounted or reshelved one is back at its staging position with a new dwell count; an unmounted one is back in the
chamber, which it enters as at a MOUNT. R47, R50: the UNMOUNT of an unidentified can ends with its position
OCCUPIED-UNIDENTIFIED, or back in the chamber with the position EMPTY when no reel is recorded there, and no record of a
reel changes. A number no move carries is ignored. Rests also on the model's own choices or readings, log entry 77. -/
def Obligations.ArrivalEndsAMove : Prop :=
  (∀ (s : State) (m : MoveRecord) (k i : Nat) (r : Reel) (d : Location), s.powered = true → s.stk.queue = [m] →
    (m.state = .moving ∨ m.state = .halted) → m.number = some k → m.target = some .destination →
    m.destination = some d → m.reel = some i → s.reel? i = some r → m.kind ≠ .mount →
    ∃ t, exec (.arrived k) s = .next t
      ∧ t.stk.queue = [] ∧ t.stk.lift = .idle ∧ t.stk.cause = none ∧ t.stk.carriage = .empty ∧ t.stk.timer = none
      ∧ t.stk.counter = s.stk.counter ∧ t.flag .moveDone = true
      ∧ (∀ j, j ≠ i → t.reel? j = s.reel? j) ∧ t.lanes = s.lanes ∧ t.orders = s.orders ∧ t.store = s.store
      ∧ t.engine = s.engine ∧ t.delivery = s.delivery ∧ SameSettings s t
      ∧ (∀ p x c, m.kind = .fetch → d = .staging p → m.source = .cell c → s.position? p = some x →
          t.reel? i = some { r with location := d, custody := .none, cameFrom := (zoneOfCell c).zone }
          ∧ (∃ y, t.position? p = some y ∧ y.state = .occupied ∧ y.dwell = 0) ∧ t.stations = s.stations)
      ∧ (∀ p x (st : StationId), m.kind = .unmount → d = .staging p → m.station = some st → s.position? p = some x →
          t.reel? i = some { r with location := d, custody := .none, cameFrom := .warm }
          ∧ (∃ y, t.position? p = some y ∧ y.state = .occupied ∧ y.dwell = 0)
          ∧ (t.station st).reservation = .none)
      ∧ (∀ p x c, m.kind = .reshelve → d = .cell c → m.source = .staging p → s.position? p = some x →
          t.reel? i = some { r with location := d, custody := .none }
          ∧ (∃ y, t.position? p = some y ∧ y.state = .empty ∧ y.dwell = 0) ∧ t.stations = s.stations))
  ∧ (∀ (s : State) (m : MoveRecord) (k i p : Nat) (r : Reel) (st : StationId) (x : Staging), s.powered = true →
    s.stk.queue = [m] → (m.state = .moving ∨ m.state = .halted) → m.number = some k → m.station = some st →
    m.reel = some i → s.reel? i = some r → s.position? p = some x →
    ((m.kind = .mount ∧ m.target = some .destination ∧ m.destination = some (.chamber st.val) ∧ m.source = .staging p)
      ∨ (m.kind = .unmount ∧ m.target = some .source ∧ m.source = .chamber st.val ∧ m.destination = some (.staging p))) →
    (∀ j r', j < i → s.reel? j = some r' → r'.location ≠ .chamber st.val) →
    let u := s.station st
    let wrong : Bool := u.tagRead.any (fun tag => tag != r.tag)
      || u.markRead.any (fun mark => r.headMark.any (fun h => h != mark))
    let right : Bool := !wrong && u.tagRead.isSome && u.markRead.isSome
    ∃ t, exec (.arrived k) s = .next t
      ∧ t.reel? i = some { r with
          location := .chamber st.val
          custody := if wrong then .mismatch else if right then .verified
            else if u.tagRead.isSome then .tagOk else .unverified
          hold := r.hold || wrong, headMark := if right then u.markRead else r.headMark }
      ∧ (wrong = true → t.flag .custodyMismatch = true)
      ∧ t.station st = { u with
          reservation := .none
          state := if u.state = .empty then .loaded
            else if wrong = true ∧ (u.state = .threaded ∨ u.state = .broken) then .loaded
            else if right = true ∧ (u.state = .loaded ∨ u.state = .broken) ∧ u.threaded = true then .threaded
            else u.state
          threaded := if u.state = .empty then false else u.threaded
          motion := if wrong = true ∧ u.state = .threaded ∧ u.motion = .prerolling then .stopped else u.motion }
      ∧ (∀ j, j ≠ i → t.reel? j = s.reel? j)
      ∧ (∃ y, t.position? p = some y ∧ y.state = .empty ∧ y.dwell = 0)
      ∧ (∀ u, u ≠ st → t.station u = s.station u)
      ∧ t.stk.queue = [] ∧ t.stk.lift = .idle ∧ t.stk.carriage = .empty ∧ t.flag .moveDone = true)
  ∧ (∀ (s : State) (m : MoveRecord) (k p : Nat) (st : StationId) (x : Staging), s.powered = true → s.stk.queue = [m] →
    (m.state = .moving ∨ m.state = .halted) → m.number = some k → m.kind = .unmount → m.reel = none →
    m.station = some st → m.destination = some (.staging p) → s.position? p = some x →
    (m.target = some .source → s.reelAt (.chamber st.val) = none) →
    ∃ t, exec (.arrived k) s = .next t ∧ (∀ j, t.reel? j = s.reel? j) ∧ (t.station st).reservation = .none
      ∧ (m.target = some .destination → (∃ y, t.position? p = some y ∧ y.state = .unidentified ∧ y.dwell = 0)
          ∧ (t.station st).state = (s.station st).state)
      ∧ (m.target = some .source → (s.station st).state = .empty →
          (∃ y, t.position? p = some y ∧ y.state = .empty ∧ y.dwell = 0) ∧ (t.station st).state = .loaded)
      ∧ (∀ u, u ≠ st → t.station u = s.station u)
      ∧ t.stk.queue = [] ∧ t.stk.lift = .idle ∧ t.stk.carriage = .empty ∧ t.stk.timer = none ∧ t.flag .moveDone = true)
  ∧ (∀ (s : State) (m : MoveRecord) (k i : Nat) (r : Reel) (d : Location), s.powered = true → s.stk.queue = [m] →
    (m.state = .moving ∨ m.state = .halted) → m.number = some k → m.destination = some d → m.reel = some i →
    s.reel? i = some r →
    (∀ k', k' ≠ k → Rested s → exec (.arrived k') s = .next s.silent)
    ∧ (m.target = some .source → m.kind ≠ .unmount → ∃ t, exec (.arrived k) s = .next t
      ∧ t.stk.queue = [] ∧ t.stk.lift = .idle ∧ t.stk.carriage = .empty ∧ t.stk.timer = none ∧ t.flag .moveDone = true
      ∧ (∀ j, j ≠ i → t.reel? j = s.reel? j)
      ∧ (∀ p x c, m.kind = .fetch → d = .staging p → m.source = .cell c → s.position? p = some x →
          t.reel? i = some { r with location := .cell c, custody := .none }
          ∧ ∃ y, t.position? p = some y ∧ y.state = .empty ∧ y.dwell = 0)
      ∧ (∀ p x, m.kind = .mount ∨ m.kind = .reshelve → m.source = .staging p → s.position? p = some x →
          t.reel? i = some { r with location := .staging p, custody := .none }
          ∧ ∃ y, t.position? p = some y ∧ y.state = .occupied ∧ y.dwell = 0)))

/-- R48, R56: the move timer's expiry halts a MOVING lift with cause TIMEOUT after STOP has been sent; FAULT halts a MOVING
lift, with its move, or an IDLE one, with cause FAULT, leaves a HALTED one, and under direct control ends the forwarded
command; LIFT HALTED is raised, naming the carried reel. An expiry while the lift is not MOVING is ignored. R48, R56: STOP
LIFT sends STOP to a lift that is MOVING, IDLE or DIRECT: a MOVING lift halts with its move kept, an IDLE one without a
record, both with cause STOP and LIFT HALTED that names nothing, and under direct control the forwarded command ends. A
HALTED lift is left as it is. Rests also on the model's own choices or readings, log entry 17. -/
def Obligations.HaltsOfTheLift : Prop :=
  (∀ (s : State), s.powered = true → Rested s →
    let carried : Option Nat := match s.stk.carriage with
      | .reel i => some i
      | _ => none
    let halted : HaltCause → List Emission → State := fun c e =>
      ({ s with
        sent := e
        stk := { s.stk with
          queue := s.stk.queue.map (fun m => if m.state = .moving ∨ m.state = .halted then
            { m with state := .halted, cause := some c } else m)
          lift := .halted, cause := some c, timer := none } } : State).raise .liftHalted { reel := carried }
    (s.stk.lift = .moving → s.stk.timer ≠ none → exec .moveTimerExpiry s = .next (halted .timeout [.lift .stop]))
    ∧ (s.stk.lift ≠ .moving → exec .moveTimerExpiry s = .next s.silent)
    ∧ (s.stk.lift = .moving → exec .liftFault s = .next (halted .fault []))
    ∧ (s.stk.lift = .idle → exec .liftFault s = .next (({ s.silent with stk := { s.stk with
        lift := .halted, cause := some .fault } } : State).raise .liftHalted {}))
    ∧ (s.stk.lift = .halted → exec .liftFault s = .next s.silent)
    ∧ (s.stk.lift = .direct → exec .liftFault s = .next (({ s.silent with stk := { s.stk with forwarded := none } } :
        State).raise .liftHalted { reel := carried })))
  ∧ (∀ (s : State) (n : RequestNumber), Calm s →
    (s.stk.lift = .moving → exec (.stopLift n) s = .next ((({ s with
        sent := [.lift .stop]
        stk := { s.stk with
          queue := s.stk.queue.map (fun m => if m.state = .moving ∨ m.state = .halted then
            { m with state := .halted, cause := some .stop } else m)
          lift := .halted, cause := some .stop, timer := none } } : State).raise .liftHalted {}).answered .stopLift n
            (.done .empty)))
    ∧ (s.stk.lift = .idle → exec (.stopLift n) s = .next ((({ s with
        sent := [.lift .stop], stk := { s.stk with lift := .halted, cause := some .stop } } : State).raise .liftHalted
          {}).answered .stopLift n (.done .empty)))
    ∧ (s.stk.lift = .halted → exec (.stopLift n) s = .next (s.silent.answered .stopLift n (.done .empty)))
    ∧ (s.stk.lift = .direct → exec (.stopLift n) s = .next (({ s with
        sent := [.lift .stop], stk := { s.stk with forwarded := none } } : State).answered .stopLift n (.done .empty))))

/-- R54, R55: under direct control PICKED takes the reel recorded at the place onto the carriage, its custody NONE, its
came-from zone that of a cell, a staging position EMPTY; where no reel is recorded, and at a chamber, of which the table of
R54 has no row, the carriage holds an unidentified can, and a reel recorded on it before becomes UNKNOWN. PLACED sets the
carried reel down at an EMPTY staging position, OCCUPIED with a new dwell count, or in a cell that may hold it, which
becomes its home cell; at any other cell, position or chamber the reel becomes UNKNOWN with LOCATION UNKNOWN. An
unidentified can placed at an EMPTY position makes it OCCUPIED-UNIDENTIFIED, and elsewhere no record changes. Each report
ends a forwarded command of its kind and no other. A PLACED with an EMPTY carriage, and both outside direct control, are
ignored. Rests also on the model's own choices or readings, log entry 20. -/
def Obligations.DirectPicksAndPlacesMoveReels : Prop :=
  (∀ (s : State) (l : Location), s.powered = true → Rested s →
    (s.stk.lift ≠ .direct → exec (.picked l) s = .next s.silent ∧ exec (.placed l) s = .next s.silent)
    ∧ (s.stk.lift = .direct → s.stk.carriage = .empty → exec (.placed l) s = .next s.silent))
  ∧ ∀ (s : State), s.powered = true → s.stk.lift = .direct →
    let pickEnded : Option ForwardedCommand := match s.stk.forwarded with
      | some (.pick _) => none
      | x => x
    let placeEnded : Option ForwardedCommand := match s.stk.forwarded with
      | some (.place _) => none
      | x => x
    let unknownAt : Location → Prop := fun l =>
      (s.reelAt l = none ∧ ((∃ c, l = .cell c ∧ c < 640) ∨ ∃ p, l = .staging p ∧ p < 8)) ∨ ∃ k, l = .chamber k
    (∀ (i : Nat) (r : Reel), s.reel? i = some r →
      (∀ c, s.stk.carriage = .empty → c < 640 → s.reelAt (.cell c) = some i →
        ∃ t, exec (.picked (.cell c)) s = .next t ∧ t.stk.carriage = .reel i ∧ t.stk.forwarded = pickEnded
          ∧ t.reel? i = some { r with location := .carriage, custody := .none, cameFrom := (zoneOfCell c).zone }
          ∧ (∀ j, j ≠ i → t.reel? j = s.reel? j) ∧ t.stk.lift = .direct ∧ SameWork s t ∧ t.sent = [])
      ∧ (∀ p x, s.stk.carriage = .empty → s.position? p = some x → s.reelAt (.staging p) = some i →
        ∃ t, exec (.picked (.staging p)) s = .next t ∧ t.stk.carriage = .reel i ∧ t.stk.forwarded = pickEnded
          ∧ t.reel? i = some { r with location := .carriage, custody := .none } ∧ (∀ j, j ≠ i → t.reel? j = s.reel? j)
          ∧ (∃ y, t.position? p = some y ∧ y.state = .empty ∧ y.dwell = 0) ∧ t.stk.lift = .direct ∧ SameWork s t)
      ∧ (∀ p x, s.stk.carriage = .reel i → s.position? p = some x → x.state = .empty →
        ∃ t, exec (.placed (.staging p)) s = .next t ∧ t.stk.carriage = .empty ∧ t.stk.forwarded = placeEnded
          ∧ t.reel? i = some { r with location := .staging p, custody := .none }
          ∧ (∀ j, j ≠ i → t.reel? j = s.reel? j)
          ∧ (∃ y, t.position? p = some y ∧ y.state = .occupied ∧ y.dwell = 0) ∧ t.stk.lift = .direct ∧ SameWork s t)
      ∧ (∀ c, s.stk.carriage = .reel i → c < 640 →
        let takes := zoneOfCell c = r.cls ∧ s.cellState c ≠ .occupied ∧ ∀ j, s.homeReel c = some j → j = i
        ∃ t, exec (.placed (.cell c)) s = .next t ∧ t.stk.carriage = .empty ∧ t.stk.forwarded = placeEnded
          ∧ (takes → t.reel? i = some { r with location := .cell c, custody := .none, home := some c })
          ∧ (¬ takes → t.reel? i = some { r with location := .unknown, custody := .none }
              ∧ t.flag .locationUnknown = true)
          ∧ (∀ j, j ≠ i → t.reel? j = s.reel? j) ∧ t.stk.lift = .direct ∧ SameWork s t)
      ∧ (∀ l, s.stk.carriage = .reel i →
          ((∃ p x, l = .staging p ∧ s.position? p = some x ∧ x.state ≠ .empty) ∨ ∃ k, l = .chamber k) →
        ∃ t, exec (.placed l) s = .next t ∧ t.stk.carriage = .empty ∧ t.stk.forwarded = placeEnded
          ∧ t.reel? i = some { r with location := .unknown, custody := .none } ∧ t.flag .locationUnknown = true
          ∧ (∀ j, j ≠ i → t.reel? j = s.reel? j) ∧ t.stk.lift = .direct ∧ SameWork s t)
      ∧ (∀ l, s.stk.carriage = .reel i → unknownAt l →
        ∃ t, exec (.picked l) s = .next t ∧ t.stk.carriage = .unidentified ∧ t.stk.forwarded = pickEnded
          ∧ t.reel? i = some { r with location := .unknown, custody := .none } ∧ t.flag .locationUnknown = true
          ∧ (∀ j, j ≠ i → t.reel? j = s.reel? j)))
    ∧ (∀ l, (∀ i, s.stk.carriage ≠ .reel i) → unknownAt l →
      ∃ t, exec (.picked l) s = .next t ∧ t.stk.carriage = .unidentified ∧ t.stk.forwarded = pickEnded
        ∧ (∀ j, t.reel? j = s.reel? j) ∧ t.stk.lift = .direct ∧ SameWork s t
        ∧ ∀ p x, s.position? p = some x → ∃ y, t.position? p = some y
          ∧ if l = .staging p ∧ x.state = .unidentified then y.state = .empty ∧ y.dwell = 0
            else y.state = x.state ∧ y.dwell = x.dwell)
    ∧ (∀ l, s.stk.carriage = .unidentified →
      ∃ t, exec (.placed l) s = .next t ∧ t.stk.carriage = .empty ∧ t.stk.forwarded = placeEnded
        ∧ (∀ j, t.reel? j = s.reel? j) ∧ t.stk.lift = .direct ∧ SameWork s t
        ∧ ∀ p x, s.position? p = some x → ∃ y, t.position? p = some y
          ∧ if l = .staging p ∧ x.state = .empty then y.state = .unidentified ∧ y.dwell = 0
            else y.state = x.state ∧ y.dwell = x.dwell)

/-- R56, R58: POSITIONED ends a forwarded GO TO or PARK and no other; CARRIAGE EMPTY makes a lift that is HALTED without a
move IDLE and empty, and a reel recorded on its carriage UNKNOWN with LOCATION UNKNOWN; CARRIAGE LOADED leaves a recorded
reel or unidentified can, and otherwise records an unidentified one with LIFT HALTED, halting an IDLE lift; a report during
a move halts it, and one while a move is HALTED changes nothing; and under direct control it ends the forwarded command
and corrects the carriage, a reel that is not on it becoming UNKNOWN. -/
def Obligations.CarriageReportsCorrectTheLift : Prop :=
  ∀ (s : State), s.powered = true → Rested s →
    let noMove := ∀ m ∈ s.stk.queue, m.state ≠ .moving ∧ m.state ≠ .halted
    let noted : State := { s.silent with stk := { s.stk with reported := true } }
    ((∀ c, s.stk.forwarded = some c → (c = .park ∨ ∃ l, c = .goTo l) →
        exec .positioned s = .next { s.silent with stk := { s.stk with forwarded := none } })
    ∧ ((s.stk.forwarded = none ∨ (∃ l, s.stk.forwarded = some (.pick l)) ∨ ∃ l, s.stk.forwarded = some (.place l)) →
        exec .positioned s = .next s.silent))
    ∧ (s.stk.lift = .halted → s.stk.queue = [] → (∀ i, s.stk.carriage ≠ .reel i) →
        exec (.carriage false) s = .next { s.silent with stk := { s.stk with
          reported := true, carriage := .empty, lift := .idle, cause := none } })
    ∧ (∀ i r, s.stk.lift = .halted → s.stk.queue = [] → s.stk.carriage = .reel i → s.reel? i = some r →
        exec (.carriage false) s = .next (({ s.silent.setReel i (some
          { r with location := .unknown, custody := .none }) with stk := { s.stk with
            reported := true, carriage := .empty, lift := .idle, cause := none } } : State).raise .locationUnknown
              { reel := some i }))
    ∧ (s.stk.lift = .halted → noMove → (s.stk.carriage = .empty ∨ s.stk.carriage = .unreported) →
        exec (.carriage true) s = .next (({ s.silent with stk := { s.stk with
          reported := true, carriage := .unidentified } } : State).raise .liftHalted {}))
    ∧ (s.stk.lift = .halted → noMove → ((∃ i, s.stk.carriage = .reel i) ∨ s.stk.carriage = .unidentified) →
        exec (.carriage true) s = .next noted)
    ∧ (∀ b, s.stk.lift = .halted → ¬ noMove → exec (.carriage b) s = .next noted)
    ∧ (s.stk.lift = .idle → exec (.carriage true) s = .next (({ s.silent with stk := { s.stk with
          reported := true, carriage := .unidentified, lift := .halted, cause := some .fault } } : State).raise
            .liftHalted {}))
    ∧ (s.stk.lift = .idle → exec (.carriage false) s = .next noted)
    ∧ (∀ b, s.stk.lift = .moving → ∃ t, exec (.carriage b) s = .next t ∧ t.stk.lift = .halted
        ∧ t.stk.cause = some .fault ∧ t.stk.timer = none ∧ t.stk.carriage = s.stk.carriage ∧ t.flag .liftHalted = true)
    ∧ (s.stk.lift = .direct → (∀ i, s.stk.carriage ≠ .reel i) →
        exec (.carriage true) s = .next { s.silent with stk := { s.stk with
          reported := true, carriage := .unidentified, forwarded := none } }
        ∧ exec (.carriage false) s = .next { s.silent with stk := { s.stk with
          reported := true, carriage := .empty, forwarded := none } })
    ∧ (∀ i r, s.stk.lift = .direct → s.stk.carriage = .reel i → s.reel? i = some r →
        exec (.carriage true) s = .next { s.silent with stk := { s.stk with reported := true, forwarded := none } }
        ∧ exec (.carriage false) s = .next (({ s.silent.setReel i (some
          { r with location := .unknown, custody := .none }) with stk := { s.stk with
            reported := true, carriage := .empty, forwarded := none } } : State).raise .locationUnknown
              { reel := some i }))

/-! ### The Scan Stations and the lanes -/

/-- R60, R86: STATION RESET sends STATION CLEAR and IDENT and makes the station DISCOVERING with the reset values of its
record: the capabilities, the reservation and the two settings stay, and a registered reel in the chamber is in REVERIFY.
The station holds no lane and waits for none. -/
def Obligations.StationResetRediscovers : Prop :=
  ∀ (s : State) (n : RequestNumber) (st : StationId) (i : Nat) (r : Reel), Free s → NoStart s → LanesExclusive s →
    s.lanes.waitList = [] → (s.order st).state = .closed → s.reelAt (.chamber st.val) = some i → s.reel? i = some r →
    ∃ t, exec (.stationReset n st.val) s = .next t
      ∧ t.station st = { Station.powerOn with
          state := .discovering, capabilities := (s.station st).capabilities
          reservation := (s.station st).reservation, filterSetting := (s.station st).filterSetting
          tenure := (s.station st).tenure, discovery := some 2000 }
      ∧ t.reel? i = some { r with custody := .reverify } ∧ (∀ j, j ≠ i → t.reel? j = s.reel? j)
      ∧ t.laneOf st = none ∧ st ∉ t.lanes.waitList ∧ t.lanes.source.assigned ≠ some st
      ∧ t.order st = s.order st ∧ SameStacks s t ∧ t.engine = s.engine ∧ t.delivery = s.delivery
      ∧ Emission.station st .stationClear ∈ t.sent ∧ Emission.station st .ident ∈ t.sent
      ∧ RepliedOnce t (.stationReset st.val) n (.done .empty)

/-- R87, R99: LOOPBACK ON makes an EMPTY station with no reservation, no can sensed and no work order LOOPBACK, sends SAFE
and takes the unassigned pattern source; LOOPBACK OFF frees the source and the station is EMPTY, or LOADED when a can is
sensed. Otherwise both are refused. R87: the end of the frame interval lets a FEEDING pattern source offer the next frame of
an ACTIVE loopback work order, whose capture begins in the lowest FREE slot when the station's lane is idle; with a capture
in flight it is only noted, and with the source IDLE it has no effect (log entry 48). Rests also on the model's own choices
or readings, log entry 48. -/
def Obligations.LoopbackRunsThePatternSource : Prop :=
  (∀ (s : State) (n : RequestNumber) (st : StationId), Calm s →
    let t := s.station st
    let may := t.state = .empty ∧ t.reservation = .none ∧ t.sensor ≠ .present ∧ (s.order st).state = .closed
      ∧ s.lanes.source.assigned = none
    (may → exec (.loopbackOn n st.val) s = .next (({ s with
        sent := [.station st .safe], stations := s.stations.set st { t with state := .loopback }
        lanes := { s.lanes with source := { assigned := some st, state := .idle, intervalOver := false } } } :
          State).answered (.loopbackOn st.val) n (.done .empty)))
    ∧ (¬ may → exec (.loopbackOn n st.val) s =
        .next (s.silent.answered (.loopbackOn st.val) n (.refused .wrongState)))
    ∧ (t.state = .loopback → (s.order st).state = .closed → s.lanes.source.assigned = some st →
        exec (.loopbackOff n st.val) s = .next (({ s.silent with
          stations := s.stations.set st { t with
            state := if t.sensor = .present then StationState.loaded else .empty }
          lanes := { s.lanes with source := { assigned := none, state := .idle, intervalOver := false } } } :
            State).answered (.loopbackOff st.val) n (.done .empty)))
    ∧ (t.state ≠ .loopback ∨ (s.order st).state ≠ .closed → exec (.loopbackOff n st.val) s =
        .next (s.silent.answered (.loopbackOff st.val) n (.refused .wrongState))))
  ∧ (∀ (s : State) (st : StationId), s.powered = true → Rested s →
    (s.lanes.source.state = .idle → exec .loopbackFrameInterval s = .next s.silent)
    ∧ (s.lanes.source.assigned = some st → s.lanes.source.state = .feeding → (s.station st).inFlight ≠ none →
      exec .loopbackFrameInterval s = .next { s.silent with lanes := { s.lanes with
        source := { s.lanes.source with intervalOver := true } } })
    ∧ (∀ (l : LaneId) (k : Nat) (b : OrderBody), s.lanes.source.assigned = some st → s.lanes.source.state = .feeding →
        (s.station st).state = .loopback → (s.station st).stopPending = .none → (s.station st).inFlight = none →
        (s.order st).state = .active → (s.order st).body = some b → b.reel = none → b.nextCapture ≤ b.last →
        s.laneOf st = some l → (s.lane l).carriage = none → s.freeSlot = some k →
      ∃ t, exec .loopbackFrameInterval s = .next t
        ∧ t.lanes.source = { assigned := some st, state := .feeding, intervalOver := false }
        ∧ (t.lane l).carriage = some { station := st, frame := b.nextCapture, slot := k }
        ∧ (t.station st).inFlight = some b.nextCapture
        ∧ (∃ x, t.slot? k = some x ∧ x.state = .filling ∧ x.order = some st ∧ x.frame = some b.nextCapture
            ∧ x.flags.test = true)
        ∧ (∀ j, j ≠ k → t.slot? j = s.slot? j) ∧ t.orders = s.orders ∧ t.retained = s.retained ∧ t.link = s.link
        ∧ t.sent = []))

/-- R88, R90, R94, R95: FORCE RELEASE of a lane that carries a capture makes its release pending FORCED; of one that carries
nothing it frees the lane, and a holder that needs no lane leaves it FREE when no station waits. With the other lane held,
the freed lane is granted to the head of the wait list with that station's tenure, and a RUNNING holder joins the tail of
the list. When no station waits, a RUNNING holder is granted a lane again at once, lane A if both are FREE, with a fresh
tenure count. A lane already FORCED is answered DONE and left, a FREE one is refused WRONG STATE and another number
MALFORMED. -/
def Obligations.ForcedReleaseFreesTheLane : Prop :=
  (∀ (s : State) (n : RequestNumber) (l m : LaneId), Calm s → l ≠ m →
    let k : Nat := match l with
      | .a => 0
      | .b => 1
    ((s.lane l).hold = none →
      exec (.forceRelease n k) s = .next (s.silent.answered (.forceRelease k) n (.refused .wrongState)))
    ∧ ∀ (h : Hold) (c : Option Capture), s.lane l = { hold := some h, carriage := c } →
      (h.release = .forced →
        exec (.forceRelease n k) s = .next (s.silent.answered (.forceRelease k) n (.done .empty)))
      ∧ (h.release ≠ .forced → c ≠ none →
        exec (.forceRelease n k) s = .next ((s.silent.setLane l
          { hold := some { h with release := .forced }, carriage := c }).answered (.forceRelease k) n (.done .empty)))
      ∧ (h.release ≠ .forced → c = none → s.lanes.waitList = [] → (s.station h.station).state ≠ .running →
          (s.station h.station).state ≠ .starved → (s.station h.station).state ≠ .loopback →
        exec (.forceRelease n k) s = .next ((s.silent.setLane l { hold := none, carriage := none }).answered
          (.forceRelease k) n (.done .empty)))
      ∧ (∀ (st : StationId) (rest : List StationId) (h' : Hold), h.release ≠ .forced → c = none →
          s.lanes.waitList = st :: rest → (s.lane m).hold = some h' → h'.release ≠ .tenure → st ≠ h.station →
          h'.station ≠ h.station → h.station ∉ rest → (s.station st).state = .running → 0 < (s.station st).tenure →
        ∃ t, exec (.forceRelease n k) s = .next t ∧ RepliedOnce t (.forceRelease k) n (.done .empty)
          ∧ t.lane l = { hold := some { station := st, tenure := (s.station st).tenure, release := .none }, carriage := none }
          ∧ ((s.station h.station).state ≠ .running → (s.station h.station).state ≠ .starved →
              (s.station h.station).state ≠ .loopback → t.lanes.waitList = rest ∧ t.lane m = s.lane m)
          ∧ ((s.station h.station).state = .running → (s.station h.station).stopPending = .none →
              t.lanes.waitList = rest ++ [h.station] ∧ t.laneOf h.station = none)
          ∧ t.stations = s.stations ∧ t.orders = s.orders ∧ t.store = s.store ∧ t.retained = s.retained ∧ t.sent = [])
      ∧ (h.release ≠ .forced → c = none → s.lanes.waitList = [] → (s.station h.station).state = .running →
          (s.station h.station).stopPending = .none →
          (∀ h', (s.lane m).hold = some h' → h'.station ≠ h.station ∧ h'.release ≠ .tenure) →
        let again : LaneId := if (s.lane m).hold = none then .a else l
        exec (.forceRelease n k) s = .next (((s.silent.setLane l { hold := none, carriage := none }).setLane again
          { hold := some { station := h.station, tenure := (s.station h.station).tenure, release := .none }
            carriage := none }).answered (.forceRelease k) n (.done .empty))))
  ∧ ∀ (s : State) (n : RequestNumber) (k : Nat), Calm s → 2 ≤ k →
    exec (.forceRelease n k) s = .next (s.silent.answered (.forceRelease k) n (.refused .malformed))

/-- R65, R66: ATTACH makes a DETACHED, DISCOVERING or LOST station DISCOVERING, sends IDENT and starts the discovery timer;
the timer's expiry makes a DISCOVERING station DETACHED; an IDENT reply of an empty chamber makes it EMPTY, records what the
transport can do, starts the heartbeat timer and raises STATION ATTACHED; a reel recorded in a chamber that holds a can is
in REVERIFY and its station LOADED, or BROKEN when the film is threaded. R67: HEARTBEAT starts the heartbeat timer in every
state but DETACHED, DISCOVERING and LOST; its expiry makes an idle station LOST with STATION LOST raised, and adds HEARTBEAT
LOST to the fault names of a SEIZED one. Rests also on the model's own choices or readings, log entries 17 and 49. -/
def Obligations.DiscoveryAndHeartbeats : Prop :=
  (∀ (s : State) (st : StationId), s.powered = true → Rested s →
    let t := s.station st
    ((t.state = .detached ∨ t.state = .discovering ∨ t.state = .lost) → exec (.attach st) s = .next { s with
        sent := [.station st .ident]
        stations := s.stations.set st { t with state := .discovering, discovery := some 2000 } })
    ∧ (t.state = .seized → exec (.attach st) s = .next s.silent)
    ∧ (t.state = .discovering → t.discovery ≠ none → exec (.discoveryTimerExpiry st) s = .next { s.silent with
        stations := s.stations.set st { t with state := .detached, discovery := none } })
    ∧ (t.state ≠ .discovering → ∀ f, exec (.identReply st f) s = .next s.silent)
    ∧ (∀ f : IdentFields, t.state = .discovering → f.canPresent = false → s.reelAt (.chamber st.val) = none →
        exec (.identReply st f) s = .next (({ s.silent with stations := s.stations.set st { t with
          state := .empty, discovery := none, capabilities := some { gauges := f.gauges, fastest := f.fastest }
          sensor := .absent, threaded := f.threaded, heartbeat := some 500 } } : State).raise .stationAttached
            { station := some st }))
    ∧ (∀ (f : IdentFields) (i : Nat) (r : Reel), t.state = .discovering → f.canPresent = true →
        s.reelAt (.chamber st.val) = some i → s.reel? i = some r →
        exec (.identReply st f) s = .next ((({ s.silent with stations := s.stations.set st { t with
          state := if f.threaded then StationState.broken else .loaded
          discovery := none, capabilities := some { gauges := f.gauges, fastest := f.fastest }
          sensor := .present, threaded := f.threaded, heartbeat := some 500, tagRead := none, markRead := none } } :
            State).setReel i (some { r with custody := .reverify })).raise .stationAttached { station := some st })))
  ∧ (∀ (s : State) (st : StationId), s.powered = true → Rested s →
    let t := s.station st
    let beats := t.state ≠ .detached ∧ t.state ≠ .discovering ∧ t.state ≠ .lost
    (beats → exec (.heartbeat st) s = .next { s.silent with
        stations := s.stations.set st { t with heartbeat := some 500 } })
    ∧ (¬ beats → exec (.heartbeat st) s = .next s.silent ∧ exec (.heartbeatTimerExpiry st) s = .next s.silent)
    ∧ (t.heartbeat = none → exec (.heartbeatTimerExpiry st) s = .next s.silent)
    ∧ (t.state = .seized → t.heartbeat ≠ none → exec (.heartbeatTimerExpiry st) s = .next { s.silent with
        stations := s.stations.set st { t with
          heartbeat := none
          faults := if FaultName.heartbeatLost ∈ t.faults then t.faults else t.faults ++ [.heartbeatLost] } })
    ∧ (beats → t.state ≠ .seized → t.state ≠ .loopback → t.heartbeat ≠ none → t.inFlight = none → s.laneOf st = none →
        s.lanes.waitList = [] → (∀ l, s.lane l = (s.lane l).unmark) → (s.order st).state = .closed →
        exec (.heartbeatTimerExpiry st) s = .next (({ s.silent with stations := s.stations.set st { t with
          state := .lost, motion := .stopped, stopPending := .none, filter := .clear, heartbeat := none } } :
            State).raise .stationLost { station := some st, reel := s.reelAt (.chamber st.val) })))

/-- R69: CAN PRESENT records the sensor and clears the reads, and an EMPTY station without a reservation enters LOADED; a
can gone from a LOADED station without a move makes it EMPTY, and its reel UNKNOWN with LOCATION UNKNOWN; with a reservation
the sensor alone changes. A DETACHED, DISCOVERING or LOST station takes no report. R71, R83: THREADED sets the threaded
flag, and a LOADED station whose reel is VERIFIED becomes THREADED; UNTHREADED clears the flag in LOADED, and from THREADED,
BROKEN or REWINDING it makes the station LOADED with both reads cleared and a VERIFIED reel in REVERIFY. REWOUND makes a
REWINDING station THREADED and is discarded elsewhere. Rests also on the model's own choices or readings, log entries 34 and
43. -/
def Obligations.TheChamberSensorAndThreadingAreFollowed : Prop :=
  (∀ (s : State) (st : StationId), s.powered = true → Rested s →
    let t := s.station st
    let beats := t.state ≠ .detached ∧ t.state ≠ .discovering ∧ t.state ≠ .lost
    (beats → exec (.canPresent st true) s = .next { s.silent with
        stations := s.stations.set st { t with
          sensor := .present, tagRead := none, markRead := none
          state := if t.state = .empty ∧ t.reservation = .none then StationState.loaded else t.state } })
    ∧ (¬ beats → ∀ b, exec (.canPresent st b) s = .next s.silent)
    ∧ (beats → (t.reservation ≠ .none ∨ t.state = .empty ∨ t.state = .seized ∨ t.state = .loopback) →
        exec (.canPresent st false) s = .next { s.silent with stations := s.stations.set st { t with sensor := .absent } })
    ∧ (∀ i r, t.state = .loaded → t.reservation = .none → (s.order st).state = .closed → s.lanes.waitList = [] →
        s.laneOf st = none → s.reelAt (.chamber st.val) = some i → s.reel? i = some r →
        ∃ u, exec (.canPresent st false) s = .next u
          ∧ u.station st = { t with
              sensor := .absent, state := .empty, motion := .stopped, threaded := false, profile := none
              fallback := none, stopPending := .none }
          ∧ u.reel? i = some { r with location := .unknown, custody := .none } ∧ u.flag .locationUnknown = true
          ∧ (∀ j, j ≠ i → u.reel? j = s.reel? j) ∧ u.sent = [.station st .safe] ∧ u.orders = s.orders
          ∧ u.store = s.store))
  ∧ (∀ (s : State) (st : StationId), s.powered = true → Rested s →
    let t := s.station st
    (t.state = .rewinding → exec (.rewound st) s = .next { s.silent with
        stations := s.stations.set st { t with state := .threaded, motion := .stopped } })
    ∧ (t.state ≠ .rewinding → exec (.rewound st) s = .next s.silent)
    ∧ (t.state = .empty → exec (.threaded st) s =
        .next { s.silent with stations := s.stations.set st { t with threaded := true } })
    ∧ (t.state = .loaded → exec (.unthreaded st) s =
        .next { s.silent with stations := s.stations.set st { t with threaded := false } })
    ∧ ∀ (i : Nat) (r : Reel), s.reelAt (.chamber st.val) = some i → s.reel? i = some r →
      (t.state = .loaded → exec (.threaded st) s = .next { s.silent with stations := s.stations.set st { t with
        threaded := true, state := if r.custody = .verified then StationState.threaded else .loaded } })
      ∧ ((t.state = .threaded ∨ t.state = .broken ∨ t.state = .rewinding) → t.motion ≠ .prerolling →
          r.custody = .verified →
        exec (.unthreaded st) s = .next (({ s.silent with stations := s.stations.set st { t with
          threaded := false, state := .loaded, motion := .stopped, tagRead := none, markRead := none } } :
            State).setReel i (some { r with custody := .reverify }))))

/-- R20, R21, R70: the reads of a LOADED chamber decide custody. A tag that is not the reel's makes it MISMATCH, sets the
hold and raises CUSTODY MISMATCH; the reel's own tag alone makes UNVERIFIED TAG-OK, and makes REVERIFY VERIFIED unless the
hold is set, when it changes no custody; tag and mark together verify it, storing a mark the record had not, and a station
whose film is threaded becomes THREADED at a change to VERIFIED. Before an arrival an EMPTY station keeps the reads, as one
does that holds an unidentified can, and a station that takes no reads ignores them. R16, R19, R72: an ACID READING is
recorded for the registered reel in the chamber, clamped to 0 to 30; one at or above the threshold sets the quarantine flag,
raises ACID READING HIGH when the flag was clear, and releases a home cell outside the new zone. Without a registered reel
it is discarded, and the station does not change. Rests also on the model's own choices or readings, log entries 14 and 47.
-/
def Obligations.ReadsAndReadingsReachTheRecord : Prop :=
  (∀ (s : State) (st : StationId) (i : Nat) (r : Reel), s.powered = true → Rested s →
    s.reelAt (.chamber st.val) = some i → s.reel? i = some r →
    let t := s.station st
    let taken := fun (x : Station) (c : Reel) => ({ s.silent with stations := s.stations.set st x } : State).setReel i (some c)
    (∀ tag, t.state = .loaded → tag ≠ r.tag → r.custody ≠ .none → r.custody ≠ .mismatch →
      exec (.tagRead st tag) s = .next ((taken { t with tagRead := some tag }
        { r with custody := .mismatch, hold := true }).raise .custodyMismatch { station := some st, reel := some i }))
    ∧ (t.state = .loaded → t.markRead = none → r.custody = .unverified →
      exec (.tagRead st r.tag) s = .next (taken { t with tagRead := some r.tag } { r with custody := .tagOk }))
    ∧ (∀ mark, t.state = .loaded → t.tagRead = some r.tag → r.custody = .tagOk → (∀ h, r.headMark = some h → h = mark) →
      exec (.headMarkRead st mark) s = .next (taken
        { t with markRead := some mark, state := if t.threaded then StationState.threaded else .loaded }
        { r with custody := .verified, headMark := some mark }))
    ∧ (∀ mark h, t.state = .loaded → t.tagRead = some r.tag → r.custody = .tagOk → r.headMark = some h → h ≠ mark →
      exec (.headMarkRead st mark) s = .next ((taken { t with markRead := some mark }
        { r with custody := .mismatch, hold := true }).raise .custodyMismatch { station := some st, reel := some i }))
    ∧ ((t.state = .loaded ∨ t.state = .broken) → t.markRead = none → r.custody = .reverify →
      exec (.tagRead st r.tag) s = .next (if r.hold
        then taken { t with tagRead := some r.tag } r
        else taken { t with tagRead := some r.tag, state := if t.threaded then StationState.threaded else t.state }
          { r with custody := .verified }))
) ∧ (∀ (s : State) (st : StationId) (tag : CanTag) (mark : HeadMark), s.powered = true → Rested s →
    let t := s.station st
    let kept : Station → State := fun x => { s.silent with stations := s.stations.set st x }
    ((t.state = .empty ∨ ((t.state = .loaded ∨ t.state = .threaded ∨ t.state = .broken)
        ∧ s.reelAt (.chamber st.val) = none)) →
      exec (.tagRead st tag) s = .next (kept { t with tagRead := some tag })
      ∧ exec (.headMarkRead st mark) s = .next (kept { t with markRead := some mark }))
    ∧ (t.state ≠ .empty → t.state ≠ .loaded → t.state ≠ .threaded → t.state ≠ .broken →
      exec (.tagRead st tag) s = .next s.silent ∧ exec (.headMarkRead st mark) s = .next s.silent))
  ∧ (∀ (s : State) (st : StationId) (reading : Int), s.powered = true → Rested s →
    let x := (s.station st).state
    let v := (max 0 (min reading 30)).toNat
    (s.reelAt (.chamber st.val) = none → exec (.acidReading st reading) s = .next s.silent)
    ∧ (∀ i r, x ≠ .detached → x ≠ .discovering → x ≠ .lost → x ≠ .loopback → s.reelAt (.chamber st.val) = some i →
        s.reel? i = some r →
      (v < s.retained.threshold ∨ r.quarantine = true → exec (.acidReading st reading) s =
        .next (s.silent.setReel i (some { r with acid := some v })))
      ∧ (s.retained.threshold ≤ v → r.quarantine = false → exec (.acidReading st reading) s =
        .next ((s.silent.setReel i (some { r with
          acid := some v, quarantine := true
          home := if classOf r.base true = r.cls then r.home
            else r.home.filter (fun c => zoneOfCell c == classOf r.base true) })).raise .acidReadingHigh
              { station := some st, reel := some i }))))

/-- R22, R79, R80, R82, R83, R110: AT SPEED of a frame of the reel makes a prerolling station RUNNING at speed, and it takes a
FREE lane. FRAME AT GATE of the target frame begins its capture when the station holds an idle lane and a slot is FREE; a
work order's first capture appends the pass record. A frame before the target is waited for, with STEP at the profile STEP;
past the target the station prerolls to it, a continuous transport after RAMP DOWN. Without a lane, and with one while no
slot is FREE or its own capture is in flight, the station starves: it is STARVED with STATION STARVED raised, and a continuous
transport ramps down, while one at STEP keeps the frame in its gate. R89: one without a lane stands on the wait list or joins
its tail, and one that holds a lane keeps it and joins no list. -/
def Obligations.FramesAtTheGateAreCaptured : Prop :=
  ∀ (s : State) (st : StationId) (i : Nat) (r : Reel) (count f g : Nat), s.powered = true → Rested s →
    s.reelAt (.chamber st.val) = some i → s.reel? i = some r → frameOfCount r.segments count = some f →
    s.target st = some g →
    let t := s.station st
    let atSpeed := t.state = .running ∧ t.motion = .atSpeed ∧ t.stopPending = .none
    (t.state = .threaded → t.motion = .prerolling → t.stopPending = .none → s.lanes.waitList = [] →
        s.lanes.laneA = .free → s.lanes.laneB.heldBy st = false → (∀ l, (s.lane l).unmark = s.lane l) →
      ∃ u, exec (.atSpeed st count) s = .next u ∧ (u.station st).state = .running ∧ (u.station st).motion = .atSpeed
        ∧ u.lanes.laneA = { hold := some { station := st, tenure := t.tenure, release := .none }, carriage := none }
        ∧ u.lanes.waitList = [] ∧ u.orders = s.orders ∧ u.retained = s.retained ∧ u.store = s.store ∧ u.sent = [])
    ∧ (∀ (l : LaneId) (k j : Nat) (b : OrderBody), atSpeed → f = g → s.laneOf st = some l → (s.lane l).carriage = none →
        s.freeSlot = some k → (s.order st).body = some b → b.reel = some j →
      ∃ u, exec (.frameAtGate st count) s = .next u
        ∧ u.station st = { t with lastGate := some f, inFlight := some f }
        ∧ u.lane l = { s.lane l with carriage := some { station := st, frame := f, slot := k } }
        ∧ (∃ x, u.slot? k = some x ∧ x.state = .filling ∧ x.order = some st ∧ x.frame = some f ∧ x.defects = []
            ∧ x.freeAtEnd = false ∧ x.flags.test = false)
        ∧ (∀ j, j ≠ k → u.slot? j = s.slot? j) ∧ u.order st = { s.order st with passBegun := true }
        ∧ ((s.order st).passBegun = true → ∀ j, u.reel? j = s.reel? j)
        ∧ (∀ p r', (s.order st).passBegun = false → t.profile = some p → s.reel? j = some r' → u.reel? j = some { r' with
            history := r'.history ++ [
              { number := r'.history.length + 1, station := st, startTime := s.link.clock, profileAtStart := p
                lowestProfile := p, frames := 0, defectTiles := 0, boundaries := 0, unrecorded := 0, tears := 0
                peak := none, outcome := .running }] })
        ∧ (∀ j', j' ≠ j → u.reel? j' = s.reel? j') ∧ u.link = s.link ∧ u.sent = [])
    ∧ (atSpeed → f < g → exec (.frameAtGate st count) s = .next { s with
        sent := if t.profile = some .step then [.station st .step] else []
        stations := s.stations.set st { t with lastGate := some f } })
    ∧ (∀ (b : OrderBody) (p : Profile), atSpeed → g < f → (s.order st).body = some b → b.reel = some i →
        t.profile = some p → exec (.frameAtGate st count) s = .next { s with
        sent := (if p = .step then [] else [.station st .rampDown])
          ++ [.station st (.preroll (countOfFrame r.segments g) p)]
        stations := s.stations.set st { t with lastGate := some f, motion := .prerolling, filter := .clear } })
    ∧ (atSpeed → f = g → s.laneOf st = none → t.profile ≠ some .step →
      ∃ u, exec (.frameAtGate st count) s = .next u ∧ u.flag .stationStarved = true ∧ (u.station st).state = .starved
        ∧ Emission.station st .rampDown ∈ u.sent ∧ (u.station st).lastGate = some f)
    ∧ (atSpeed → f = g →
      let starves : State → Prop := fun u => u.flag .stationStarved = true
        ∧ u.station st = { t with
            state := .starved, lastGate := some f, filter := .clear
            motion := if t.profile = some .step then .atSpeed else .ramping }
        ∧ u.sent = (if t.profile = some .step then [] else [.station st .rampDown])
        ∧ u.orders = s.orders ∧ u.retained = s.retained ∧ u.store = s.store
      (s.laneOf st = none → st ∈ s.lanes.waitList →
        ∃ u, exec (.frameAtGate st count) s = .next u ∧ starves u ∧ u.lanes = s.lanes)
      ∧ (s.laneOf st = none → st ∉ s.lanes.waitList → (∀ l, (s.lane l).hold ≠ none) →
        ∃ u, exec (.frameAtGate st count) s = .next u ∧ starves u ∧ u.lanes.waitList = s.lanes.waitList ++ [st]
          ∧ ∀ l, (u.lane l).hold.map (·.station) = (s.lane l).hold.map (·.station))
      ∧ (∀ l, s.laneOf st = some l → (s.freeSlot = none ∨ (s.lane l).carriage ≠ none) →
        ∃ u, exec (.frameAtGate st count) s = .next u ∧ starves u ∧ u.lanes = s.lanes))

/-- R23, R73, R74, R75, R78: PERF INTERVAL is taken by a station RUNNING at speed only. An absent level takes the report's
starting level. A transition not yet held for the filter setting stays pending into the next report, and one that returns
before that is dropped, so a glitch gives no edge; a transition held that long is accepted in the report it came in or in the
next, and one to HOLE is a leading edge, the first of which becomes the reference. Against a present reference the interval
is judged: a short one is no edge; a long one is a tear in the last gate frame, counted once; and an accepted one gives a
shrinkage figure, round half away from zero of (P - p) * 10000 / P clamped to -200 to 1000, the running figure being the mean
of the last 16, which the peak follows and which decides a fallback above the ceiling of the profile, 120 at FAST and 220 at
STANDARD. -/
def Obligations.PerforationsMeasureShrinkage : Prop :=
  ∀ (s : State) (st : StationId) (i x : Nat) (r : Reel), s.powered = true → Rested s →
    s.reelAt (.chamber st.val) = some i → s.reel? i = some r →
    let t := s.station st
    let hold := t.filterSetting
    let given : Filter → State := fun w => { s.silent with stations := s.stations.set st { t with filter := w } }
    let filter : Level → Option Nat → Option Nat → Filter := fun l p e => { level := some l, pendingAt := p, reference := e }
    (¬ (t.state = .running ∧ t.motion = .atSpeed) → ∀ f, exec (.perfInterval st f) s = .next s.silent)
    ∧ (t.state = .running → t.motion = .atSpeed →
      (∀ (l : Level) (y : Nat), t.filter = .clear → exec (.perfInterval st { start := l, transitions := [], reached := y }) s =
        .next (given (filter l none none)))
      ∧ (∀ (l m : Level) (e : Option Nat), t.filter = filter l none e → ∀ (start : Level) (y z : Nat), l ≠ m →
        (y < x + hold → exec (.perfInterval st
            { start := start, transitions := [{ position := x, level := m }], reached := y }) s =
          .next (given (filter l (some x) e)))
        ∧ (x < y → y < x + hold → exec (.perfInterval st { start := start, reached := z, transitions :=
              [{ position := x, level := m }, { position := y, level := l }] }) s = .next (given (filter l none e))))
      ∧ (∀ (e : Option Nat) (f : PerfFields) (l : Level), x + hold ≤ f.reached →
          ((t.filter = filter l none e ∧ ∃ m, m ≠ l ∧ f.transitions = [{ position := x, level := m }])
            ∨ (t.filter = filter l (some x) e ∧ f.transitions = [])) →
        (l = .hole → exec (.perfInterval st f) s = .next (given (filter .film none e)))
        ∧ (l = .film → e = none → exec (.perfInterval st f) s = .next (given (filter .hole none (some x))))
        ∧ (∀ reference, l = .film → e = some reference →
          let pitch := r.gauge.pitch
          let interval := x - reference
          let accepted := filter .hole none (some x)
          let away : Int → Nat → Int := fun a b =>
            if a < 0 then -(((2 * a.natAbs + b) / (2 * b) : Nat) : Int) else (((2 * a.natAbs + b) / (2 * b) : Nat) : Int)
          (2 * interval < pitch → exec (.perfInterval st f) s = .next (given (filter .hole none e)))
          ∧ (pitch ≤ 2 * interval → 2 * interval ≤ 3 * pitch →
            let v := max (-200) (min (away (((pitch : Int) - interval) * 10000) pitch) 1000)
            let window := (t.window ++ [v]).drop ((t.window ++ [v]).length - 16)
            let figure := away window.sum window.length
            let bearing : Profile := if figure ≤ 120 then .fast else if figure ≤ 220 then .standard else .step
            let falls := (t.profile = some .fast ∧ 120 < figure) ∨ (t.profile = some .standard ∧ 220 < figure)
            let fallback : Option Profile := if falls then (match t.fallback with
                | some p => some (p.slower bearing)
                | none => some bearing) else t.fallback
            exec (.perfInterval st f) s = .next (({ s.silent with
              stations := s.stations.set st { t with filter := accepted, window := window, fallback := fallback } } :
                  State).setReel i (some { r with history := r.history.map (fun p =>
                    if p.outcome = .running then { p with peak := some (match p.peak with
                      | some v => max v figure
                      | none => figure) } else p) })))
          ∧ (3 * pitch < 2 * interval →
            let torn := r.history.map (fun p => if p.outcome = .running then { p with tears := p.tears + 1 } else p)
            (∀ g, t.lastGate = some g → t.lastTear = some g → exec (.perfInterval st f) s = .next (given accepted))
            ∧ (∀ g, t.lastGate = some g → t.lastTear ≠ some g → s.slotOf st g = none →
              exec (.perfInterval st f) s = .next (({ s.silent with
                stations := s.stations.set st { t with filter := accepted, lastTear := some g } } : State).setReel i
                  (some { r with history := torn })))
            ∧ (t.lastGate = none → exec (.perfInterval st f) s =
              .next ((given accepted).setReel i (some { r with history := torn })))))))

/-- R13, R23, R74, R76, R128: TEAR SENSE counts a tear once for each frame in the RUNNING pass record, and SPLICE counts a
new boundary that the reel's map takes, by a split or, at a segment's first frame, by its splice-start flag; with 32
segments a split is not made, and it counts an unrecorded splice instead and raises SEGMENT TABLE FULL; a splice already
known leaves the map. A frame that a slot holds before its repair gathers a TEAR or SPLICE record behind the sensor records
of its list, once a kind; in a list of 24 it takes the flag DEFECT OVERFLOW, which is raised. Rests also on the model's own
choices or readings, log entry 83. -/
def Obligations.TearsAndSplicesAreCounted : Prop :=
  ∀ (s : State) (st : StationId) (i count f : Nat) (r : Reel) (g : Segment), s.powered = true → Rested s →
    s.reelAt (.chamber st.val) = some i → s.reel? i = some r → frameOfCount r.segments count = some f →
    segmentAt r.segments f = some g → (s.station st).state = .running →
    let t := s.station st
    let torn : State := ({ s.silent with stations := s.stations.set st { t with lastTear := some f } } : State).setReel i
      (some { r with
        history := r.history.map (fun p => if p.outcome = .running then { p with tears := p.tears + 1 } else p) })
    let known := g.first = f ∧ g.spliceStart = true
    (t.lastTear = some f → exec (.tearSense st count) s = .next s.silent)
    ∧ (s.slotOf st f = none →
      (t.lastTear ≠ some f → exec (.tearSense st count) s = .next torn)
      ∧ (g.first < f → r.segments.length < 32 →
        exec (.splice st count) s = .next (s.silent.setReel i (some { r with
          segments := r.segments.flatMap (fun h => if h.first < f ∧ f ≤ h.last then
            [{ h with last := f - 1 }, { h with first := f, spliceStart := true }] else [h])
          history := r.history.map (fun p =>
            if p.outcome = .running then { p with boundaries := p.boundaries + 1 } else p) })))
      ∧ (g.first < f → 32 ≤ r.segments.length →
        exec (.splice st count) s = .next ((s.silent.setReel i (some { r with history := r.history.map (fun p =>
            if p.outcome = .running then { p with unrecorded := p.unrecorded + 1 } else p) })).raise .segmentTableFull
              { station := some st, reel := some i, frame := some f }))
      ∧ (g.first = f → g.spliceStart = false →
        exec (.splice st count) s = .next (s.silent.setReel i (some { r with
          segments := r.segments.map (fun h => if h.first = f then { h with spliceStart := true } else h)
          history := r.history.map (fun p =>
            if p.outcome = .running then { p with boundaries := p.boundaries + 1 } else p) })))
      ∧ (known → exec (.splice st count) s = .next s.silent))
    ∧ (∀ (k : Nat) (x : Slot), s.slotOf st f = some k → s.slot? k = some x →
        (x.state = .filling ∨ x.state = .waiting ∨ x.state = .queued) →
      let gathered : DefectKind → FrameStore := fun kind => { s.store with slots := s.store.slots.setIfInBounds k { x with
        defects := x.defects.filter (fun d => d.kind != .host)
          ++ [{ kind := kind, span := none, count := 0, outcome := .marked }]
          ++ x.defects.filter (fun d => d.kind == .host) } }
      let overflowing : FrameStore := { s.store with slots := s.store.slots.setIfInBounds k { x with
        flags := { x.flags with overflow := true } } }
      (x.defects.length < 24 →
        (t.lastTear ≠ some f → (∀ d ∈ x.defects, d.kind ≠ .tear) →
          exec (.tearSense st count) s = .next { torn with store := gathered .tear })
        ∧ (known → (∀ d ∈ x.defects, d.kind ≠ .splice) →
          exec (.splice st count) s = .next { s.silent with store := gathered .splice }))
      ∧ (t.lastTear ≠ some f → (∃ d ∈ x.defects, d.kind = .tear) → exec (.tearSense st count) s = .next torn)
      ∧ (∀ b, 24 ≤ x.defects.length → (∀ d ∈ x.defects, d.kind ≠ .splice) → known → (s.order st).state ≠ .closed →
          (s.order st).body = some b →
        exec (.splice st count) s = .next (({ s.silent with store := overflowing } : State).raise .defectOverflow
          { station := some st, reel := b.reel, frame := some f })))

/-- R84, R85: BREAK of a station that rewinds or stands THREADED sends SAFE, makes it BROKEN with its film unidentified and
its reel in REVERIFY, and raises FILM BREAK; SEIZE sends SAFE, makes the station SEIZED with the fault names reported, and
raises STATION SEIZED. R84, R85, R94, R96: BREAK and SEIZE of a RUNNING station abandon the capture in flight, whose slot is
FREE again; the lane is FREE, or granted to the head of the wait list with that station's tenure; the ACTIVE work order is
PAUSED with every other field of it kept; the perforation filter of a station at speed is cleared (R73); and the reel's
record keeps all but the custody a BREAK sets. A station that cannot break takes no BREAK, and a SEIZED one only adds the
names. Rests also on the model's own choices or readings, log entry 35. -/
def Obligations.FaultsStopTheStation : Prop :=
  (∀ (s : State) (st : StationId) (i : Nat) (r : Reel), s.powered = true → Rested s →
    s.reelAt (.chamber st.val) = some i → s.reel? i = some r → s.laneOf st = none → s.lanes.waitList = [] →
    (∀ l, (s.lane l).unmark = s.lane l) → (s.station st).inFlight = none → (s.order st).state = .closed →
    let t := s.station st
    ((t.state = .threaded ∨ t.state = .rewinding) → exec (.filmBreak st) s = .next ((({ s with
        sent := [.station st .safe]
        stations := s.stations.set st { t with
          state := .broken, motion := .stopped, threaded := false, stopPending := .none, tagRead := none
          markRead := none } } : State).setReel i (some { r with custody := .reverify })).raise .filmBreak
            { station := some st, reel := some i, frame := t.lastGate }))
    ∧ ((t.state = .empty ∨ t.state = .loaded ∨ t.state = .broken ∨ t.state = .seized) →
        exec (.filmBreak st) s = .next s.silent)
    ∧ (∀ b : Byte, FaultName.reported b ∉ t.faults → (t.state = .empty ∨ t.state = .loaded ∨ t.state = .threaded) →
        s.lanes.source.assigned ≠ some st →
        exec (.seize st [b]) s = .next (({ s with
          sent := [.station st .safe]
          stations := s.stations.set st { t with
            state := .seized, motion := .stopped, faults := t.faults ++ [.reported b] } } : State).raise .stationSeized
              { station := some st, reel := some i }))
    ∧ (∀ b : Byte, FaultName.reported b ∉ t.faults → t.state = .seized → exec (.seize st [b]) s = .next { s.silent with
        stations := s.stations.set st { t with faults := t.faults ++ [.reported b] } }))
  ∧ (∀ (s : State) (st : StationId) (l m : LaneId) (i f k : Nat) (r : Reel) (x : Slot) (h : Hold) (b : Byte),
    s.powered = true → Rested s → s.reelAt (.chamber st.val) = some i → s.reel? i = some r →
    (s.station st).state = .running → (s.station st).inFlight = some f → (s.order st).state = .active →
    l ≠ m → h.station = st → s.lane l = { hold := some h, carriage := some { station := st, frame := f, slot := k } } →
    (∀ h', (s.lane m).hold = some h' → h'.station ≠ st ∧ h'.release ≠ .tenure) → s.slot? k = some x →
    (∀ u, (s.station u).state ≠ .starved ∧ (s.station u).state ≠ .loopback) → FaultName.reported b ∉ (s.station st).faults →
    let filter := if (s.station st).motion = .atSpeed then Filter.clear else (s.station st).filter
    let stopped : State → Prop := fun t =>
      t.sent = [.station st .safe] ∧ t.slot? k = some { Slot.free with planes := x.planes }
      ∧ (∀ j, j ≠ k → t.slot? j = s.slot? j) ∧ t.store.queue = s.store.queue
      ∧ t.orders = s.orders.set st { s.order st with state := .paused } ∧ (∀ j, j ≠ i → t.reel? j = s.reel? j)
      ∧ (∀ u, u ≠ st → t.station u = s.station u) ∧ t.stk = s.stk ∧ t.engine = s.engine ∧ t.delivery = s.delivery
      ∧ t.snapshot = s.snapshot ∧ SameSettings s t ∧ FlagsKept s t ∧ t.lane m = s.lane m
      ∧ (s.lanes.waitList = [] → t.lane l = { hold := none, carriage := none } ∧ t.lanes.waitList = [])
      ∧ (∀ (u : StationId) (rest : List StationId), s.lanes.waitList = u :: rest → u ≠ st → st ∉ rest →
          (s.lane m).hold ≠ none →
        t.lane l = { hold := some { station := u, tenure := (s.station u).tenure, release := .none }, carriage := none }
          ∧ t.lanes.waitList = rest)
    (s.lanes.waitList = [] ∨ (s.lane m).hold ≠ none →
      (∃ t, exec (.filmBreak st) s = .next t ∧ stopped t ∧ t.flag .filmBreak = true
        ∧ t.station st = { s.station st with
            state := .broken, motion := .stopped, threaded := false, stopPending := .none, inFlight := none
            filter := filter, tagRead := none, markRead := none }
        ∧ t.reel? i = some { r with custody := .reverify })
      ∧ ∃ t, exec (.seize st [b]) s = .next t ∧ stopped t ∧ t.flag .stationSeized = true
        ∧ t.station st = { s.station st with
            state := .seized, motion := .stopped, filter := filter, inFlight := none
            faults := (s.station st).faults ++ [.reported b] }
        ∧ t.reel? i = some r))

/-! ### Work orders -/

/-- R103, R104: OPEN WORK ORDER for the VERIFIED reel of a THREADED station opens a work order over the range, its last
frame clamped to the reel's last, with next-capture at the first PICTURE frame of the range, next-deliver at the first frame
that is not LEADER, and the cue list as given; the reel's record names the station, and the station's tear frame and
shrinkage window are cleared. A cue list is taken when it holds at most 8 cues whose frames rise, lie in the range as taken
and are PICTURE frames, and refused MALFORMED otherwise; at its pass limit a reel is refused PASS LIMIT with the alert.
R105: OPEN WORK ORDER with a frame count opens a loopback work order at a LOOPBACK station over frames 0 to the count less
one, the count clamped to 1 to 1000, with a cue list tested over that range. R106: SET CUES replaces the cue list of a work
order, of a reel or in loopback, by a list that passes the same tests, and is refused MALFORMED otherwise; without a work
order it is WRONG STATE. Rests also on the model's own choices or readings, log entries 27, 37 and 54. -/
def Obligations.OpeningWorkOrders : Prop :=
  let fits : (Nat → Prop) → Nat → Nat → List Cue → Prop := fun picture first last cues =>
    cues.Pairwise (fun x y => x.frame < y.frame) ∧ ∀ c ∈ cues, first ≤ c.frame ∧ c.frame ≤ last ∧ picture c.frame
  (∀ (s : State) (n : RequestNumber) (st : StationId) (i first last : Nat) (p : Profile) (r : Reel) (cues : Option (List Cue)),
    Calm s →
    s.reel? i = some r → r.location = .chamber st.val → r.custody = .verified → (s.station st).state = .threaded →
    (s.order st).state = .closed → (∀ x ∈ s.store.slots.toList, x.state = .free ∨ x.order ≠ some st) →
    first < r.length → first ≤ last →
    let fields : OpenFields := { station := st.val, subject := .reel i first last, profile := p, cues := cues }
    let top := min last (r.length - 1)
    let given : List Cue := cues.getD []
    let taken := given.length ≤ 8 ∧
      fits (fun f => (segmentAt r.segments f).any (fun g => g.kind == .picture) = true) first top given
    let lowest : (SegmentKind → Bool) → Nat → Prop := fun want f =>
      first ≤ f ∧ f ≤ top ∧ (segmentAt r.segments f).any (fun g => want g.kind) = true
        ∧ ∀ h, first ≤ h → h < f → (segmentAt r.segments h).any (fun g => want g.kind) = false
    (r.history.length < r.passLimit → taken → ∀ capture deliver, isSegmentMap r.segments r.length = true →
        lowest (fun k => k == .picture) capture → lowest (fun k => k != .leader) deliver →
      let body : OrderBody := { reel := some i, first := first, last := top, nextCapture := capture
                                nextDeliver := deliver, lastCaptured := none }
      exec (.openWorkOrder n fields) s = .next ((({ s.silent with
        orders := s.orders.set st
          { state := .open, ending := .none, requested := p, cues := given, passBegun := false, body := some body }
        stations := s.stations.set st { s.station st with lastTear := none, window := [] } } : State).setReel i
          (some { r with order := some st })).answered (.openWorkOrder fields) n
            (if last = top then .done (.orderOpened first top capture deliver)
              else .doneClamped [{ position := 3, value := top }] (.orderOpened first top capture deliver))))
    ∧ (¬ taken → exec (.openWorkOrder n fields) s =
        .next (s.silent.answered (.openWorkOrder fields) n (.refused .malformed)))
    ∧ (r.passLimit ≤ r.history.length → taken → exec (.openWorkOrder n fields) s =
        .next ((s.silent.raise .passLimitReached { station := some st, reel := some i }).answered (.openWorkOrder fields) n
          (.refused .passLimit))))
  ∧ (∀ (s : State) (n : RequestNumber) (st : StationId), Calm s →
    (∀ (count : Nat) (p : Profile) (cues : Option (List Cue)), (s.station st).state = .loopback →
        (s.order st).state = .closed → (∀ x ∈ s.store.slots.toList, x.state = .free ∨ x.order ≠ some st) →
      let fields : OpenFields := { station := st.val, subject := .loopback count, profile := p, cues := cues }
      let frames := max 1 (min count 1000)
      let given : List Cue := cues.getD []
      let taken := given.length ≤ 8 ∧ fits (fun _ => True) 0 (frames - 1) given
      let body : OrderBody := { reel := none, first := 0, last := frames - 1, nextCapture := 0, nextDeliver := 0
                                lastCaptured := none }
      (taken → exec (.openWorkOrder n fields) s = .next (({ s.silent with
        orders := s.orders.set st
          { state := .open, ending := .none, requested := p, cues := given, passBegun := false, body := some body }
        stations := s.stations.set st { s.station st with lastTear := none, window := [] } } : State).answered
          (.openWorkOrder fields) n (if count = frames then .done (.orderOpened 0 (frames - 1) 0 0)
            else .doneClamped [{ position := 1, value := frames }] (.orderOpened 0 (frames - 1) 0 0))))
      ∧ (¬ taken → exec (.openWorkOrder n fields) s =
          .next (s.silent.answered (.openWorkOrder fields) n (.refused .malformed))))
    ∧ (∀ (b : OrderBody) (cues : List Cue), (s.order st).state ≠ .closed → (s.order st).body = some b →
      let taken := cues.length ≤ 8 ∧ fits (fun f => ∀ i, b.reel = some i →
        ∃ r, s.reel? i = some r ∧ (segmentAt r.segments f).any (fun g => g.kind == .picture) = true) b.first b.last cues
      (taken → exec (.setCues n st.val cues) s = .next (({ s.silent with
        orders := s.orders.set st { s.order st with cues := cues } } : State).answered (.setCues st.val cues) n
          (.done .empty)))
      ∧ (¬ taken → exec (.setCues n st.val cues) s =
          .next (s.silent.answered (.setCues st.val cues) n (.refused .malformed))))
    ∧ ((s.order st).state = .closed → ∀ cues : List Cue, cues.length ≤ 8 →
      exec (.setCues n st.val cues) s = .next (s.silent.answered (.setCues st.val cues) n (.refused .wrongState)))
    ∧ (∀ cues : List Cue, 8 < cues.length →
      exec (.setCues n st.val cues) s = .next (s.silent.answered (.setCues st.val cues) n (.refused .malformed))))

/-- R77 to R79, R107: START of an OPEN or PAUSED work order at a THREADED or HALTED station makes it ACTIVE; the slowest of
the requested profile, the transport's fastest, the one the reel's grade permits and the current one becomes current; and
the station is sent PREROLL for next-capture at it. A pending fallback takes effect first, with PROFILE FALLBACK. With
nothing left to capture the work order is DRAINING with end COMPLETED and nothing is sent. At a LOOPBACK station the source
becomes FEEDING with the capture of next-capture begun on a FREE lane, or WAITING, with the station on the wait list, where
no lane is FREE. Unless the channel is IDLE and next-deliver rests on a GAP frame no delivery begins (R169). A station that
may not start, and a work order that is ACTIVE, DRAINING or CLOSED, are refused WRONG STATE. Rests also on the model's own
choices or readings, log entries 21, 25, 39 and 40. -/
def Obligations.StartingAWorkOrderPrerolls : Prop :=
  ∀ (s : State) (n : RequestNumber) (st : StationId), Calm s →
    let w := s.order st
    let activated : State := { s with orders := s.orders.set st { w with state := .active } }
    let noTest := s.delivery.channel = .sending ∨ ∀ f, activated.item st ≠ some (.black f)
    ((w.state = .active ∨ w.state = .draining ∨ w.state = .closed) →
      exec (.start n st.val) s = .next (s.silent.answered (.start st.val) n (.refused .wrongState)))
    ∧ (∀ b : OrderBody, (w.state = .open ∨ w.state = .paused) → w.body = some b →
      (∀ (i : Nat) (r : Reel), b.reel = some i → s.reel? i = some r →
        (r.custody ≠ .verified ∨ ((s.station st).state ≠ .threaded ∧ (s.station st).state ≠ .halted)
            ∨ (∀ c, (s.station st).capabilities = some c → c.gauges.has r.gauge = false) →
          exec (.start n st.val) s = .next (s.silent.answered (.start st.val) n (.refused .wrongState)))
        ∧ (∀ c : Capabilities, r.custody = .verified →
            ((s.station st).state = .threaded ∨ (s.station st).state = .halted) →
            (s.station st).capabilities = some c → c.gauges.has r.gauge = true → (s.station st).inFlight = none →
          let slowest := (w.requested.slower c.fastest).slower (permittedProfile r.grade)
          let profile := match (s.station st).profile with
            | some p => slowest.slower p
            | none => slowest
          (noTest → (s.station st).fallback = none → b.nextCapture ≤ b.last →
            exec (.start n st.val) s = .next (({ activated with
              sent := [.station st (.preroll (countOfFrame r.segments b.nextCapture) profile)]
              stations := s.stations.set st { s.station st with
                profile := some profile, fallback := none, motion := .prerolling, filter := .clear } } : State).answered
                  (.start st.val) n (if profile = w.requested then .done (.profileTaken profile)
                    else .doneClamped [] (.profileTaken profile))))
          ∧ (∀ q, noTest → (s.station st).fallback = some q → b.nextCapture ≤ b.last →
            ∃ t, exec (.start n st.val) s = .next t ∧ t.order st = { w with state := .active }
              ∧ (t.station st).profile = some (profile.slower q) ∧ (t.station st).fallback = none
              ∧ (t.station st).motion = .prerolling ∧ t.flag .profileFallback = true
              ∧ t.sent = [.station st (.preroll (countOfFrame r.segments b.nextCapture) (profile.slower q))]
              ∧ t.delivery = s.delivery
              ∧ RepliedOnce t (.start st.val) n (if profile.slower q = w.requested then
                  .done (.profileTaken (profile.slower q)) else .doneClamped [] (.profileTaken (profile.slower q))))
          ∧ (noTest → b.last < b.nextCapture → b.lastCaptured = none → b.nextDeliver ≤ b.last →
            exec (.start n st.val) s = .next (({ s.silent with
              orders := s.orders.set st { w with state := .draining, ending := .completed } } : State).answered
                (.start st.val) n (.done (.profileTaken w.requested))))))
      ∧ (b.reel = none → (s.station st).state ≠ .loopback →
        exec (.start n st.val) s = .next (s.silent.answered (.start st.val) n (.refused .wrongState)))
      ∧ (b.reel = none → (s.station st).state = .loopback → b.nextCapture ≤ b.last →
          s.lanes.source.assigned = some st → (s.station st).stopPending = .none → (s.station st).inFlight = none →
        (∀ k, s.lanes.waitList = [] → s.lanes.laneA = .free → s.lanes.laneB.heldBy st = false → s.freeSlot = some k →
          ∃ t, exec (.start n st.val) s = .next t ∧ t.order st = { w with state := .active }
            ∧ t.lanes.source = { assigned := some st, state := .feeding, intervalOver := false }
            ∧ t.lanes.laneA = { hold := some { station := st, tenure := (s.station st).tenure, release := .none }
                                carriage := some { station := st, frame := b.nextCapture, slot := k } }
            ∧ (t.station st).inFlight = some b.nextCapture ∧ t.lanes.waitList = []
            ∧ (∃ x, t.slot? k = some x ∧ x.state = .filling ∧ x.order = some st ∧ x.frame = some b.nextCapture
                ∧ x.flags.test = true)
            ∧ t.retained = s.retained ∧ t.sent = [] ∧ t.delivery = s.delivery
            ∧ RepliedOnce t (.start st.val) n (.done (.profileTaken .standard)))
        ∧ ((∀ l, (s.lane l).hold ≠ none) → s.laneOf st = none → st ∉ s.lanes.waitList →
          ∃ t, exec (.start n st.val) s = .next t ∧ t.order st = { w with state := .active }
            ∧ t.lanes.source = { assigned := some st, state := .waiting, intervalOver := false }
            ∧ t.lanes.waitList = s.lanes.waitList ++ [st] ∧ t.store = s.store ∧ t.flag .stationStarved = true
            ∧ t.delivery = s.delivery
            ∧ RepliedOnce t (.start st.val) n (.done (.profileTaken .standard)))))

/-- R83, R108, R109, R112, R114: PAUSE makes an ACTIVE work order PAUSED and STOP makes
it DRAINING with end STOPPED, with the stop pending and RAMP DOWN sent at a station that captures; with no capture in flight
the station enters HALTED at once and gives up its lane and its place on the wait list (R83, R96), the newest frame of a
stopped work order has no successor, and a stopped one that delivery has passed closes. STOP makes an OPEN one close STOPPED
at once, and
ABORT closes any with end ABORTED; each is refused WRONG STATE where its rule says so. -/
def Obligations.WorkOrdersPauseStopAndAbort : Prop :=
  ∀ (s : State) (n : RequestNumber) (st : StationId), Calm s →
    let w := s.order st
    (w.state = .active → (s.station st).state = .broken → exec (.pause n st.val) s = .next (({ s.silent with
        orders := s.orders.set st { w with state := .paused } } : State).answered (.pause st.val) n (.done .empty)))
    ∧ (w.state = .active → (s.station st).state = .running → (s.station st).motion = .atSpeed →
        (s.station st).profile ≠ some .step → (s.station st).inFlight ≠ none →
        ∃ t, exec (.pause n st.val) s = .next t ∧ t.order st = { w with state := .paused }
          ∧ (t.station st).state = .running ∧ (t.station st).stopPending = .pause ∧ (t.station st).motion = .ramping
          ∧ (t.station st).inFlight = (s.station st).inFlight ∧ t.sent = [.station st .rampDown]
          ∧ t.store = s.store ∧ t.retained = s.retained ∧ RepliedOnce t (.pause st.val) n (.done .empty))
    ∧ (∀ b : OrderBody, LanesExclusive s → w.state = .active → w.body = some b → (s.station st).inFlight = none →
        ((s.station st).state = .running ∨ (s.station st).state = .starved
          ∨ (((s.station st).state = .threaded ∨ (s.station st).state = .halted) ∧ (s.station st).motion = .prerolling)) →
        let halted : Station := { s.station st with
          state := .halted, motion := .stopped, stopPending := .none
          filter := if (s.station st).state = .running ∧ (s.station st).motion = .atSpeed then .clear
            else (s.station st).filter }
        let ramped : List Emission := if (s.station st).profile ≠ some .step
            ∧ ((s.station st).motion = .atSpeed ∨ (s.station st).motion = .prerolling) then [.station st .rampDown] else []
        let stopped : State → Prop := fun t => t.station st = halted ∧ t.laneOf st = none ∧ st ∉ t.lanes.waitList
          ∧ (∀ l h, s.laneOf st = some l → (t.lane l).hold = some h → h.station ∈ s.lanes.waitList)
          ∧ ((∀ u ∈ s.lanes.waitList, u ≠ st → (s.station u).state ≠ .starved ∧ (s.station u).state ≠ .loopback) →
              t.sent = ramped ∧ t.retained = s.retained)
        (∃ t, exec (.pause n st.val) s = .next t ∧ t.order st = { w with state := .paused } ∧ stopped t
          ∧ RepliedOnce t (.pause st.val) n (.done .empty))
        ∧ (∀ c, b.lastCaptured = some c → b.nextDeliver ≤ c →
          ∃ t, exec (.stop n st.val) s = .next t ∧ t.order st = { w with state := .draining, ending := .stopped }
            ∧ stopped t
            ∧ (∀ k x, s.slotOf st c = some k → s.slot? k = some x → x.successor = some .awaited →
                ∃ y, t.slot? k = some y ∧ y.successor = some .absent ∧ y.planes = x.planes)
            ∧ RepliedOnce t (.stop st.val) n (.done .empty))
        ∧ ((∀ c, b.lastCaptured = some c → c < b.nextDeliver) →
          ∃ t, exec (.stop n st.val) s = .next t ∧ t.order st = { w with state := .closed, ending := .stopped }
            ∧ (t.station st).state = .rewinding ∧ t.flag .workOrderEnded = true
            ∧ RepliedOnce t (.stop st.val) n (.done .empty)))
    ∧ (w.state = .active → (s.station st).state = .running → (s.station st).motion = .atSpeed →
        (s.station st).profile ≠ some .step → (s.station st).inFlight ≠ none →
        ∃ t, exec (.stop n st.val) s = .next t ∧ t.order st = { w with state := .draining, ending := .stopped }
          ∧ (t.station st).state = .running ∧ (t.station st).stopPending = .drain ∧ (t.station st).motion = .ramping
          ∧ (t.station st).inFlight = (s.station st).inFlight ∧ t.sent = [.station st .rampDown]
          ∧ t.store = s.store ∧ t.retained = s.retained ∧ RepliedOnce t (.stop st.val) n (.done .empty))
    ∧ (w.state = .paused → exec (.pause n st.val) s = .next (s.silent.answered (.pause st.val) n (.done .empty)))
    ∧ ((w.state = .open ∨ w.state = .draining ∨ w.state = .closed) →
        exec (.pause n st.val) s = .next (s.silent.answered (.pause st.val) n (.refused .wrongState)))
    ∧ ((w.state = .draining ∨ w.state = .closed) →
        exec (.stop n st.val) s = .next (s.silent.answered (.stop st.val) n (.refused .wrongState)))
    ∧ (∀ b, w.state = .open → w.body = some b → b.lastCaptured = none → (s.station st).inFlight = none →
        (s.station st).state = .threaded → (s.station st).motion = .stopped →
        ∃ t, exec (.stop n st.val) s = .next t ∧ t.order st = { w with state := .closed, ending := .stopped }
          ∧ t.flag .workOrderEnded = true ∧ RepliedOnce t (.stop st.val) n (.done .empty)
          ∧ (t.station st).state = .rewinding ∧ Emission.station st .rewind ∈ t.sent)
    ∧ (w.state = .closed → exec (.abort n st.val) s = .next (s.silent.answered (.abort st.val) n (.refused .wrongState)))
    ∧ (w.state ≠ .closed → ∃ t, exec (.abort n st.val) s = .next t
        ∧ t.order st = { w with state := .closed, ending := .aborted } ∧ t.flag .workOrderEnded = true
        ∧ (t.station st).inFlight = none ∧ (t.station st).profile = none
        ∧ (∀ k x, t.slot? k = some x → x.order = some st →
            x.state = .free ∨ ((x.state = .analysing ∨ x.state = .sending) ∧ x.freeAtEnd = true))
        ∧ (∀ b i r, w.body = some b → b.reel = some i → s.reel? i = some r →
            (∀ u b', u ≠ st → (s.order u).body = some b' → b'.reel ≠ some i) →
            ∃ r', t.reel? i = some r' ∧ r'.order = none ∧ ∀ p ∈ r'.history, p.outcome ≠ .running)
        ∧ RepliedOnce t (.abort st.val) n (.done .empty))

/-- R30, R35, R43, R62, R100, R116, R131, R133, R155, R176, R184, R186: the other queries answer from the records as they
stand and change nothing: QUERY STAGING and QUERY STATION with the reel, its required dwell or custody and the running
figure, QUERY STORE with the slots of each state, the repair queue and the slots of a station in ascending frame order,
QUERY DELIVERY with what each work order has to deliver, and IDENTIFY with the part's name. A station above 3 and a cell
above 639 are MALFORMED. Rests also on the model's own choices or readings, log entry 24. -/
def Obligations.QueriesAnswerAndChangeNothing : Prop :=
  ∀ (s : State) (n : RequestNumber), Calm s →
    let tells := fun (r : Request) (a : Answer) => s.silent.answered r n (.done a)
    let stored := fun (slots : Option (List SlotReport)) => Answer.storeReport
      ([SlotState.free, .filling, .waiting, .queued, .analysing, .ready, .sending, .kept].map
        (fun x => s.store.slots.toList.countP (fun y => y.state == x)))
      (s.store.queue.filterMap (fun k => (s.slot? k).bind (fun x => x.order.bind (fun st => x.frame.map (fun f => (st, f))))))
      (s.engine.analysis.map (fun a => (a.station, a.frame))) (s.delivery.message.map (fun m => (m.station, m.frame))) slots
    (∀ c, c < 640 → exec (.queryShelf n (.cell c)) s =
      .next (tells (.queryShelf (.cell c)) (.shelfCell (zoneOfCell c) (s.cellState c) (s.homeReel c))))
    ∧ (∀ z : ReelClass, exec (.queryShelf n (.zone z.zone)) s = .next (tells (.queryShelf (.zone z.zone))
      (.shelfZone (z.cells.countP (fun c => s.cellState c == .free))
        (z.cells.countP (fun c => s.cellState c == .reserved)) (z.cells.countP (fun c => s.cellState c == .occupied))
        (z.cells.find? (fun c => s.cellState c == .free)))))
    ∧ (∃ l : List StagingReport, exec (.queryStaging n) s = .next (tells .queryStaging (.stagingList l))
        ∧ l.length = 8 ∧ ∀ p x, s.position? p = some x →
          let reel := if x.state = .occupied then s.reelAt (.staging p) else none
          l[p]? = some { state := x.state, reel := reel, dwell := x.dwell, announced := x.announced
                         required := (reel.bind s.reel?).map (fun r => s.retained.dwell.of r.cameFrom) })
    ∧ exec (.queryLift n) s = .next (tells .queryLift (.liftReport s.stk.lift s.stk.carriage s.stk.cause s.stk.forwarded
        s.stk.queue))
    ∧ (∀ st : StationId, exec (.queryStation n st.val) s = .next (tells (.queryStation st.val)
        (let t := s.station st
         .stationReport t (if t.window = [] then none else some (roundAway t.window.sum t.window.length))
          (s.reelAt (.chamber st.val)) (((s.reelAt (.chamber st.val)).bind s.reel?).map (·.custody))
          (if s.lanes.laneA.heldBy st then some .a else if s.lanes.laneB.heldBy st then some .b else none))))
    ∧ exec (.queryLanes n) s = .next (tells .queryLanes (.laneReport s.lanes.laneA s.lanes.laneB s.lanes.waitList))
    ∧ (∀ st : StationId, exec (.queryWorkOrder n st.val) s = .next (tells (.queryWorkOrder st.val) (.orderReport (s.order st)
        (s.store.slots.toList.countP (fun x => decide (x.state ≠ .free ∧ x.order = some st))))))
    ∧ exec (.queryStore n none) s = .next (tells (.queryStore none) (stored none))
    ∧ (∀ st : StationId, ∃ l, exec (.queryStore n (some st.val)) s = .next (tells (.queryStore (some st.val)) (stored (some l)))
        ∧ l.Pairwise (fun x y => x.frame ≤ y.frame)
        ∧ ∀ e, e ∈ l ↔ ∃ k x, s.slot? k = some x ∧ x.state ≠ .free ∧ x.order = some st ∧ e =
            { slot := k, state := x.state, frame := x.frame.getD 0, predecessor := x.predecessor, successor := x.successor
              mode := x.mode, defects := x.defects.length, flags := x.flags, freeAtEnd := x.freeAtEnd })
    ∧ exec (.queryDetector n) s = .next (tells .queryDetector (.detectorReport s.engine.settings s.engine.analysis))
    ∧ (∀ i r, s.reel? i = some r → exec (.queryGradeList n i) s =
      .next (tells (.queryGradeList i) (.gradeList r.keyframes s.keyframesUsed (2048 - s.keyframesUsed))))
    ∧ (∃ stations, exec (.queryDelivery n) s = .next (tells .queryDelivery (.deliveryReport s.delivery.channel
        s.delivery.lastServed (s.delivery.message.map (fun m => (m.station, m.frame, m.treatment))) stations))
      ∧ stations.length = 4 ∧ ∀ st : StationId, ∃ e, stations[st.val]? = some e ∧
        let w := s.order st
        let offers := w.state = .active ∨ w.state = .paused ∨ w.state = .draining
        let held := (w.body.bind (fun b => s.slotOf st b.nextDeliver)).bind s.slot?
        e.state = w.state ∧ e.nextDeliver = w.body.map (·.nextDeliver)
        ∧ (e.hasItem = true ↔ offers ∧ ∃ b g, w.body = some b ∧ b.first ≤ b.nextDeliver ∧ b.nextDeliver ≤ b.last
            ∧ segmentAt (s.mapOf b) b.nextDeliver = some g
            ∧ (g.kind = .gap ∨ (g.kind = .picture ∧ ∃ x, held = some x ∧ x.state = .ready)))
        ∧ (e.hasItem = false → offers → e.slotState = held.map (·.state))
        ∧ (e.hasItem = true ∨ ¬ offers → e.slotState = none))
    ∧ (∃ pending, exec (.queryAlerts n) s = .next (tells .queryAlerts (.alertReport s.link.word pending s.link.mask
        s.link.enable s.link.rejection))
      ∧ ∀ f : AlertFlag, pending.getLsbD f.number = (s.link.pending[f.number]).isSome)
    ∧ exec (.identify n) s = .next (tells .identify (.identity "Jantris 5210 Restoration Suite Controller"
        s.link.retainedPassed s.link.clock
        (([0, 1, 2, 3] : List StationId).map (fun st => decide ((s.station st).state = .detached)))))
    ∧ (∀ k, 4 ≤ k → exec (.queryStation n k) s = .next (s.silent.answered (.queryStation k) n (.refused .malformed))
      ∧ exec (.queryWorkOrder n k) s = .next (s.silent.answered (.queryWorkOrder k) n (.refused .malformed))
      ∧ exec (.queryStore n (some k)) s = .next (s.silent.answered (.queryStore (some k)) n (.refused .malformed)))
    ∧ (∀ c, 640 ≤ c → exec (.queryShelf n (.cell c)) s =
      .next (s.silent.answered (.queryShelf (.cell c)) n (.refused .malformed)))

/-! ### The Frame Store, the Repair Engine, grading and delivery -/

/-- R23, R81, R90, R92 to R94, R110, R120: CAPTURE STORED ends a lane's capture. The slot is WAITING with its planes, with
no frame before it and its successor awaited; the lane carries nothing and its tenure has fallen by one; last-captured and
next-capture have moved on; the RUNNING pass record counts the frame; and a continuous station goes on, keeping the lane
while no station waits. With a station waiting, a tenure that has run out or a release pending gives the lane up: the head
of the wait list holds it with its own tenure, and the station that yields joins the tail. A lane that carries nothing has
nothing to end. R110: the last capturable frame of the range makes the work order DRAINING with end COMPLETED, and the
station enters HALTED and gives up its lane; a cue at the frame raises CUE REACHED, and a PAUSE cue in mid range makes an
ACTIVE work order PAUSED and halts the station. R78, R81: a pending fallback takes effect at the completion, with RAMP DOWN
and PREROLL, and at STEP the station sends STEP. R87: the pattern frame is stored, the next frame is offered when the
interval has run out, and behind the last one the source is IDLE. Rests also on the model's own choices or readings, log
entries 12 and 50. -/
def Obligations.StoredCapturesAreHandedOn : Prop :=
  ∀ (s : State) (l : LaneId) (samples : List (Nat × Sample)), s.powered = true → Rested s →
    ((s.lane l).carriage = none → exec (.captureStored l samples) s = .next s.silent)
    ∧ (∀ (h : Hold) (st : StationId) (f k i : Nat) (b : OrderBody) (r : Reel) (x : Slot),
        MidPass s l h st f k i b r x →
      let stored : Planes := Planes.captured r.gauge.samples samples
      (h.release = .none → s.lanes.waitList = [] → (∀ f', f' + 1 = f → s.slotOf st f' = none) →
          (segmentAt r.segments (f + 1)).any (fun y => y.kind == .picture) = true →
        ∃ t, exec (.captureStored l samples) s = .next t
          ∧ t.slot? k = some { x with
              state := .waiting, planes := stored, predecessor := some .absent, successor := some .awaited }
          ∧ (∀ j, j ≠ k → t.slot? j = s.slot? j)
          ∧ t.lane l = { hold := some { h with tenure := h.tenure - 1 }, carriage := none }
          ∧ t.station st = { s.station st with inFlight := none }
          ∧ t.order st = { s.order st with
              body := some { b with lastCaptured := some f, nextCapture := s.capturableFrom b (f + 1) } }
          ∧ t.reel? i = some { r with
              history := r.history.map (fun p => if p.outcome = .running then { p with frames := p.frames + 1 } else p) }
          ∧ (∀ j, j ≠ i → t.reel? j = s.reel? j) ∧ t.link = s.link ∧ t.engine = s.engine ∧ t.delivery = s.delivery
          ∧ t.sent = [])
      ∧ (∀ (u : StationId) (rest : List StationId), s.lanes.waitList = u :: rest → (h.release ≠ .none ∨ h.tenure ≤ 1) →
          st ∉ s.lanes.waitList → (∀ m, m ≠ l → ∃ h', (s.lane m).hold = some h' ∧ h'.station ≠ st) →
          0 < (s.station u).tenure →
        ∃ t, exec (.captureStored l samples) s = .next t
          ∧ (t.lane l).hold = some { station := u, tenure := (s.station u).tenure, release := .none }
          ∧ t.lanes.waitList = rest ++ [st] ∧ t.laneOf st = none
          ∧ (t.station st).state = .running ∧ (t.station st).inFlight = none
          ∧ (t.order st).body = some { b with lastCaptured := some f, nextCapture := s.capturableFrom b (f + 1) }))
    ∧ ∀ (h : Hold) (st : StationId) (f k : Nat) (b : OrderBody) (x : Slot), Completing s l h st f k b x →
      let w := s.order st
      let u := s.station st
      let next := s.capturableFrom b (f + 1)
      let moved : OrderBody := { b with lastCaptured := some f, nextCapture := next }
      let kept : Lane := { hold := some { h with tenure := h.tenure - 1 }, carriage := none }
      let captured : Planes → State → Prop := fun planes t => ∃ y, t.slot? k = some y ∧ y.planes = planes
        ∧ (y.state = .waiting ∨ y.state = .queued ∨ y.state = .analysing)
      let counted : Reel → Reel := fun r => { r with
        history := r.history.map (fun p => if p.outcome = .running then { p with frames := p.frames + 1 } else p) }
      (∀ (i : Nat) (r : Reel), b.reel = some i → s.reel? i = some r → (u.state = .running ∨ u.state = .starved) →
        let stored := Planes.captured r.gauge.samples samples
        let halted : State → Prop := fun t =>
          t.station st = { u with
            state := .halted, motion := .stopped, stopPending := .none, inFlight := none
            filter := if u.state = .running ∧ u.motion = .atSpeed then .clear else u.filter }
          ∧ t.lane l = { hold := none, carriage := none }
          ∧ t.sent = if u.profile ≠ some .step ∧ (u.motion = .atSpeed ∨ u.motion = .prerolling)
              then [.station st .rampDown] else []
        (b.last < next → b.nextDeliver ≤ b.last → (w.state = .active ∨ w.state = .paused ∨ w.state = .draining) →
          ∃ t, exec (.captureStored l samples) s = .next t ∧ captured stored t ∧ t.reel? i = some (counted r)
            ∧ t.order st = { w with state := .draining, ending := .completed, body := some moved } ∧ halted t
            ∧ ((∃ c ∈ w.cues, c.frame = f) → t.flag .cueReached = true))
        ∧ (∀ a : CueAction, next ≤ b.last → w.state = .active → u.stopPending = .none → (∃ c ∈ w.cues, c.frame = f) →
            (∀ c ∈ w.cues, c.frame = f → c.action = a) →
            (a = .note → u.state = .running ∧ u.profile ≠ some .step ∧ u.fallback = none) →
          ∃ t, exec (.captureStored l samples) s = .next t ∧ captured stored t ∧ t.reel? i = some (counted r)
            ∧ t.flag .cueReached = true
            ∧ (a = .pause → t.order st = { w with state := .paused, body := some moved } ∧ halted t)
            ∧ (a = .note → t.order st = { w with body := some moved } ∧ t.station st = { u with inFlight := none }
                ∧ t.lane l = kept ∧ t.sent = []))
        ∧ (next ≤ b.last → w.state = .active → u.stopPending = .none → (∀ c ∈ w.cues, c.frame ≠ f) → u.state = .running →
            u.motion = .atSpeed →
          (∀ p, u.fallback = some p → u.profile ≠ some .step → s.reelAt (.chamber st.val) = some i →
            ∃ t, exec (.captureStored l samples) s = .next t ∧ captured stored t
              ∧ t.order st = { w with body := some moved } ∧ t.lane l = kept
              ∧ t.station st = { u with
                  profile := some p, fallback := none, motion := .prerolling, filter := .clear, inFlight := none }
              ∧ t.sent = [.station st .rampDown, .station st (.preroll (countOfFrame r.segments next) p)]
              ∧ t.flag .profileFallback = true
              ∧ t.reel? i = some { r with history := r.history.map (fun q =>
                  if q.outcome = .running then { q with frames := q.frames + 1, lowestProfile := p } else q) })
          ∧ (u.fallback = none → u.profile = some .step →
            ∃ t, exec (.captureStored l samples) s = .next t ∧ captured stored t ∧ t.reel? i = some (counted r)
              ∧ t.order st = { w with body := some moved } ∧ t.lane l = kept
              ∧ t.station st = { u with inFlight := none } ∧ t.sent = [.station st .step])))
      ∧ (b.reel = none → u.state = .loopback → w.state = .active → u.stopPending = .none → s.lanes.source.assigned = some st →
          s.lanes.source.state = .feeding → (∀ c ∈ w.cues, c.frame ≠ f) → b.nextDeliver ≤ b.last →
        (f < b.last → s.lanes.source.intervalOver = false →
          ∃ t, exec (.captureStored l samples) s = .next t ∧ captured (patternPlanes f) t
            ∧ t.order st = { w with body := some { moved with nextCapture := f + 1 } }
            ∧ t.station st = { u with inFlight := none } ∧ t.lane l = kept ∧ t.lanes.source = s.lanes.source
            ∧ t.retained = s.retained ∧ t.sent = [])
        ∧ (∀ j, f < b.last → s.lanes.source.intervalOver = true → s.freeSlot = some j →
          ∃ t, exec (.captureStored l samples) s = .next t ∧ captured (patternPlanes f) t
            ∧ t.order st = { w with body := some { moved with nextCapture := f + 1 } }
            ∧ t.station st = { u with inFlight := some (f + 1) }
            ∧ t.lane l = { kept with carriage := some { station := st, frame := f + 1, slot := j } }
            ∧ (∃ y, t.slot? j = some y ∧ y.state = .filling ∧ y.order = some st ∧ y.frame = some (f + 1)
                ∧ y.flags.test = true)
            ∧ t.lanes.source = { s.lanes.source with intervalOver := false } ∧ t.retained = s.retained ∧ t.sent = [])
        ∧ (f = b.last →
          ∃ t, exec (.captureStored l samples) s = .next t ∧ captured (patternPlanes f) t
            ∧ t.order st = { w with
                state := .draining, ending := .completed, body := some { moved with nextCapture := b.last + 1 } }
            ∧ t.station st = { u with inFlight := none } ∧ t.lane l = { hold := none, carriage := none }
            ∧ t.lanes.source = { s.lanes.source with state := .idle } ∧ t.retained = s.retained ∧ t.sent = []))

/-- R120 to R124: at CAPTURE STORED the frame's predecessor is REPAIRED where the slot of the frame before is READY, SENDING
or KEPT, and PENDING where it is not yet repaired; that slot's awaited successor is CAPTURED. A WAITING slot whose successor
is captured or absent and whose predecessor is repaired or absent is eligible: it is QUEUED at the tail of the repair queue,
ONE-SIDED when a neighbour is absent, and with the engine free it is ANALYSING at once, the repair mode of its segment and
the detector settings copied. A frame before a GAP or LEADER frame needs no successor; STOP declares that of the newest
frame absent. At ANALYSIS END the slot before learns that its successor is repaired and is freed when KEPT, the slot behind
that its predecessor is, and the head of the repair queue starts its analysis. Rests also on the model's own choices or
readings, log entries 12 and 56. -/
def Obligations.EligibleFramesAreRepairedInTurn : Prop :=
  (∀ (s : State) (l : LaneId) (samples : List (Nat × Sample)) (h : Hold) (st : StationId) (f k i : Nat) (b : OrderBody)
      (r : Reel) (x : Slot) (g : Segment), s.powered = true → Rested s → MidPass s l h st f k i b r x →
    h.release = .none → s.lanes.waitList = [] →
    let stored : Predecessor → Successor → Slot := fun p q =>
      { x with state := .waiting, planes := Planes.captured r.gauge.samples samples, predecessor := some p, successor := some q }
    let detector : DetectorMode := if r.emulsion = .mono then .temporal else .ir
    (∀ (j : Nat) (y : Slot), (segmentAt r.segments (f + 1)).any (fun z => z.kind == .picture) = true → 0 < f →
        s.slotOf st (f - 1) = some j → j ≠ k → s.slot? j = some y → segmentAt r.segments (f - 1) = some g →
      let heard : Slot := if y.successor = some .awaited then { y with successor := some .captured } else y
      let oneSided := { y.flags with oneSided := y.flags.oneSided || decide (y.predecessor = some .absent) }
      ((y.state = .ready ∨ y.state = .sending ∨ y.state = .kept) →
        ∃ t, exec (.captureStored l samples) s = .next t ∧ t.slot? k = some (stored .repaired .awaited)
          ∧ t.slot? j = some heard ∧ t.store.queue = s.store.queue ∧ t.engine = s.engine)
      ∧ (y.state = .waiting → y.predecessor = some .pending →
        ∃ t, exec (.captureStored l samples) s = .next t ∧ t.slot? k = some (stored .pending .awaited)
          ∧ t.slot? j = some heard ∧ t.store.queue = s.store.queue ∧ t.engine = s.engine)
      ∧ (∀ a, y.state = .waiting → y.successor = some .awaited →
          (y.predecessor = some .repaired ∨ y.predecessor = some .absent) → s.engine.analysis = some a →
        ∃ t, exec (.captureStored l samples) s = .next t ∧ t.slot? k = some (stored .pending .awaited)
          ∧ t.slot? j = some { y with state := .queued, successor := some .captured, flags := oneSided }
          ∧ t.store.queue = s.store.queue ++ [j] ∧ t.engine = s.engine)
      ∧ (y.state = .waiting → y.successor = some .awaited →
          (y.predecessor = some .repaired ∨ y.predecessor = some .absent) → s.engine.analysis = none →
          s.store.queue = [] →
        let begun : Analysis := { slot := j, station := st, frame := f - 1, detector := detector, mode := g.repair
                                  settings := s.engine.settings, successor := true
                                  predecessor := decide (y.predecessor = some .repaired) }
        ∃ t, exec (.captureStored l samples) s = .next t ∧ t.slot? k = some (stored .pending .awaited)
          ∧ t.slot? j = some { y with
              state := .analysing, successor := some .captured, mode := some g.repair, flags := oneSided }
          ∧ t.store.queue = [] ∧ t.engine = { s.engine with analysis := some begun }))
    ∧ ((segmentAt r.segments (f + 1)).any (fun z => z.kind == .picture) = false → s.engine.analysis = none →
        s.store.queue = [] → (∀ f', f' + 1 = f → s.slotOf st f' = none) → x.order = some st → x.frame = some f →
        segmentAt r.segments f = some g →
      let begun : Analysis := { slot := k, station := st, frame := f, detector := detector, mode := g.repair
                                settings := s.engine.settings, predecessor := false, successor := false }
      ∃ t, exec (.captureStored l samples) s = .next t
        ∧ t.slot? k = some { stored .absent .absent with
            state := .analysing, mode := some g.repair, flags := { x.flags with oneSided := true } }
        ∧ t.engine = { s.engine with analysis := some begun }))
  ∧ (∀ (s : State) (n : RequestNumber) (st : StationId) (b : OrderBody) (f k : Nat) (x : Slot) (a : Analysis), Calm s →
    (s.order st).state = .paused → (s.order st).body = some b → b.lastCaptured = some f → b.nextDeliver ≤ f →
    (s.station st).state = .halted → (s.station st).motion = .stopped → (s.station st).inFlight = none →
    s.slotOf st f = some k → s.slot? k = some x → x.state = .waiting → x.successor = some .awaited →
    (x.predecessor = some .repaired ∨ x.predecessor = some .absent) → s.engine.analysis = some a →
    exec (.stop n st.val) s = .next (({ s.silent with
      orders := s.orders.set st { s.order st with state := .draining, ending := .stopped }
      store := { s.store with
        slots := s.store.slots.setIfInBounds k { x with
          state := .queued, successor := some .absent, flags := { x.flags with oneSided := true } }
        queue := s.store.queue ++ [k] } } : State).answered (.stop st.val) n (.done .empty)))
  ∧ (∀ (s : State) (a : Analysis) (x : Slot), s.powered = true → Rested s → s.engine.analysis = some a →
    s.slot? a.slot = some x → x.state = .analysing → x.freeAtEnd = false → s.delivery.channel = .sending →
    (∀ st, (s.station st).state ≠ .starved ∧ (s.station st).state ≠ .loopback) →
    (∀ (j : Nat) (y : Slot), 0 < a.frame → s.slotOf a.station (a.frame - 1) = some j → j ≠ a.slot → s.slot? j = some y →
        s.slotOf a.station (a.frame + 1) ≠ some j → j ∉ s.store.queue →
      ∃ t, exec .analysisEnd s = .next t ∧ t.slot? j = some (if y.state = .kept then { Slot.free with planes := y.planes }
        else { y with successor := some .repaired }))
    ∧ (∀ (j : Nat) (y : Slot) (b : OrderBody), s.slotOf a.station (a.frame + 1) = some j → j ≠ a.slot →
        s.slot? j = some y → (∀ i, s.slotBefore a.station a.frame = some i → i ≠ j ∧ i ≠ a.slot) →
        (s.order a.station).body = some b → s.store.queue = [] →
      ∃ t, exec .analysisEnd s = .next t
        ∧ (y.state = .waiting → (y.successor = some .captured ∨ y.successor = some .absent) →
            ∃ z a', t.slot? j = some z ∧ z.state = .analysing ∧ z.predecessor = some .repaired
              ∧ z.flags.oneSided = (y.flags.oneSided || decide (y.successor = some .absent))
              ∧ t.engine.analysis = some a' ∧ a'.slot = j ∧ a'.station = a.station ∧ a'.frame = a.frame + 1
              ∧ a'.settings = s.engine.settings ∧ a'.predecessor = true
              ∧ a'.successor = decide (y.successor = some .captured) ∧ t.store.queue = [])
        ∧ (¬ (y.state = .waiting ∧ (y.successor = some .captured ∨ y.successor = some .absent)) →
            t.slot? j = some { y with predecessor := some .repaired } ∧ t.engine.analysis = none))
    ∧ (∀ (k : Nat) (rest : List Nat) (y : Slot) (st : StationId) (f : Nat) (b : OrderBody), s.store.queue = k :: rest →
        k ≠ a.slot → s.slot? k = some y → y.order = some st → y.frame = some f → (s.order st).body = some b →
        s.slotBefore a.station a.frame ≠ some k → s.slotOf a.station (a.frame + 1) ≠ some k →
      ∃ t a', exec .analysisEnd s = .next t ∧ t.engine.analysis = some a' ∧ a'.slot = k ∧ a'.station = st ∧ a'.frame = f
        ∧ a'.settings = s.engine.settings ∧ (∃ z, t.slot? k = some z ∧ z.state = .analysing ∧ z.mode = some a'.mode)
        ∧ ∃ more, t.store.queue = rest ++ more))

/-- R134 to R140, R145: what one analysis finds. In IR mode the candidates are the samples whose infrared is below I_thr; in
TEMPORAL mode those whose detection value departs from the neighbours' by more than T, which with both neighbours must agree
within half of T; without a neighbour and under NONE there are none. A tile with N_min to N_max candidates is SPOT, one with
more BLOTCH in IR mode and neither in TEMPORAL. Each maximal run of tiles of one kind in a row is one record with the run's
candidates, in row-major order. The completed list holds as many of them as 24 less the gathered records leave room for, then
the sensor records, then the host records, counted 4096 a tile under CONCEAL and MARK; the others are dropped. Only SPOT and
HOST records under CONCEAL have another outcome than MARKED. -/
def Obligations.TheDetectorFindsDamage : Prop :=
  ∀ e : Exam, 1 ≤ e.settings.nmin → e.settings.ithr ≤ 255 →
    (∀ x, e.before = some x → x.gradient = e.planes.gradient) → (∀ x, e.after = some x → x.gradient = e.planes.gradient) →
    let judged : Nat → Prop := fun pos =>
      let d : Planes → Nat := fun x =>
        ((x.read pos).colour.red.toNat + 2 * (x.read pos).colour.green.toNat + (x.read pos).colour.blue.toNat) / 4
      let apart : Nat → Nat → Nat := fun v w => ((v : Int) - w).natAbs
      match e.detector, e.before.map d, e.after.map d with
      | .ir, _, _ => (e.planes.read pos).ir.toNat < e.settings.ithr
      | .temporal, some p, some n =>
        e.settings.t < apart (d e.planes) ((p + n) / 2) ∧ apart p n ≤ e.settings.t / 2
      | .temporal, some p, none => e.settings.t < apart (d e.planes) p
      | .temporal, none, some n => e.settings.t < apart (d e.planes) n
      | .temporal, none, none => False
    let count : Nat → Nat → Nat := fun row col =>
      e.candidates.countP (fun pos => e.gauge.tileRowOf pos == row && e.gauge.tileColOf pos == col)
    let kindAt : Nat → Nat → Option DefectKind := fun row col =>
      if count row col < e.settings.nmin then none
      else if count row col ≤ e.settings.nmax then some .spot
      else if e.detector = .ir then some .blotch else none
    (∀ pos, pos ∈ e.candidates ↔ pos < e.gauge.samples ∧ e.mode ≠ .none ∧ judged pos)
    ∧ e.candidates.Pairwise (fun p q => p < q)
    ∧ (∀ row col k, row < e.gauge.tileRows → col < e.gauge.tileCols →
        ((∃ d ∈ e.tileRecords, d.kind = k ∧ ∃ t, d.span = some t ∧ t.row = row ∧ t.firstCol ≤ col ∧ col ≤ t.lastCol)
          ↔ kindAt row col = some k))
    ∧ (∀ d ∈ e.tileRecords, ∃ t, d.span = some t ∧ t.row < e.gauge.tileRows ∧ t.firstCol ≤ t.lastCol
        ∧ t.lastCol < e.gauge.tileCols
        ∧ d.count = ((List.range' t.firstCol (t.lastCol + 1 - t.firstCol)).map (count t.row)).sum
        ∧ (0 < t.firstCol → kindAt t.row (t.firstCol - 1) ≠ some d.kind)
        ∧ (t.lastCol + 1 < e.gauge.tileCols → kindAt t.row (t.lastCol + 1) ≠ some d.kind))
    ∧ e.tileRecords.Pairwise (fun x y => ∀ t u, x.span = some t → y.span = some u →
        t.row < u.row ∨ (t.row = u.row ∧ t.lastCol < u.firstCol))
    ∧ (∃ outcome : Defect → DefectOutcome, e.defects =
        (e.tileRecords.take (24 - e.gathered.length)
          ++ e.gathered.filter (fun d => d.kind == .splice || d.kind == .tear)
          ++ (e.gathered.filter (fun d => d.kind == .host)).map (fun d => if e.mode = .none then d else { d with
              count := match d.span with
                | some t => 4096 * (t.lastCol + 1 - t.firstCol)
                | none => 0 })).map (fun d => { d with outcome := outcome d })
      ∧ ∀ d, if e.mode = .conceal ∧ (d.kind = .spot ∨ d.kind = .host) then outcome d ≠ .marked else outcome d = .marked)
    ∧ (e.dropped = true ↔ 24 - e.gathered.length < e.tileRecords.length)

/-- R87, R99: the pattern frame k reads its column in the three channels with clear infrared, but for a spot of 16 by 16
samples of code value 4095 and infrared 0 at the top left corner of the tile at row k mod 48 and column k mod 64. R141: the
targets of a repair, under CONCEAL alone, are the candidates in the tiles of the stored SPOT records and every sample of the
HOST spans; a repair writes the code values of targets and nothing else, never the infrared. R142, R143: a target takes the
mean, rounded half up, of the neighbours usable at it, or the one usable neighbour; in IR mode a neighbour is usable where
its infrared is clear. R144: without one it takes the mean of the nearest sources within 16 columns to the left and the
right in its row, or the one found, a source being neither a candidate nor in a HOST span; and else it keeps its value.
R145: a SPOT or HOST record is CONCEALED when every target of it was filled, and PARTIAL otherwise. Rests also on the
model's own choices or readings, log entries 12 and 59. -/
def Obligations.PatternAndRepairedFrames : Prop :=
  (∀ (k row col : Nat), row < 3072 → col < 4096 →
    let spot := k % 48 * 64 ≤ row ∧ row < k % 48 * 64 + 16 ∧ k % 64 * 64 ≤ col ∧ col < k % 64 * 64 + 16
    let x := (patternPlanes k).read (row * 4096 + col)
    (spot → x.colour = { red := 4095, green := 4095, blue := 4095 } ∧ x.ir = 0)
    ∧ (¬ spot → x.colour = { red := BitVec.ofNat 12 col, green := BitVec.ofNat 12 col, blue := BitVec.ofNat 12 col }
      ∧ x.ir = 255))
  ∧ (∀ e : Exam, e.planes.wf = true → e.settings.ithr ≤ 255 →
    (∀ x, e.before = some x → x.gradient = e.planes.gradient) → (∀ x, e.after = some x → x.gradient = e.planes.gradient) →
    (∀ d ∈ e.gathered, d.kind = .host → ∀ t, d.span = some t →
      t.row < e.gauge.tileRows ∧ t.firstCol ≤ t.lastCol ∧ t.lastCol < e.gauge.tileCols) →
    let within : Defect → Nat → Prop := fun d pos => ∃ t, d.span = some t ∧ e.gauge.tileRowOf pos = t.row
      ∧ t.firstCol ≤ e.gauge.tileColOf pos ∧ e.gauge.tileColOf pos ≤ t.lastCol
    let hosted : Nat → Prop := fun pos => ∃ d ∈ e.gathered, d.kind = .host ∧ within d pos
    let targetOf : Defect → Nat → Prop := fun d pos =>
      within d pos ∧ ((d.kind = .spot ∧ pos ∈ e.candidates) ∨ (d.kind = .host ∧ pos < e.gauge.samples))
    let target : Nat → Prop := fun pos => e.mode = .conceal
      ∧ ((∃ d ∈ e.tileRecords.take (24 - e.gathered.length), d.kind = .spot ∧ targetOf d pos)
        ∨ (hosted pos ∧ pos < e.gauge.samples))
    let usable : Option Planes → Nat → Option (Rgb CodeValue) := fun x pos => x.bind (fun p =>
      if e.detector = .ir ∧ (p.read pos).ir.toNat < e.settings.ithr then none else some (p.read pos).colour)
    let up : CodeValue → CodeValue → CodeValue := fun a b => BitVec.ofNat 12 ((a.toNat + b.toNat + 1) / 2)
    let mean : Option (Rgb CodeValue) → Option (Rgb CodeValue) → Option (Rgb CodeValue) := fun a b => match a, b with
      | some a, some b => some { red := up a.red b.red, green := up a.green b.green, blue := up a.blue b.blue }
      | some a, none => some a
      | none, b => b
    let sourceAt : (Nat → Option Nat) → Nat → Nat → Prop := fun place j q =>
      1 ≤ j ∧ j ≤ 16 ∧ place j = some q ∧ q ∉ e.candidates ∧ ¬ hosted q
    let nearest : (Nat → Option Nat) → Option (Rgb CodeValue) → Prop := fun place v =>
      (v = none ∧ ∀ j q, ¬ sourceAt place j q)
      ∨ ∃ j q, sourceAt place j q ∧ (∀ j' q', j' < j → ¬ sourceAt place j' q') ∧ v = some (e.planes.read q).colour
    let left : Nat → Nat → Option Nat := fun pos j => if j ≤ pos % e.gauge.width then some (pos - j) else none
    let right : Nat → Nat → Option Nat := fun pos j =>
      if pos % e.gauge.width + j < e.gauge.width then some (pos + j) else none
    let fills : Nat → Option (Rgb CodeValue) → Prop := fun pos v => ∃ l r, nearest (left pos) l ∧ nearest (right pos) r
      ∧ v = (mean (usable e.before pos) (usable e.after pos)).or (mean l r)
    e.repaired.wf = true
    ∧ (∀ pos, (pos ∈ e.targets ↔ target pos) ∧ (e.repaired.read pos).ir = (e.planes.read pos).ir
      ∧ (¬ target pos → e.repaired.read pos = e.planes.read pos)
      ∧ (target pos → ∃ v, fills pos v ∧ (e.repaired.read pos).colour = v.getD (e.planes.read pos).colour))
    ∧ (∀ d ∈ e.defects, e.mode = .conceal → (d.kind = .spot ∨ d.kind = .host) →
      ((∀ pos, targetOf d pos → ∃ v, fills pos (some v)) → d.outcome = .concealed)
      ∧ ((∃ pos, targetOf d pos ∧ fills pos none) → d.outcome = .partly)))

/-- R124, R132, R146, R147: ANALYSIS END makes the slot READY with its repaired planes and completed defect list, judged from
the slot's planes, the repaired planes of the frame before and the captured planes of the frame behind, as the analysis
record names them; it hands the defect tiles to the RUNNING pass record and frees the engine. A slot whose work order has
closed becomes FREE. The defect tiles of a list are the distinct tiles that the spans of its SPOT, BLOTCH and HOST records
cover. -/
def Obligations.AnalysesEndWithARepairedFrame : Prop :=
  (∀ (g : Gauge) (l : List Defect), ∃ tiles : List (Nat × Nat), tiles.Nodup ∧ defectTiles g l = tiles.length
    ∧ ∀ row col, (row, col) ∈ tiles ↔ row < g.tileRows ∧ col < g.tileCols
      ∧ ∃ d ∈ l, (d.kind = .spot ∨ d.kind = .blotch ∨ d.kind = .host)
        ∧ ∃ span, d.span = some span ∧ span.row = row ∧ span.firstCol ≤ col ∧ col ≤ span.lastCol)
  ∧ ∀ (s : State) (a : Analysis) (x : Slot), s.powered = true → Rested s → s.engine.analysis = some a →
    s.slot? a.slot = some x → s.store.queue = [] → s.delivery.channel = .sending →
    (∀ (i : Nat) (r : Reel) (b : OrderBody), x.freeAtEnd = false → (s.order a.station).body = some b → b.reel = some i →
        s.reel? i = some r → x.state = .analysing →
        s.slotOf a.station (a.frame + 1) ≠ some a.slot → s.slotBefore a.station a.frame ≠ some a.slot →
        (∀ j y, s.slotOf a.station (a.frame + 1) = some j → s.slot? j = some y → y.state ≠ .waiting) →
        (∀ j y, s.slotBefore a.station a.frame = some j → s.slot? j = some y → y.state ≠ .kept) →
      let planesOf : Nat → Option Planes := fun f => ((s.slotOf a.station f).bind s.slot?).map (·.planes)
      let e : Exam := { gauge := r.gauge, detector := a.detector, mode := a.mode, settings := a.settings
                        planes := x.planes, gathered := x.defects
                        before := if a.predecessor = true ∧ 0 < a.frame then planesOf (a.frame - 1) else none
                        after := if a.successor then planesOf (a.frame + 1) else none }
      ∃ t, exec .analysisEnd s = .next t
        ∧ (∃ y, t.slot? a.slot = some y ∧ y.state = .ready ∧ y.planes = e.repaired ∧ y.defects = e.defects
            ∧ y.order = x.order ∧ y.frame = x.frame ∧ y.flags.overflow = (x.flags.overflow || e.dropped)
            ∧ y.flags.unchecked = (x.flags.unchecked || decide (a.detector = .temporal ∧ a.mode ≠ .none ∧ e.before = none
                ∧ e.after = none)))
        ∧ t.engine = { s.engine with analysis := none } ∧ t.store.queue = []
        ∧ t.reel? i = some { r with history := r.history.map (fun p => if p.outcome = .running then
            { p with defectTiles := p.defectTiles + defectTiles r.gauge e.defects } else p) }
        ∧ (∀ j, j ≠ i → t.reel? j = s.reel? j)
        ∧ (e.dropped = true → x.flags.overflow = false → t.flag .defectOverflow = true)
        ∧ (e.dropped = false ∨ x.flags.overflow = true → t.link = s.link)
        ∧ t.stations = s.stations ∧ t.lanes = s.lanes ∧ t.orders = s.orders ∧ t.sent = [])
    ∧ (x.freeAtEnd = true → (∀ st, (s.station st).state ≠ .starved ∧ (s.station st).state ≠ .loopback) →
      exec .analysisEnd s = .next { s.silent with
        engine := { s.engine with analysis := none }
        store := { s.store with slots := s.store.slots.setIfInBounds a.slot { Slot.free with planes := x.planes } } })

/-- R111, R112, R162, R168 to R171: while the picture channel is IDLE the first station in turn behind last served whose
work order has a deliverable item begins its delivery: at the end of a message with no control message waiting, or when the
last control message that waited at that end has been sent (R172, R181), at the end of an analysis, or at a START on a GAP
frame. The slot of a PICTURE frame is SENDING; the snapshot holds the treatment, GRADED with the set of the frame, UNGRADED
in a BYPASS segment, TEST in loopback and BLACK for a GAP frame, which needs no slot; the message with its header stands in
the outbound list; the channel is SENDING and the station last served; and next-deliver moves to the next frame that is not
LEADER. The slot of the message that ended is FREE or KEPT first (R125). A DRAINING work order whose end is passed so
closes, and the header carries the closing mark. Rests also on the model's own choices or readings, log entries 15, 58 and
70. -/
def Obligations.DeliveriesBeginInTurn : Prop :=
  ∀ (s : State) (st : StationId) (b : OrderBody) (g : Segment), s.powered = true → Rested s →
    (s.order st).body = some b → b.first ≤ b.nextDeliver → b.nextDeliver ≤ b.last →
    segmentAt (s.mapOf b) b.nextDeliver = some g →
    let w := s.order st
    let f := b.nextDeliver
    let next := s.deliverableFrom b (f + 1)
    let moved : WorkOrder := { w with body := some { b with nextDeliver := next } }
    let gradeList : List Keyframe := ((b.reel.bind s.reel?).map (·.keyframes)).getD []
    let mode : Option GradeMode := if b.reel = none then none else some g.grade
    let treatment : Treatment := if b.reel = none then .test else if g.kind = .gap then .black
      else if g.grade = .bypass then .ungraded else .graded
    let params : Option ParamSet := if treatment = .graded then some (paramSetAt gradeList f) else none
    let begun : State → Option Nat → Option Slot → Bool → Prop := fun t k x closing =>
      t.delivery.channel = .sending ∧ t.delivery.lastServed = st ∧ Outbound.picture ∈ t.link.outbound
      ∧ t.snapshot = some { station := st, frame := f, mode := mode, treatment := treatment, params := params }
      ∧ (∀ j y, k = some j → x = some y → ∃ z, t.slot? j = some z ∧ z.state = .sending ∧ z.planes = y.planes
          ∧ z.freeAtEnd = (y.freeAtEnd || closing))
      ∧ t.delivery.message = some { station := st, frame := f, treatment := treatment, slot := k, header :=
          { station := st, reel := b.reel, title := (b.reel.bind s.reel?).map (·.title), frame := f
            gauge := s.gaugeOf b, treatment := treatment, gap := decide (treatment = .black)
            test := decide (treatment = .test), oneSided := (x.map (·.flags.oneSided)).getD false
            overflow := (x.map (·.flags.overflow)).getD false, unchecked := (x.map (·.flags.unchecked)).getD false
            bypass := decide (mode = some .bypass), closing := closing, mode := x.bind (·.mode), params := params
            time := s.link.clock, defects := (x.map (·.defects)).getD [] } }
    (∀ i, b.reel = some i → (s.reel? i).isSome = true) →
    (∀ (c : Instr) (last : Emission) (rest : List Outbound) (ended k : Option Nat) (x : Option Slot) (d : Nat),
        ((∃ m, c = .pictureMessageEnd ∧ s.link.outbound = [.picture] ∧ s.delivery.message = some m ∧ rest = []
            ∧ ended = m.slot ∧ last = .picture m.header ((m.slot.bind s.slot?).map (·.planes)))
          ∨ (∃ r, c = .outboundMessageSent ∧ ended = none ∧ last = .reply r ∧ (∀ f, rest.head? ≠ some (.notice f))
            ∧ s.delivery.channel = .idle ∧ (s.link.outbound = .busy r :: .arbiterTest :: rest
              ∨ (s.link.outbound = .reply r :: .arbiterTest :: rest ∧ s.link.queue = [])))) →
        let frees : Slot → Prop := fun y =>
          y.freeAtEnd = true ∨ y.successor = some .repaired ∨ y.successor = some .absent
        (∀ j y, ended = some j → s.slot? j = some y → y.state = .sending
          ∧ (∀ u b', (s.order u).body = some b' → s.slotOf u b'.nextDeliver ≠ some j)
          ∧ (frees y → ∀ u, (s.station u).state ≠ .starved ∧ (s.station u).state ≠ .loopback)) →
        1 ≤ d → d ≤ 4 → st.val = (s.delivery.lastServed.val + d) % 4 →
        (∀ e (u : StationId), 1 ≤ e → e < d → u.val = (s.delivery.lastServed.val + e) % 4 → s.item u = none) →
        (w.state = .active ∨ w.state = .paused ∨ w.state = .draining) →
        ((g.kind = .gap ∧ b.reel ≠ none ∧ k = none ∧ x = none)
          ∨ (g.kind = .picture ∧ ∃ j y, k = some j ∧ x = some y ∧ s.slotOf st f = some j ∧ s.slot? j = some y
              ∧ y.state = .ready ∧ y.order = some st)) →
      let passed := w.state = .draining ∧ (s.station st).inFlight = none ∧ (if w.ending = .completed then b.last < next
        else ∀ c, b.lastCaptured = some c → c < next)
      (¬ passed → ∃ t, exec c s = .next t ∧ begun t k x false ∧ t.order st = moved
        ∧ t.link.outbound = rest ++ [.picture] ∧ t.sent = [last] ∧ t.stations = s.stations
        ∧ t.retained = s.retained ∧ (∀ j, k ≠ some j → ended ≠ some j → t.slot? j = s.slot? j)
        ∧ ∀ j y, ended = some j → s.slot? j = some y →
            (frees y → t.slot? j = some { Slot.free with planes := y.planes })
            ∧ (¬ frees y → t.slot? j = some { y with state := .kept }))
      ∧ (passed → ∃ t, exec c s = .next t ∧ begun t k x true
        ∧ t.order st = { moved with state := .closed } ∧ t.flag .workOrderEnded = true))
    ∧ (∀ (a : Analysis) (x : Slot), g.kind = .picture → (w.state = .active ∨ w.state = .paused) →
        s.engine.analysis = some a → a.station = st → a.frame = f → s.slotOf st f = some a.slot →
        s.slot? a.slot = some x → x.freeAtEnd = false → x.state = .analysing → a.slot ∉ s.store.queue →
        s.delivery.channel = .idle → (∀ u, u ≠ st → s.item u = none) →
        s.slotOf st (f + 1) ≠ some a.slot → s.slotBefore st f ≠ some a.slot →
        ((∀ j z, s.slotBefore st f = some j → s.slot? j = some z → z.state ≠ .kept)
          ∨ ∀ u, (s.station u).state ≠ .starved ∧ (s.station u).state ≠ .loopback) →
      ∃ t y, exec .analysisEnd s = .next t
        ∧ begun t (some a.slot) (some y) false ∧ y.planes = (s.examOf a x).repaired
        ∧ y.defects = (s.examOf a x).defects ∧ t.order st = moved)
    ∧ (∀ (n : RequestNumber) (i : Nat) (r : Reel) (c : Capabilities), Calm s → g.kind = .gap →
        (w.state = .open ∨ w.state = .paused) → b.reel = some i → s.reel? i = some r → r.custody = .verified →
        ((s.station st).state = .threaded ∨ (s.station st).state = .halted) → (s.station st).capabilities = some c →
        c.gauges.has r.gauge = true → b.nextCapture ≤ b.last → s.delivery.channel = .idle →
        (∀ u, u ≠ st → s.item u = none) →
      ∃ t, exec (.start n st.val) s = .next t ∧ begun t none none false ∧ t.order st = { moved with state := .active }
        ∧ ∃ x, RepliedOnce t (.start st.val) n x)

/-- R125, R172, R181: PICTURE MESSAGE END sends the message, makes the channel IDLE with no snapshot, and leaves the slot
KEPT while the next frame has still to be repaired and FREE otherwise. While control messages wait in the outbound list no
delivery begins: the arbiter's test takes its place behind them. With no picture message in transmission nothing happens.
R163, R171, R196: the frame that leaves carries the header and then the planes red, green and blue, row by row, two bytes a
sample: the repaired values of the slot passed through the transfer (R159, R160) with the header's parameter set for GRADED,
unchanged for UNGRADED and TEST, and 0 for BLACK; then the slot's IR plane, which a BLACK frame does not carry. Rests also
on the model's own choices or readings, log entries 15 and 70. -/
def Obligations.PictureMessagesEnd : Prop :=
  ∀ (s : State) (m : PictureMessage) (rest : List Outbound), s.powered = true → Rested s →
    (s.link.outbound.head? ≠ some .picture → exec .pictureMessageEnd s = .next s.silent)
    ∧ (s.link.outbound = .picture :: rest → s.delivery.message = some m → (∀ f, rest.head? ≠ some (.notice f)) →
        rest.head? ≠ some .arbiterTest → (rest ≠ [] ∨ ∀ st, (s.order st).state.offers = false) →
      let ended : Option Planes → Vector Slot 128 → State := fun planes slots => { s with
        sent := [.picture m.header planes], snapshot := none
        delivery := { s.delivery with channel := .idle, message := none }
        link := { s.link with outbound := if rest = [] then [] else rest ++ [.arbiterTest] }
        store := { s.store with slots := slots } }
      (m.slot = none → exec .pictureMessageEnd s = .next (ended none s.store.slots))
      ∧ (∀ k x, m.slot = some k → s.slot? k = some x → x.freeAtEnd = false → x.successor ≠ some .repaired →
          x.successor ≠ some .absent → exec .pictureMessageEnd s =
            .next (ended (some x.planes) (s.store.slots.setIfInBounds k { x with state := .kept })))
      ∧ (∀ k x, m.slot = some k → s.slot? k = some x →
          (x.freeAtEnd = true ∨ x.successor = some .repaired ∨ x.successor = some .absent) →
          (∀ st, (s.station st).state ≠ .starved ∧ (s.station st).state ≠ .loopback) →
          exec .pictureMessageEnd s =
            .next (ended (some x.planes) (s.store.slots.setIfInBounds k { Slot.free with planes := x.planes }))))
    ∧ (s.link.outbound = .picture :: rest → s.delivery.message = some m →
      let clip : Int → Nat := fun v => (max 0 (min v 4095)).toNat
      let graded : ParamSet → Rgb CodeValue → Rgb Nat := fun p x =>
        let gain : Nat → Nat → Nat := fun v a => min 4095 ((v * a + 512) / 1024)
        let y2 : Rgb Nat :=
          { red := gain (clip (x.red.toNat + p.lift.red)) p.gain.red
            green := gain (clip (x.green.toNat + p.lift.green)) p.gain.green
            blue := gain (clip (x.blue.toNat + p.lift.blue)) p.gain.blue }
        let luma := (5 * y2.red + 9 * y2.green + 2 * y2.blue) / 16
        let saturate : Nat → Nat := fun v => clip (luma + roundAway (((v : Int) - luma) * p.saturation) 256)
        { red := saturate y2.red, green := saturate y2.green, blue := saturate y2.blue }
      let sends : (Nat → Rgb Nat) → Option (Nat → Byte) → Prop := fun colour infrared =>
        let positions := List.range m.header.gauge.samples
        let plane : (Rgb Nat → Nat) → List Byte := fun channel => positions.flatMap (fun pos =>
          [BitVec.ofNat 8 (channel (colour pos) / 256), BitVec.ofNat 8 (channel (colour pos))])
        ∃ t, exec .pictureMessageEnd s = .next t ∧ ∃ e ∈ t.sent, emissionFrame e = some (linkFrame 1
          ([4, 0, 0, 0] ++ pictureHeaderBytes m.header ++ plane (·.red) ++ plane (·.green) ++ plane (·.blue)
            ++ (infrared.map (fun f => positions.map f)).getD []))
      (∀ k x, m.slot = some k → s.slot? k = some x →
        let ir : Nat → Byte := fun pos => (x.planes.read pos).ir
        (∀ p, m.header.treatment = .graded → m.header.params = some p →
          sends (fun pos => graded p (x.planes.read pos).colour) (some ir))
        ∧ (m.header.treatment = .ungraded ∨ m.header.treatment = .test → sends (fun pos =>
            let y := (x.planes.read pos).colour
            { red := y.red.toNat, green := y.green.toNat, blue := y.blue.toNat }) (some ir)))
      ∧ (m.header.treatment = .black → m.slot = none → sends (fun _ => { red := 0, green := 0, blue := 0 }) none))

/-- R128, R149: MARK DEFECT adds a HOST record behind the list of a frame not yet repaired, in a list of fewer than 24; for
a span already marked it is answered DONE and adds nothing; and it is refused NO SPACE in a list of 24, MALFORMED for a span
outside the tiles and WRONG STATE where no such slot holds the frame. QUERY DEFECTS answers the list, flags and, after the
repair, mode and defect tiles of the slot that holds the frame; WRONG STATE while it is ANALYSING, NOT FOUND without a slot.
R133: SET DETECTOR clamps each setting named, raises N_max to N_min, and answers the settings taken: DONE where each value
named was taken and N_max was not raised, DONE-CLAMPED with each value not taken, and N_max where it was raised, otherwise.
Rests also on the model's own choices or readings, log entries 26, 27, 36 and 60. -/
def Obligations.MarkingDefectsAndSettingTheDetector : Prop :=
  ∀ (s : State) (n : RequestNumber), Calm s →
    (∀ (st : StationId) (f : Nat) (span : TileSpan) (b : OrderBody), (s.order st).state ≠ .closed →
        (s.order st).body = some b →
      let answers : ReplyBody → State := fun x => s.silent.answered (.markDefect st.val f span) n x
      let fits := span.row < (s.gaugeOf b).tileRows ∧ span.firstCol ≤ span.lastCol ∧ span.lastCol < (s.gaugeOf b).tileCols
      (¬ fits → exec (.markDefect n st.val f span) s = .next (answers (.refused .malformed)))
      ∧ (fits → (∀ k x, s.slotOf st f = some k → s.slot? k = some x →
            x.state ≠ .filling ∧ x.state ≠ .waiting ∧ x.state ≠ .queued) →
          exec (.markDefect n st.val f span) s = .next (answers (.refused .wrongState)))
      ∧ ∀ (k : Nat) (x : Slot), fits → s.slotOf st f = some k → s.slot? k = some x →
          (x.state = .filling ∨ x.state = .waiting ∨ x.state = .queued) →
        let marked := ∃ d ∈ x.defects, d.kind = .host ∧ d.span = some span
        (x.defects.length < 24 → ¬ marked → exec (.markDefect n st.val f span) s = .next (({ s.silent with
          store := { s.store with slots := s.store.slots.setIfInBounds k { x with
            defects := x.defects ++ [{ kind := .host, span := some span, count := 0, outcome := .marked }] } } } :
              State).answered (.markDefect st.val f span) n (.done .empty)))
        ∧ (x.defects.length < 24 → marked → exec (.markDefect n st.val f span) s = .next (answers (.done .empty)))
        ∧ (24 ≤ x.defects.length → exec (.markDefect n st.val f span) s = .next (answers (.refused .noSpace))))
    ∧ (∀ (st : StationId) (f : Nat), s.slotOf st f = none → exec (.queryDefects n st.val f) s =
        .next (s.silent.answered (.queryDefects st.val f) n (.refused .notFound)))
    ∧ (∀ (st : StationId) (f k : Nat) (x : Slot), s.slotOf st f = some k → s.slot? k = some x →
      (x.state = .analysing → exec (.queryDefects n st.val f) s =
        .next (s.silent.answered (.queryDefects st.val f) n (.refused .wrongState)))
      ∧ (∀ b, (s.order st).body = some b → x.state = .ready ∨ x.state = .sending ∨ x.state = .kept →
        exec (.queryDefects n st.val f) s = .next (s.silent.answered (.queryDefects st.val f) n (.done
          (.defectReport x.defects x.flags x.mode (some (defectTiles (s.gaugeOf b) x.defects))))))
      ∧ (x.state = .filling ∨ x.state = .waiting ∨ x.state = .queued → exec (.queryDefects n st.val f) s =
        .next (s.silent.answered (.queryDefects st.val f) n (.done (.defectReport x.defects x.flags none none)))))
    ∧ (∀ (a b c d : Nat), 16 ≤ a → a ≤ 1023 → 1 ≤ b → b ≤ 255 → 1 ≤ c → c ≤ 255 → c ≤ d → d ≤ 4096 →
      exec (.setDetector n { t := some a, ithr := some b, nmin := some c, nmax := some d }) s =
        .next (({ s.silent with engine := { s.engine with settings := { t := a, ithr := b, nmin := c, nmax := d } } } :
          State).answered (.setDetector { t := some a, ithr := some b, nmin := some c, nmax := some d }) n
            (.done (.detectorSettings { t := a, ithr := b, nmin := c, nmax := d }))))
    ∧ (∀ f : DetectorFields, ∃ t clamps body, exec (.setDetector n f) s = .next (({ s.silent with
        engine := { s.engine with settings := t } } : State).answered (.setDetector f) n body)
      ∧ t.t = (match f.t with
          | some v => max 16 (min v 1023)
          | none => s.engine.settings.t)
      ∧ t.ithr = (match f.ithr with
          | some v => max 1 (min v 255)
          | none => s.engine.settings.ithr)
      ∧ t.nmin = (match f.nmin with
          | some v => max 1 (min v 255)
          | none => s.engine.settings.nmin)
      ∧ (∀ v, f.nmax = some v → t.nmin ≤ 4096 → t.nmax = max t.nmin (min v 4096))
      ∧ (f.nmax = none → t.nmax = max t.nmin s.engine.settings.nmax)
      ∧ (let entry : Nat → Option Nat → Nat → List Clamp := fun position named taken =>
          if named = none ∨ named = some taken then [] else [{ position := position, value := taken }]
        clamps = entry 0 f.t t.t ++ entry 1 f.ithr t.ithr ++ entry 2 f.nmin t.nmin
          ++ (if f.nmax = none then entry 3 (some s.engine.settings.nmax) t.nmax else entry 3 f.nmax t.nmax))
      ∧ body = if clamps = [] then .done (.detectorSettings t) else .doneClamped clamps (.detectorSettings t))

/-- R151, R152: SET KEYFRAME puts a keyframe with its values clamped, lifts to -512 to 511, gains to 4095 and the saturation
to 512, at its frame, in place of one that stands there, or in ascending order where the list holds fewer than 64 and the
pool fewer than 2048; it is refused NO SPACE where either is full. It is answered DONE, or DONE-CLAMPED with each value
taken, with the length of the list and the free entries of the pool, and changes nothing but the grade list. A reel that is
not registered is NOT FOUND and a frame beyond its length MALFORMED. Rests also on the model's own choices or readings, log
entry 27. -/
def Obligations.KeyframesAreSetClamped : Prop :=
  ∀ (s : State) (n : RequestNumber) (i f : Nat) (transition : Transition) (p : ParamSet), Calm s →
    let request : KeyframeFields := { reel := i, frame := f, transition := transition, params := p }
    let lift : Int → Int := fun v => max (-512) (min v 511)
    let taken : ParamSet :=
      { lift := { red := lift p.lift.red, green := lift p.lift.green, blue := lift p.lift.blue }
        gain := { red := min p.gain.red 4095, green := min p.gain.green 4095, blue := min p.gain.blue 4095 }
        saturation := min p.saturation 512 }
    let entry : Nat → Int → Int → List Clamp := fun position asked got =>
      if asked = got then [] else [{ position := position, value := got }]
    let clamps : List Clamp :=
      entry 3 p.lift.red taken.lift.red ++ entry 4 p.lift.green taken.lift.green ++ entry 5 p.lift.blue taken.lift.blue
        ++ entry 6 p.gain.red taken.gain.red ++ entry 7 p.gain.green taken.gain.green
        ++ entry 8 p.gain.blue taken.gain.blue ++ entry 9 p.saturation taken.saturation
    let answer : Nat → Nat → ReplyBody := fun length free =>
      if clamps = [] then .done (.poolCounts length free) else .doneClamped clamps (.poolCounts length free)
    let refuses : Reason → State := fun x => s.silent.answered (.setKeyframe request) n (.refused x)
    (s.reel? i = none → exec (.setKeyframe n request) s = .next (refuses .notFound))
    ∧ ∀ r, s.reel? i = some r →
      (r.length ≤ f → exec (.setKeyframe n request) s = .next (refuses .malformed))
      ∧ (f < r.length →
        let held := ∃ x ∈ r.keyframes, x.frame = f
        (¬ held → (64 ≤ r.keyframes.length ∨ 2048 ≤ s.keyframesUsed) →
          exec (.setKeyframe n request) s = .next (refuses .noSpace))
        ∧ (¬ held → r.keyframes.length < 64 → s.keyframesUsed < 2048 →
            r.keyframes.Pairwise (fun x y => x.frame < y.frame) →
          exec (.setKeyframe n request) s = .next ((s.silent.setReel i (some { r with
            keyframes := r.keyframes.filter (fun x => decide (x.frame < f))
              ++ [{ frame := f, transition := transition, params := taken }]
              ++ r.keyframes.filter (fun x => decide (f < x.frame)) })).answered (.setKeyframe request) n
                (answer (r.keyframes.length + 1) (2048 - (s.keyframesUsed + 1)))))
        ∧ (held → r.keyframes.Pairwise (fun x y => x.frame < y.frame) →
          exec (.setKeyframe n request) s = .next ((s.silent.setReel i (some { r with
            keyframes := r.keyframes.map (fun x => if x.frame = f then
              { frame := f, transition := transition, params := taken } else x) })).answered (.setKeyframe request) n
                (answer r.keyframes.length (2048 - s.keyframesUsed)))))

/-- R153: DELETE KEYFRAME takes the keyframe at its frame out, the later ones keeping their order, and is answered with the
length of the list and the free entries of the pool that result; without a keyframe there, and for an index that names no
reel, it is refused NOT FOUND, and for a frame beyond the reel MALFORMED. R154: CLEAR GRADE LIST is refused NOT FOUND for an
index that names no reel. Otherwise the list becomes empty, its keyframes return to the pool, and the reply carries the
number removed and the free count that results. An empty list gives the identity set at every frame, which leaves every
triple of code values as it is; the segments, so the grade modes, are not touched. -/
def Obligations.KeyframesAreDeletedAndCleared : Prop :=
  (∀ (s : State) (n : RequestNumber) (i : Nat), Calm s → s.reel? i = none →
    exec (.clearGradeList n i) s = .next (s.silent.answered (.clearGradeList i) n (.refused .notFound))
    ∧ ∀ f, exec (.deleteKeyframe n i f) s = .next (s.silent.answered (.deleteKeyframe i f) n (.refused .notFound)))
  ∧ (∀ (s : State) (n : RequestNumber) (i : Nat) (r : Reel), Calm s → s.reel? i = some r →
    exec (.clearGradeList n i) s = .next ((s.silent.setReel i (some { r with keyframes := [] })).answered
      (.clearGradeList i) n
      (.done (.listCleared r.keyframes.length (2048 - (s.keyframesUsed - r.keyframes.length)))))
    ∧ ∀ f : Nat,
      let held := ∃ x ∈ r.keyframes, x.frame = f
      (r.length ≤ f →
        exec (.deleteKeyframe n i f) s = .next (s.silent.answered (.deleteKeyframe i f) n (.refused .malformed)))
      ∧ (f < r.length → ¬ held →
        exec (.deleteKeyframe n i f) s = .next (s.silent.answered (.deleteKeyframe i f) n (.refused .notFound)))
      ∧ (f < r.length → held → r.keyframes.Pairwise (fun x y => x.frame < y.frame) →
        exec (.deleteKeyframe n i f) s = .next ((s.silent.setReel i (some { r with
          keyframes := r.keyframes.filter (fun x => x.frame != f) })).answered (.deleteKeyframe i f) n
            (.done (.poolCounts (r.keyframes.length - 1) (2048 - (s.keyframesUsed - 1)))))))
  ∧ (∀ f, paramSetAt [] f = identitySet) ∧ ∀ x : Rgb CodeValue, transfer identitySet x = x

/-- R156, R157, R159, R160, R166: EVALUATE GRADE answers the interval of the grade list that holds a frame, the parameter set
there and the four stages of the transfer of a triple, and changes nothing. The set is the identity set for an empty list or
a frame before the first keyframe, the set of the last keyframe from it on, and between two keyframes the first one's set
under CUT, and under RAMP each parameter moved by its part of the way, rounded half away from zero. Each stage is the one of
its rule. -/
def Obligations.EvaluatingAGrade : Prop :=
  ∀ (s : State) (n : RequestNumber) (i f : Nat) (r : Reel) (g : Segment) (x : Rgb Nat), Calm s →
    s.reel? i = some r → f < r.length → segmentAt r.segments f = some g → x.red ≤ 4095 → x.green ≤ 4095 → x.blue ≤ 4095 →
    let treatment : Treatment := match g.kind, g.grade with
      | .leader, _ => .notDelivered
      | .gap, _ => .black
      | .picture, .bypass => .ungraded
      | .picture, .apply => .graded
    let clip : Int → Nat := fun v => (max 0 (min v 4095)).toNat
    let lift : Nat → Int → Nat := fun v l => clip (v + l)
    let gain : Nat → Nat → Nat := fun v a => min 4095 ((v * a + 512) / 1024)
    let answers : GradeInterval → ParamSet → Prop := fun interval p =>
      let y1 : Rgb Nat := { red := lift x.red p.lift.red, green := lift x.green p.lift.green
                            blue := lift x.blue p.lift.blue }
      let y2 : Rgb Nat := { red := gain y1.red p.gain.red, green := gain y1.green p.gain.green
                            blue := gain y1.blue p.gain.blue }
      let luma := (5 * y2.red + 9 * y2.green + 2 * y2.blue) / 16
      let saturate : Nat → Nat := fun v => clip (luma + roundAway (((v : Int) - luma) * p.saturation) 256)
      let y3 : Rgb Nat := { red := saturate y2.red, green := saturate y2.green, blue := saturate y2.blue }
      exec (.evaluateGrade n i f (some x)) s = .next (s.silent.answered (.evaluateGrade i f (some x)) n
        (.done (.evaluation g.kind g.grade treatment interval p (some { y1 := y1, y2 := y2, luma := luma, y3 := y3 }))))
      ∧ exec (.evaluateGrade n i f none) s = .next (s.silent.answered (.evaluateGrade i f none) n
        (.done (.evaluation g.kind g.grade treatment interval p none)))
    ((∀ k ∈ r.keyframes.head?, f < k.frame) → answers .identity
      { lift := { red := 0, green := 0, blue := 0 }, gain := { red := 1024, green := 1024, blue := 1024 }
        saturation := 256 })
    ∧ (r.keyframes.Pairwise (fun y z => y.frame < z.frame) →
      (∀ before k, r.keyframes = before ++ [k] → k.frame ≤ f → answers (.after k) k.params)
      ∧ (∀ before k k' after, r.keyframes = before ++ k :: k' :: after → k.frame ≤ f → f < k'.frame →
        let moved : Int → Int → Int := fun p q =>
          p + roundAway ((q - p) * ((f - k.frame : Nat) : Int)) (k'.frame - k.frame)
        let p := k.params
        let q := k'.params
        (k.transition = .cut → answers (.between k k') p)
        ∧ (k.transition = .ramp → answers (.between k k')
          { lift := { red := moved p.lift.red q.lift.red, green := moved p.lift.green q.lift.green
                      blue := moved p.lift.blue q.lift.blue }
            gain := { red := (moved p.gain.red q.gain.red).toNat, green := (moved p.gain.green q.gain.green).toNat
                      blue := (moved p.gain.blue q.gain.blue).toNat }
            saturation := (moved p.saturation q.saturation).toNat })))

/-! ### The suite reset -/

/-- R24, R25, R28, R59, R98, R187: RESET SUITE, taken as it arrives or from the queue when the reply before it has been
sent, is answered DONE; LNK drops the requests that wait and takes its power-on settings but for the clock; the lanes are
free; every work order is closed, a closed one as it was and another ABORTED; every station is DISCOVERING with its
capabilities and settings kept; a moving lift halts with cause RESET; the slots of the aborted work orders are FREE, and
those of the analysis and of the picture message in flight, which run to their ends with the snapshot kept, become FREE
there; the repair queue is empty (R127, R130, R165); and the retained settings, the detector settings and the clock stay. A
reel's record stays but for its work order: the RUNNING pass of an open one is ABORTED and the work order field cleared; a
pass with a captured frame gives the condition grade, the worst of four bands, and the shrinkage peak, and at grade E the
pass limit falls to the history length plus one; and a reel in a chamber takes custody REVERIFY. Rests also on the model's
own choices or readings, log entry 42. -/
def Obligations.SuiteResetRestoresTheVolatileBlocks : Prop :=
  ∀ (s : State) (n : RequestNumber) (c : Instr), s.powered = true → Rested s →
    ((Free s ∧ c = .resetSuite n)
      ∨ (c = .outboundMessageSent ∧ ∃ b rest waiting, s.link.outbound = .reply b :: rest
        ∧ rest.any (·.isReply) = false
        ∧ s.link.queue = { kind := Request.resetSuite.kind, number := n, request := some .resetSuite } :: waiting)) →
    ∃ t, exec c s = .next t
    ∧ RepliedOnce t .resetSuite n (.done .empty)
    ∧ t.link.queue = [] ∧ t.link.mask = BitVec.allOnes 22 ∧ t.link.enable = false ∧ t.link.rejection = none
    ∧ t.link.clock = s.link.clock ∧ t.link.retainedPassed = s.link.retainedPassed
    ∧ t.link.word = (if s.stk.lift = .moving then BitVec.twoPow 22 15 else 0)
    ∧ t.lanes = .powerOn
    ∧ (∀ st, t.station st = { Station.powerOn with
        state := .discovering, capabilities := (s.station st).capabilities
        reservation := (s.station st).reservation, filterSetting := (s.station st).filterSetting
        tenure := (s.station st).tenure, discovery := some 2000 })
    ∧ (∀ st, t.order st = if (s.order st).state = .closed then s.order st
        else { s.order st with state := .closed, ending := .aborted })
    ∧ (∀ st, Emission.station st .safe ∈ t.sent ∧ Emission.station st .stationClear ∈ t.sent)
    ∧ t.delivery = { s.delivery with lastServed := 3 } ∧ t.engine = s.engine ∧ t.snapshot = s.snapshot
    ∧ (Outbound.picture ∈ s.link.outbound → Outbound.picture ∈ t.link.outbound)
    ∧ ((∀ k ∈ s.store.queue, (∃ x st, s.slot? k = some x ∧ x.order = some st ∧ (s.order st).state ≠ .closed)
          ∧ ∀ l c, (s.lane l).carriage = some c → c.slot ≠ k) →
        t.store.queue = [])
    ∧ (∀ k x st, s.slot? k = some x → x.order = some st → (s.order st).state ≠ .closed →
        (x.state ≠ .analysing → x.state ≠ .sending → ∃ y, t.slot? k = some y ∧ y.state = .free)
        ∧ ((x.state = .analysing ∨ x.state = .sending) → (∀ l c, (s.lane l).carriage = some c → c.slot ≠ k) →
            t.slot? k = some { x with freeAtEnd := true }))
    ∧ t.retained.dwell = s.retained.dwell ∧ t.retained.threshold = s.retained.threshold
    ∧ (∀ i, (t.reel? i).isSome = (s.reel? i).isSome)
    ∧ (∀ i r, s.reel? i = some r → ∀ custody,
        ((∃ st : StationId, r.location = .chamber st.val ∧ s.reelAt r.location = some i) ∧ custody = Custody.reverify)
          ∨ ((∀ st : StationId, r.location ≠ .chamber st.val) ∧ custody = r.custody) →
        let worked := ∃ st b, (s.order st).state ≠ .closed ∧ (s.order st).body = some b ∧ b.reel = some i
        (¬ worked → t.reel? i = some { r with custody := custody })
        ∧ (worked → ∃ grade peak passLimit, t.reel? i = some
            { r with custody := custody, order := none, grade := grade, peak := peak, passLimit := passLimit
                     history := r.history.map (fun p => if p.outcome = .running then { p with outcome := .aborted } else p) }
          ∧ ((∀ p ∈ r.history, p.outcome = .running → p.frames = 0) →
              grade = r.grade ∧ peak = r.peak ∧ passLimit = r.passLimit)
          ∧ ∀ before p after, r.history = before ++ p :: after → (∀ q ∈ before, q.outcome ≠ .running) →
              p.outcome = .running → 0 < p.frames →
            let band : Int → List Int → Nat := fun v bounds => bounds.countP (fun b => decide (b ≤ v))
            let worst := max (max (match p.peak with
                | some v => band v [50, 100, 150, 250]
                | none => 0) (band (r.segments.countP (·.spliceStart) + p.unrecorded : Nat) [5, 15, 30, 60]))
              (max (band p.tears [1, 1, 2, 4]) (band (p.defectTiles * 100 / p.frames : Nat) [5, 20, 50, 100]))
            grade = [Grade.a, .b, .c, .d, .e][worst]? ∧ peak = p.peak
              ∧ passLimit = if worst = 4 then min r.passLimit (r.history.length + 1) else r.passLimit))
    ∧ (s.stk.lift = .moving → t.stk.lift = .halted ∧ t.stk.cause = some .reset ∧ t.stk.timer = none
        ∧ Emission.lift .stop ∈ t.sent)
    ∧ (s.stk.lift = .direct → t.stk.forwarded = none
        ∧ t.stk.lift = if s.stk.carriage = .empty then LiftState.idle else .direct)
    ∧ (∀ m ∈ t.stk.queue, m.state = .moving ∨ m.state = .halted)

/-! ### Invariants -/

/-- R88, R89: every step keeps the lanes exclusive: two HELD lanes have two holders, no holder waits, and no station waits
twice. -/
def Obligations.StepsKeepTheLanesExclusive : Prop :=
  ∀ s t : State, LanesExclusive s → step s = .next t → LanesExclusive t

/-- R181, R183: every step keeps the outbound list in order: no notice stands untaken at its head, every waiting notice has
its pending mark, and no flag has two notices waiting. Rests also on the model's own choices or readings, log entries 13 and
15. -/
def Obligations.StepsKeepTheOutboundListInOrder : Prop :=
  ∀ s t : State, OutboundInOrder s.link → step s = .next t → OutboundInOrder t.link

/-- R3, R15, R16, R17, R22, R29, R33, R43, R62, R133: every step keeps the settings, the clock, the move counter, the dwell
counters (at most 65535, R32) and the tenure counts of the held lanes (at most 255, R93) in their ranges, and the planes of
every slot in their canonical form. With them it keeps the registry: the length, the pass limit and the reading of every
record in range, every home cell in the zone of its reel's class, every pass record numbered by its position, and no can tag
and no home cell with two reels. Rests also on the model's own choices or readings, log entry 12. -/
def Obligations.StepsKeepSettingsRegistryAndPlanes : Prop :=
  ∀ s t : State, SettingsInRange s ∧ PlanesCanonical s → step s = .next t →
    SettingsInRange t ∧ PlanesCanonical t ∧ (RegistryInRange s → RegistryInRange t)

/-- The invariants hold after reset. Rests also on the model's own choices or readings, log entry 1. -/
def Obligations.ResetMeetsTheInvariants : Prop :=
  LanesExclusive State.reset ∧ OutboundInOrder State.reset.link ∧ SettingsInRange State.reset
    ∧ PlanesCanonical State.reset ∧ RegistryInRange State.reset
end

