-- ==== Sys2Proof/Laws/State.lean ====
section
/-!
SUPPORT. The small lemmas of the state: what each update leaves of each field. Every later proof cites these and unfolds no
record update.
-/

namespace Sys2Proof.Machine

/-! ### `State.setReel` -/

@[simp] theorem State.setReel_powered (s : State) (i : Nat) (r : Option Reel) : (s.setReel i r).powered = s.powered := rfl
@[simp] theorem State.setReel_stk (s : State) (i : Nat) (r : Option Reel) : (s.setReel i r).stk = s.stk := rfl
@[simp] theorem State.setReel_stations (s : State) (i : Nat) (r : Option Reel) : (s.setReel i r).stations = s.stations := rfl
@[simp] theorem State.setReel_lanes (s : State) (i : Nat) (r : Option Reel) : (s.setReel i r).lanes = s.lanes := rfl
@[simp] theorem State.setReel_orders (s : State) (i : Nat) (r : Option Reel) : (s.setReel i r).orders = s.orders := rfl
@[simp] theorem State.setReel_store (s : State) (i : Nat) (r : Option Reel) : (s.setReel i r).store = s.store := rfl
@[simp] theorem State.setReel_engine (s : State) (i : Nat) (r : Option Reel) : (s.setReel i r).engine = s.engine := rfl
@[simp] theorem State.setReel_snapshot (s : State) (i : Nat) (r : Option Reel) : (s.setReel i r).snapshot = s.snapshot := rfl
@[simp] theorem State.setReel_delivery (s : State) (i : Nat) (r : Option Reel) : (s.setReel i r).delivery = s.delivery := rfl
@[simp] theorem State.setReel_link (s : State) (i : Nat) (r : Option Reel) : (s.setReel i r).link = s.link := rfl
@[simp] theorem State.setReel_sent (s : State) (i : Nat) (r : Option Reel) : (s.setReel i r).sent = s.sent := rfl
@[simp] theorem State.setReel_pending (s : State) (i : Nat) (r : Option Reel) : (s.setReel i r).pending = s.pending := rfl

/-! ### `State.setRetained` -/

@[simp] theorem State.setRetained_powered (s : State) (d : DwellSettings) (t : Nat) : (s.setRetained d t).powered = s.powered := rfl
@[simp] theorem State.setRetained_stk (s : State) (d : DwellSettings) (t : Nat) : (s.setRetained d t).stk = s.stk := rfl
@[simp] theorem State.setRetained_stations (s : State) (d : DwellSettings) (t : Nat) : (s.setRetained d t).stations = s.stations := rfl
@[simp] theorem State.setRetained_lanes (s : State) (d : DwellSettings) (t : Nat) : (s.setRetained d t).lanes = s.lanes := rfl
@[simp] theorem State.setRetained_orders (s : State) (d : DwellSettings) (t : Nat) : (s.setRetained d t).orders = s.orders := rfl
@[simp] theorem State.setRetained_store (s : State) (d : DwellSettings) (t : Nat) : (s.setRetained d t).store = s.store := rfl
@[simp] theorem State.setRetained_engine (s : State) (d : DwellSettings) (t : Nat) : (s.setRetained d t).engine = s.engine := rfl
@[simp] theorem State.setRetained_snapshot (s : State) (d : DwellSettings) (t : Nat) : (s.setRetained d t).snapshot = s.snapshot := rfl
@[simp] theorem State.setRetained_delivery (s : State) (d : DwellSettings) (t : Nat) : (s.setRetained d t).delivery = s.delivery := rfl
@[simp] theorem State.setRetained_link (s : State) (d : DwellSettings) (t : Nat) : (s.setRetained d t).link = s.link := rfl
@[simp] theorem State.setRetained_sent (s : State) (d : DwellSettings) (t : Nat) : (s.setRetained d t).sent = s.sent := rfl
@[simp] theorem State.setRetained_pending (s : State) (d : DwellSettings) (t : Nat) : (s.setRetained d t).pending = s.pending := rfl

/-! ### `State.updReel` -/

@[simp] theorem State.updReel_powered (s : State) (i : Nat) (f : Reel → Reel) : (s.updReel i f).powered = s.powered := by
  unfold State.updReel; split <;> rfl
@[simp] theorem State.updReel_stk (s : State) (i : Nat) (f : Reel → Reel) : (s.updReel i f).stk = s.stk := by
  unfold State.updReel; split <;> rfl
@[simp] theorem State.updReel_stations (s : State) (i : Nat) (f : Reel → Reel) : (s.updReel i f).stations = s.stations := by
  unfold State.updReel; split <;> rfl
@[simp] theorem State.updReel_lanes (s : State) (i : Nat) (f : Reel → Reel) : (s.updReel i f).lanes = s.lanes := by
  unfold State.updReel; split <;> rfl
@[simp] theorem State.updReel_orders (s : State) (i : Nat) (f : Reel → Reel) : (s.updReel i f).orders = s.orders := by
  unfold State.updReel; split <;> rfl
@[simp] theorem State.updReel_store (s : State) (i : Nat) (f : Reel → Reel) : (s.updReel i f).store = s.store := by
  unfold State.updReel; split <;> rfl
@[simp] theorem State.updReel_engine (s : State) (i : Nat) (f : Reel → Reel) : (s.updReel i f).engine = s.engine := by
  unfold State.updReel; split <;> rfl
@[simp] theorem State.updReel_snapshot (s : State) (i : Nat) (f : Reel → Reel) : (s.updReel i f).snapshot = s.snapshot := by
  unfold State.updReel; split <;> rfl
@[simp] theorem State.updReel_delivery (s : State) (i : Nat) (f : Reel → Reel) : (s.updReel i f).delivery = s.delivery := by
  unfold State.updReel; split <;> rfl
@[simp] theorem State.updReel_link (s : State) (i : Nat) (f : Reel → Reel) : (s.updReel i f).link = s.link := by
  unfold State.updReel; split <;> rfl
@[simp] theorem State.updReel_sent (s : State) (i : Nat) (f : Reel → Reel) : (s.updReel i f).sent = s.sent := by
  unfold State.updReel; split <;> rfl
@[simp] theorem State.updReel_pending (s : State) (i : Nat) (f : Reel → Reel) : (s.updReel i f).pending = s.pending := by
  unfold State.updReel; split <;> rfl

/-! ### `State.moveReel` -/

@[simp] theorem State.moveReel_powered (s : State) (i : Nat) (l : Location) : (s.moveReel i l).powered = s.powered := by simp [State.moveReel]
@[simp] theorem State.moveReel_stk (s : State) (i : Nat) (l : Location) : (s.moveReel i l).stk = s.stk := by simp [State.moveReel]
@[simp] theorem State.moveReel_stations (s : State) (i : Nat) (l : Location) : (s.moveReel i l).stations = s.stations := by simp [State.moveReel]
@[simp] theorem State.moveReel_lanes (s : State) (i : Nat) (l : Location) : (s.moveReel i l).lanes = s.lanes := by simp [State.moveReel]
@[simp] theorem State.moveReel_orders (s : State) (i : Nat) (l : Location) : (s.moveReel i l).orders = s.orders := by simp [State.moveReel]
@[simp] theorem State.moveReel_store (s : State) (i : Nat) (l : Location) : (s.moveReel i l).store = s.store := by simp [State.moveReel]
@[simp] theorem State.moveReel_engine (s : State) (i : Nat) (l : Location) : (s.moveReel i l).engine = s.engine := by simp [State.moveReel]
@[simp] theorem State.moveReel_snapshot (s : State) (i : Nat) (l : Location) : (s.moveReel i l).snapshot = s.snapshot := by simp [State.moveReel]
@[simp] theorem State.moveReel_delivery (s : State) (i : Nat) (l : Location) : (s.moveReel i l).delivery = s.delivery := by simp [State.moveReel]
@[simp] theorem State.moveReel_link (s : State) (i : Nat) (l : Location) : (s.moveReel i l).link = s.link := by simp [State.moveReel]
@[simp] theorem State.moveReel_sent (s : State) (i : Nat) (l : Location) : (s.moveReel i l).sent = s.sent := by simp [State.moveReel]
@[simp] theorem State.moveReel_pending (s : State) (i : Nat) (l : Location) : (s.moveReel i l).pending = s.pending := by simp [State.moveReel]

/-! ### `State.enterChamber` -/

@[simp] theorem State.enterChamber_powered (s : State) (i : Nat) (st : StationId) : (s.enterChamber i st).powered = s.powered := by simp [State.enterChamber]
@[simp] theorem State.enterChamber_stk (s : State) (i : Nat) (st : StationId) : (s.enterChamber i st).stk = s.stk := by simp [State.enterChamber]
@[simp] theorem State.enterChamber_stations (s : State) (i : Nat) (st : StationId) : (s.enterChamber i st).stations = s.stations := by simp [State.enterChamber]
@[simp] theorem State.enterChamber_lanes (s : State) (i : Nat) (st : StationId) : (s.enterChamber i st).lanes = s.lanes := by simp [State.enterChamber]
@[simp] theorem State.enterChamber_orders (s : State) (i : Nat) (st : StationId) : (s.enterChamber i st).orders = s.orders := by simp [State.enterChamber]
@[simp] theorem State.enterChamber_store (s : State) (i : Nat) (st : StationId) : (s.enterChamber i st).store = s.store := by simp [State.enterChamber]
@[simp] theorem State.enterChamber_engine (s : State) (i : Nat) (st : StationId) : (s.enterChamber i st).engine = s.engine := by simp [State.enterChamber]
@[simp] theorem State.enterChamber_snapshot (s : State) (i : Nat) (st : StationId) : (s.enterChamber i st).snapshot = s.snapshot := by simp [State.enterChamber]
@[simp] theorem State.enterChamber_delivery (s : State) (i : Nat) (st : StationId) : (s.enterChamber i st).delivery = s.delivery := by simp [State.enterChamber]
@[simp] theorem State.enterChamber_link (s : State) (i : Nat) (st : StationId) : (s.enterChamber i st).link = s.link := by simp [State.enterChamber]
@[simp] theorem State.enterChamber_sent (s : State) (i : Nat) (st : StationId) : (s.enterChamber i st).sent = s.sent := by simp [State.enterChamber]
@[simp] theorem State.enterChamber_pending (s : State) (i : Nat) (st : StationId) : (s.enterChamber i st).pending = s.pending := by simp [State.enterChamber]

/-! ### `State.setCustody` -/

@[simp] theorem State.setCustody_powered (s : State) (i : Nat) (c : Custody) : (s.setCustody i c).powered = s.powered := by simp [State.setCustody]
@[simp] theorem State.setCustody_stk (s : State) (i : Nat) (c : Custody) : (s.setCustody i c).stk = s.stk := by simp [State.setCustody]
@[simp] theorem State.setCustody_stations (s : State) (i : Nat) (c : Custody) : (s.setCustody i c).stations = s.stations := by simp [State.setCustody]
@[simp] theorem State.setCustody_lanes (s : State) (i : Nat) (c : Custody) : (s.setCustody i c).lanes = s.lanes := by simp [State.setCustody]
@[simp] theorem State.setCustody_orders (s : State) (i : Nat) (c : Custody) : (s.setCustody i c).orders = s.orders := by simp [State.setCustody]
@[simp] theorem State.setCustody_store (s : State) (i : Nat) (c : Custody) : (s.setCustody i c).store = s.store := by simp [State.setCustody]
@[simp] theorem State.setCustody_engine (s : State) (i : Nat) (c : Custody) : (s.setCustody i c).engine = s.engine := by simp [State.setCustody]
@[simp] theorem State.setCustody_snapshot (s : State) (i : Nat) (c : Custody) : (s.setCustody i c).snapshot = s.snapshot := by simp [State.setCustody]
@[simp] theorem State.setCustody_delivery (s : State) (i : Nat) (c : Custody) : (s.setCustody i c).delivery = s.delivery := by simp [State.setCustody]
@[simp] theorem State.setCustody_link (s : State) (i : Nat) (c : Custody) : (s.setCustody i c).link = s.link := by simp [State.setCustody]
@[simp] theorem State.setCustody_sent (s : State) (i : Nat) (c : Custody) : (s.setCustody i c).sent = s.sent := by simp [State.setCustody]
@[simp] theorem State.setCustody_pending (s : State) (i : Nat) (c : Custody) : (s.setCustody i c).pending = s.pending := by simp [State.setCustody]

/-! ### `State.updRunning` -/

@[simp] theorem State.updRunning_powered (s : State) (i : Nat) (f : PassRecord → PassRecord) : (s.updRunning i f).powered = s.powered := by simp [State.updRunning]
@[simp] theorem State.updRunning_stk (s : State) (i : Nat) (f : PassRecord → PassRecord) : (s.updRunning i f).stk = s.stk := by simp [State.updRunning]
@[simp] theorem State.updRunning_stations (s : State) (i : Nat) (f : PassRecord → PassRecord) : (s.updRunning i f).stations = s.stations := by simp [State.updRunning]
@[simp] theorem State.updRunning_lanes (s : State) (i : Nat) (f : PassRecord → PassRecord) : (s.updRunning i f).lanes = s.lanes := by simp [State.updRunning]
@[simp] theorem State.updRunning_orders (s : State) (i : Nat) (f : PassRecord → PassRecord) : (s.updRunning i f).orders = s.orders := by simp [State.updRunning]
@[simp] theorem State.updRunning_store (s : State) (i : Nat) (f : PassRecord → PassRecord) : (s.updRunning i f).store = s.store := by simp [State.updRunning]
@[simp] theorem State.updRunning_engine (s : State) (i : Nat) (f : PassRecord → PassRecord) : (s.updRunning i f).engine = s.engine := by simp [State.updRunning]
@[simp] theorem State.updRunning_snapshot (s : State) (i : Nat) (f : PassRecord → PassRecord) : (s.updRunning i f).snapshot = s.snapshot := by simp [State.updRunning]
@[simp] theorem State.updRunning_delivery (s : State) (i : Nat) (f : PassRecord → PassRecord) : (s.updRunning i f).delivery = s.delivery := by simp [State.updRunning]
@[simp] theorem State.updRunning_link (s : State) (i : Nat) (f : PassRecord → PassRecord) : (s.updRunning i f).link = s.link := by simp [State.updRunning]
@[simp] theorem State.updRunning_sent (s : State) (i : Nat) (f : PassRecord → PassRecord) : (s.updRunning i f).sent = s.sent := by simp [State.updRunning]
@[simp] theorem State.updRunning_pending (s : State) (i : Nat) (f : PassRecord → PassRecord) : (s.updRunning i f).pending = s.pending := by simp [State.updRunning]

/-! ### `State.updStation` -/

@[simp] theorem State.updStation_powered (s : State) (st : StationId) (f : Station → Station) : (s.updStation st f).powered = s.powered := rfl
@[simp] theorem State.updStation_retained (s : State) (st : StationId) (f : Station → Station) : (s.updStation st f).retained = s.retained := rfl
@[simp] theorem State.updStation_stk (s : State) (st : StationId) (f : Station → Station) : (s.updStation st f).stk = s.stk := rfl
@[simp] theorem State.updStation_lanes (s : State) (st : StationId) (f : Station → Station) : (s.updStation st f).lanes = s.lanes := rfl
@[simp] theorem State.updStation_orders (s : State) (st : StationId) (f : Station → Station) : (s.updStation st f).orders = s.orders := rfl
@[simp] theorem State.updStation_store (s : State) (st : StationId) (f : Station → Station) : (s.updStation st f).store = s.store := rfl
@[simp] theorem State.updStation_engine (s : State) (st : StationId) (f : Station → Station) : (s.updStation st f).engine = s.engine := rfl
@[simp] theorem State.updStation_snapshot (s : State) (st : StationId) (f : Station → Station) : (s.updStation st f).snapshot = s.snapshot := rfl
@[simp] theorem State.updStation_delivery (s : State) (st : StationId) (f : Station → Station) : (s.updStation st f).delivery = s.delivery := rfl
@[simp] theorem State.updStation_link (s : State) (st : StationId) (f : Station → Station) : (s.updStation st f).link = s.link := rfl
@[simp] theorem State.updStation_sent (s : State) (st : StationId) (f : Station → Station) : (s.updStation st f).sent = s.sent := rfl
@[simp] theorem State.updStation_pending (s : State) (st : StationId) (f : Station → Station) : (s.updStation st f).pending = s.pending := rfl

/-! ### `State.updOrder` -/

@[simp] theorem State.updOrder_powered (s : State) (st : StationId) (f : WorkOrder → WorkOrder) : (s.updOrder st f).powered = s.powered := rfl
@[simp] theorem State.updOrder_retained (s : State) (st : StationId) (f : WorkOrder → WorkOrder) : (s.updOrder st f).retained = s.retained := rfl
@[simp] theorem State.updOrder_stk (s : State) (st : StationId) (f : WorkOrder → WorkOrder) : (s.updOrder st f).stk = s.stk := rfl
@[simp] theorem State.updOrder_stations (s : State) (st : StationId) (f : WorkOrder → WorkOrder) : (s.updOrder st f).stations = s.stations := rfl
@[simp] theorem State.updOrder_lanes (s : State) (st : StationId) (f : WorkOrder → WorkOrder) : (s.updOrder st f).lanes = s.lanes := rfl
@[simp] theorem State.updOrder_store (s : State) (st : StationId) (f : WorkOrder → WorkOrder) : (s.updOrder st f).store = s.store := rfl
@[simp] theorem State.updOrder_engine (s : State) (st : StationId) (f : WorkOrder → WorkOrder) : (s.updOrder st f).engine = s.engine := rfl
@[simp] theorem State.updOrder_snapshot (s : State) (st : StationId) (f : WorkOrder → WorkOrder) : (s.updOrder st f).snapshot = s.snapshot := rfl
@[simp] theorem State.updOrder_delivery (s : State) (st : StationId) (f : WorkOrder → WorkOrder) : (s.updOrder st f).delivery = s.delivery := rfl
@[simp] theorem State.updOrder_link (s : State) (st : StationId) (f : WorkOrder → WorkOrder) : (s.updOrder st f).link = s.link := rfl
@[simp] theorem State.updOrder_sent (s : State) (st : StationId) (f : WorkOrder → WorkOrder) : (s.updOrder st f).sent = s.sent := rfl
@[simp] theorem State.updOrder_pending (s : State) (st : StationId) (f : WorkOrder → WorkOrder) : (s.updOrder st f).pending = s.pending := rfl

/-! ### `State.updBody` -/

@[simp] theorem State.updBody_powered (s : State) (st : StationId) (f : OrderBody → OrderBody) : (s.updBody st f).powered = s.powered := rfl
@[simp] theorem State.updBody_retained (s : State) (st : StationId) (f : OrderBody → OrderBody) : (s.updBody st f).retained = s.retained := rfl
@[simp] theorem State.updBody_stk (s : State) (st : StationId) (f : OrderBody → OrderBody) : (s.updBody st f).stk = s.stk := rfl
@[simp] theorem State.updBody_stations (s : State) (st : StationId) (f : OrderBody → OrderBody) : (s.updBody st f).stations = s.stations := rfl
@[simp] theorem State.updBody_lanes (s : State) (st : StationId) (f : OrderBody → OrderBody) : (s.updBody st f).lanes = s.lanes := rfl
@[simp] theorem State.updBody_store (s : State) (st : StationId) (f : OrderBody → OrderBody) : (s.updBody st f).store = s.store := rfl
@[simp] theorem State.updBody_engine (s : State) (st : StationId) (f : OrderBody → OrderBody) : (s.updBody st f).engine = s.engine := rfl
@[simp] theorem State.updBody_snapshot (s : State) (st : StationId) (f : OrderBody → OrderBody) : (s.updBody st f).snapshot = s.snapshot := rfl
@[simp] theorem State.updBody_delivery (s : State) (st : StationId) (f : OrderBody → OrderBody) : (s.updBody st f).delivery = s.delivery := rfl
@[simp] theorem State.updBody_link (s : State) (st : StationId) (f : OrderBody → OrderBody) : (s.updBody st f).link = s.link := rfl
@[simp] theorem State.updBody_sent (s : State) (st : StationId) (f : OrderBody → OrderBody) : (s.updBody st f).sent = s.sent := rfl
@[simp] theorem State.updBody_pending (s : State) (st : StationId) (f : OrderBody → OrderBody) : (s.updBody st f).pending = s.pending := rfl

/-! ### `State.updSlot` -/

@[simp] theorem State.updSlot_powered (s : State) (i : Nat) (f : Slot → Slot) : (s.updSlot i f).powered = s.powered := by
  unfold State.updSlot; split <;> rfl
@[simp] theorem State.updSlot_retained (s : State) (i : Nat) (f : Slot → Slot) : (s.updSlot i f).retained = s.retained := by
  unfold State.updSlot; split <;> rfl
@[simp] theorem State.updSlot_stk (s : State) (i : Nat) (f : Slot → Slot) : (s.updSlot i f).stk = s.stk := by
  unfold State.updSlot; split <;> rfl
@[simp] theorem State.updSlot_stations (s : State) (i : Nat) (f : Slot → Slot) : (s.updSlot i f).stations = s.stations := by
  unfold State.updSlot; split <;> rfl
@[simp] theorem State.updSlot_lanes (s : State) (i : Nat) (f : Slot → Slot) : (s.updSlot i f).lanes = s.lanes := by
  unfold State.updSlot; split <;> rfl
@[simp] theorem State.updSlot_orders (s : State) (i : Nat) (f : Slot → Slot) : (s.updSlot i f).orders = s.orders := by
  unfold State.updSlot; split <;> rfl
@[simp] theorem State.updSlot_engine (s : State) (i : Nat) (f : Slot → Slot) : (s.updSlot i f).engine = s.engine := by
  unfold State.updSlot; split <;> rfl
@[simp] theorem State.updSlot_snapshot (s : State) (i : Nat) (f : Slot → Slot) : (s.updSlot i f).snapshot = s.snapshot := by
  unfold State.updSlot; split <;> rfl
@[simp] theorem State.updSlot_delivery (s : State) (i : Nat) (f : Slot → Slot) : (s.updSlot i f).delivery = s.delivery := by
  unfold State.updSlot; split <;> rfl
@[simp] theorem State.updSlot_link (s : State) (i : Nat) (f : Slot → Slot) : (s.updSlot i f).link = s.link := by
  unfold State.updSlot; split <;> rfl
@[simp] theorem State.updSlot_sent (s : State) (i : Nat) (f : Slot → Slot) : (s.updSlot i f).sent = s.sent := by
  unfold State.updSlot; split <;> rfl
@[simp] theorem State.updSlot_pending (s : State) (i : Nat) (f : Slot → Slot) : (s.updSlot i f).pending = s.pending := by
  unfold State.updSlot; split <;> rfl

/-! ### `State.setLane` -/

@[simp] theorem State.setLane_powered (s : State) (l : LaneId) (v : Lane) : (s.setLane l v).powered = s.powered := by cases l <;> rfl
@[simp] theorem State.setLane_retained (s : State) (l : LaneId) (v : Lane) : (s.setLane l v).retained = s.retained := by cases l <;> rfl
@[simp] theorem State.setLane_stk (s : State) (l : LaneId) (v : Lane) : (s.setLane l v).stk = s.stk := by cases l <;> rfl
@[simp] theorem State.setLane_stations (s : State) (l : LaneId) (v : Lane) : (s.setLane l v).stations = s.stations := by cases l <;> rfl
@[simp] theorem State.setLane_orders (s : State) (l : LaneId) (v : Lane) : (s.setLane l v).orders = s.orders := by cases l <;> rfl
@[simp] theorem State.setLane_store (s : State) (l : LaneId) (v : Lane) : (s.setLane l v).store = s.store := by cases l <;> rfl
@[simp] theorem State.setLane_engine (s : State) (l : LaneId) (v : Lane) : (s.setLane l v).engine = s.engine := by cases l <;> rfl
@[simp] theorem State.setLane_snapshot (s : State) (l : LaneId) (v : Lane) : (s.setLane l v).snapshot = s.snapshot := by cases l <;> rfl
@[simp] theorem State.setLane_delivery (s : State) (l : LaneId) (v : Lane) : (s.setLane l v).delivery = s.delivery := by cases l <;> rfl
@[simp] theorem State.setLane_link (s : State) (l : LaneId) (v : Lane) : (s.setLane l v).link = s.link := by cases l <;> rfl
@[simp] theorem State.setLane_sent (s : State) (l : LaneId) (v : Lane) : (s.setLane l v).sent = s.sent := by cases l <;> rfl
@[simp] theorem State.setLane_pending (s : State) (l : LaneId) (v : Lane) : (s.setLane l v).pending = s.pending := by cases l <;> rfl

/-! ### `State.updSource` -/

@[simp] theorem State.updSource_powered (s : State) (f : PatternSource → PatternSource) : (s.updSource f).powered = s.powered := rfl
@[simp] theorem State.updSource_retained (s : State) (f : PatternSource → PatternSource) : (s.updSource f).retained = s.retained := rfl
@[simp] theorem State.updSource_stk (s : State) (f : PatternSource → PatternSource) : (s.updSource f).stk = s.stk := rfl
@[simp] theorem State.updSource_stations (s : State) (f : PatternSource → PatternSource) : (s.updSource f).stations = s.stations := rfl
@[simp] theorem State.updSource_orders (s : State) (f : PatternSource → PatternSource) : (s.updSource f).orders = s.orders := rfl
@[simp] theorem State.updSource_store (s : State) (f : PatternSource → PatternSource) : (s.updSource f).store = s.store := rfl
@[simp] theorem State.updSource_engine (s : State) (f : PatternSource → PatternSource) : (s.updSource f).engine = s.engine := rfl
@[simp] theorem State.updSource_snapshot (s : State) (f : PatternSource → PatternSource) : (s.updSource f).snapshot = s.snapshot := rfl
@[simp] theorem State.updSource_delivery (s : State) (f : PatternSource → PatternSource) : (s.updSource f).delivery = s.delivery := rfl
@[simp] theorem State.updSource_link (s : State) (f : PatternSource → PatternSource) : (s.updSource f).link = s.link := rfl
@[simp] theorem State.updSource_sent (s : State) (f : PatternSource → PatternSource) : (s.updSource f).sent = s.sent := rfl
@[simp] theorem State.updSource_pending (s : State) (f : PatternSource → PatternSource) : (s.updSource f).pending = s.pending := rfl

/-! ### `State.updPosition` -/

@[simp] theorem State.updPosition_powered (s : State) (p : Nat) (f : Staging → Staging) : (s.updPosition p f).powered = s.powered := by
  unfold State.updPosition; split <;> rfl
@[simp] theorem State.updPosition_retained (s : State) (p : Nat) (f : Staging → Staging) : (s.updPosition p f).retained = s.retained := by
  unfold State.updPosition; split <;> rfl
@[simp] theorem State.updPosition_stations (s : State) (p : Nat) (f : Staging → Staging) : (s.updPosition p f).stations = s.stations := by
  unfold State.updPosition; split <;> rfl
@[simp] theorem State.updPosition_lanes (s : State) (p : Nat) (f : Staging → Staging) : (s.updPosition p f).lanes = s.lanes := by
  unfold State.updPosition; split <;> rfl
@[simp] theorem State.updPosition_orders (s : State) (p : Nat) (f : Staging → Staging) : (s.updPosition p f).orders = s.orders := by
  unfold State.updPosition; split <;> rfl
@[simp] theorem State.updPosition_store (s : State) (p : Nat) (f : Staging → Staging) : (s.updPosition p f).store = s.store := by
  unfold State.updPosition; split <;> rfl
@[simp] theorem State.updPosition_engine (s : State) (p : Nat) (f : Staging → Staging) : (s.updPosition p f).engine = s.engine := by
  unfold State.updPosition; split <;> rfl
@[simp] theorem State.updPosition_snapshot (s : State) (p : Nat) (f : Staging → Staging) : (s.updPosition p f).snapshot = s.snapshot := by
  unfold State.updPosition; split <;> rfl
@[simp] theorem State.updPosition_delivery (s : State) (p : Nat) (f : Staging → Staging) : (s.updPosition p f).delivery = s.delivery := by
  unfold State.updPosition; split <;> rfl
@[simp] theorem State.updPosition_link (s : State) (p : Nat) (f : Staging → Staging) : (s.updPosition p f).link = s.link := by
  unfold State.updPosition; split <;> rfl
@[simp] theorem State.updPosition_sent (s : State) (p : Nat) (f : Staging → Staging) : (s.updPosition p f).sent = s.sent := by
  unfold State.updPosition; split <;> rfl
@[simp] theorem State.updPosition_pending (s : State) (p : Nat) (f : Staging → Staging) : (s.updPosition p f).pending = s.pending := by
  unfold State.updPosition; split <;> rfl

/-! ### `State.setCarriage` -/

@[simp] theorem State.setCarriage_powered (s : State) (c : Carriage) : (s.setCarriage c).powered = s.powered := rfl
@[simp] theorem State.setCarriage_retained (s : State) (c : Carriage) : (s.setCarriage c).retained = s.retained := rfl
@[simp] theorem State.setCarriage_stations (s : State) (c : Carriage) : (s.setCarriage c).stations = s.stations := rfl
@[simp] theorem State.setCarriage_lanes (s : State) (c : Carriage) : (s.setCarriage c).lanes = s.lanes := rfl
@[simp] theorem State.setCarriage_orders (s : State) (c : Carriage) : (s.setCarriage c).orders = s.orders := rfl
@[simp] theorem State.setCarriage_store (s : State) (c : Carriage) : (s.setCarriage c).store = s.store := rfl
@[simp] theorem State.setCarriage_engine (s : State) (c : Carriage) : (s.setCarriage c).engine = s.engine := rfl
@[simp] theorem State.setCarriage_snapshot (s : State) (c : Carriage) : (s.setCarriage c).snapshot = s.snapshot := rfl
@[simp] theorem State.setCarriage_delivery (s : State) (c : Carriage) : (s.setCarriage c).delivery = s.delivery := rfl
@[simp] theorem State.setCarriage_link (s : State) (c : Carriage) : (s.setCarriage c).link = s.link := rfl
@[simp] theorem State.setCarriage_sent (s : State) (c : Carriage) : (s.setCarriage c).sent = s.sent := rfl
@[simp] theorem State.setCarriage_pending (s : State) (c : Carriage) : (s.setCarriage c).pending = s.pending := rfl

/-! ### `State.endForwarded` -/

@[simp] theorem State.endForwarded_powered (s : State) : (s.endForwarded).powered = s.powered := rfl
@[simp] theorem State.endForwarded_retained (s : State) : (s.endForwarded).retained = s.retained := rfl
@[simp] theorem State.endForwarded_stations (s : State) : (s.endForwarded).stations = s.stations := rfl
@[simp] theorem State.endForwarded_lanes (s : State) : (s.endForwarded).lanes = s.lanes := rfl
@[simp] theorem State.endForwarded_orders (s : State) : (s.endForwarded).orders = s.orders := rfl
@[simp] theorem State.endForwarded_store (s : State) : (s.endForwarded).store = s.store := rfl
@[simp] theorem State.endForwarded_engine (s : State) : (s.endForwarded).engine = s.engine := rfl
@[simp] theorem State.endForwarded_snapshot (s : State) : (s.endForwarded).snapshot = s.snapshot := rfl
@[simp] theorem State.endForwarded_delivery (s : State) : (s.endForwarded).delivery = s.delivery := rfl
@[simp] theorem State.endForwarded_link (s : State) : (s.endForwarded).link = s.link := rfl
@[simp] theorem State.endForwarded_sent (s : State) : (s.endForwarded).sent = s.sent := rfl
@[simp] theorem State.endForwarded_pending (s : State) : (s.endForwarded).pending = s.pending := rfl

/-! ### `State.liftIdle` -/

@[simp] theorem State.liftIdle_powered (s : State) : (s.liftIdle).powered = s.powered := rfl
@[simp] theorem State.liftIdle_retained (s : State) : (s.liftIdle).retained = s.retained := rfl
@[simp] theorem State.liftIdle_stations (s : State) : (s.liftIdle).stations = s.stations := rfl
@[simp] theorem State.liftIdle_lanes (s : State) : (s.liftIdle).lanes = s.lanes := rfl
@[simp] theorem State.liftIdle_orders (s : State) : (s.liftIdle).orders = s.orders := rfl
@[simp] theorem State.liftIdle_store (s : State) : (s.liftIdle).store = s.store := rfl
@[simp] theorem State.liftIdle_engine (s : State) : (s.liftIdle).engine = s.engine := rfl
@[simp] theorem State.liftIdle_snapshot (s : State) : (s.liftIdle).snapshot = s.snapshot := rfl
@[simp] theorem State.liftIdle_delivery (s : State) : (s.liftIdle).delivery = s.delivery := rfl
@[simp] theorem State.liftIdle_link (s : State) : (s.liftIdle).link = s.link := rfl
@[simp] theorem State.liftIdle_sent (s : State) : (s.liftIdle).sent = s.sent := rfl
@[simp] theorem State.liftIdle_pending (s : State) : (s.liftIdle).pending = s.pending := rfl

/-! ### `State.updMove` -/

@[simp] theorem State.updMove_powered (s : State) (f : MoveRecord → MoveRecord) : (s.updMove f).powered = s.powered := rfl
@[simp] theorem State.updMove_retained (s : State) (f : MoveRecord → MoveRecord) : (s.updMove f).retained = s.retained := rfl
@[simp] theorem State.updMove_stations (s : State) (f : MoveRecord → MoveRecord) : (s.updMove f).stations = s.stations := rfl
@[simp] theorem State.updMove_lanes (s : State) (f : MoveRecord → MoveRecord) : (s.updMove f).lanes = s.lanes := rfl
@[simp] theorem State.updMove_orders (s : State) (f : MoveRecord → MoveRecord) : (s.updMove f).orders = s.orders := rfl
@[simp] theorem State.updMove_store (s : State) (f : MoveRecord → MoveRecord) : (s.updMove f).store = s.store := rfl
@[simp] theorem State.updMove_engine (s : State) (f : MoveRecord → MoveRecord) : (s.updMove f).engine = s.engine := rfl
@[simp] theorem State.updMove_snapshot (s : State) (f : MoveRecord → MoveRecord) : (s.updMove f).snapshot = s.snapshot := rfl
@[simp] theorem State.updMove_delivery (s : State) (f : MoveRecord → MoveRecord) : (s.updMove f).delivery = s.delivery := rfl
@[simp] theorem State.updMove_link (s : State) (f : MoveRecord → MoveRecord) : (s.updMove f).link = s.link := rfl
@[simp] theorem State.updMove_sent (s : State) (f : MoveRecord → MoveRecord) : (s.updMove f).sent = s.sent := rfl
@[simp] theorem State.updMove_pending (s : State) (f : MoveRecord → MoveRecord) : (s.updMove f).pending = s.pending := rfl

/-! ### `State.toStation` -/

@[simp] theorem State.toStation_powered (s : State) (st : StationId) (c : StationCommand) : (s.toStation st c).powered = s.powered := rfl
@[simp] theorem State.toStation_retained (s : State) (st : StationId) (c : StationCommand) : (s.toStation st c).retained = s.retained := rfl
@[simp] theorem State.toStation_stk (s : State) (st : StationId) (c : StationCommand) : (s.toStation st c).stk = s.stk := rfl
@[simp] theorem State.toStation_stations (s : State) (st : StationId) (c : StationCommand) : (s.toStation st c).stations = s.stations := rfl
@[simp] theorem State.toStation_lanes (s : State) (st : StationId) (c : StationCommand) : (s.toStation st c).lanes = s.lanes := rfl
@[simp] theorem State.toStation_orders (s : State) (st : StationId) (c : StationCommand) : (s.toStation st c).orders = s.orders := rfl
@[simp] theorem State.toStation_store (s : State) (st : StationId) (c : StationCommand) : (s.toStation st c).store = s.store := rfl
@[simp] theorem State.toStation_engine (s : State) (st : StationId) (c : StationCommand) : (s.toStation st c).engine = s.engine := rfl
@[simp] theorem State.toStation_snapshot (s : State) (st : StationId) (c : StationCommand) : (s.toStation st c).snapshot = s.snapshot := rfl
@[simp] theorem State.toStation_delivery (s : State) (st : StationId) (c : StationCommand) : (s.toStation st c).delivery = s.delivery := rfl
@[simp] theorem State.toStation_link (s : State) (st : StationId) (c : StationCommand) : (s.toStation st c).link = s.link := rfl
@[simp] theorem State.toStation_pending (s : State) (st : StationId) (c : StationCommand) : (s.toStation st c).pending = s.pending := rfl

/-! ### `State.toLift` -/

@[simp] theorem State.toLift_powered (s : State) (c : LiftCommand) : (s.toLift c).powered = s.powered := rfl
@[simp] theorem State.toLift_retained (s : State) (c : LiftCommand) : (s.toLift c).retained = s.retained := rfl
@[simp] theorem State.toLift_stk (s : State) (c : LiftCommand) : (s.toLift c).stk = s.stk := rfl
@[simp] theorem State.toLift_stations (s : State) (c : LiftCommand) : (s.toLift c).stations = s.stations := rfl
@[simp] theorem State.toLift_lanes (s : State) (c : LiftCommand) : (s.toLift c).lanes = s.lanes := rfl
@[simp] theorem State.toLift_orders (s : State) (c : LiftCommand) : (s.toLift c).orders = s.orders := rfl
@[simp] theorem State.toLift_store (s : State) (c : LiftCommand) : (s.toLift c).store = s.store := rfl
@[simp] theorem State.toLift_engine (s : State) (c : LiftCommand) : (s.toLift c).engine = s.engine := rfl
@[simp] theorem State.toLift_snapshot (s : State) (c : LiftCommand) : (s.toLift c).snapshot = s.snapshot := rfl
@[simp] theorem State.toLift_delivery (s : State) (c : LiftCommand) : (s.toLift c).delivery = s.delivery := rfl
@[simp] theorem State.toLift_link (s : State) (c : LiftCommand) : (s.toLift c).link = s.link := rfl
@[simp] theorem State.toLift_pending (s : State) (c : LiftCommand) : (s.toLift c).pending = s.pending := rfl

/-! ### `State.emit` -/

@[simp] theorem State.emit_powered (s : State) (e : Emission) : (s.emit e).powered = s.powered := rfl
@[simp] theorem State.emit_retained (s : State) (e : Emission) : (s.emit e).retained = s.retained := rfl
@[simp] theorem State.emit_stk (s : State) (e : Emission) : (s.emit e).stk = s.stk := rfl
@[simp] theorem State.emit_stations (s : State) (e : Emission) : (s.emit e).stations = s.stations := rfl
@[simp] theorem State.emit_lanes (s : State) (e : Emission) : (s.emit e).lanes = s.lanes := rfl
@[simp] theorem State.emit_orders (s : State) (e : Emission) : (s.emit e).orders = s.orders := rfl
@[simp] theorem State.emit_store (s : State) (e : Emission) : (s.emit e).store = s.store := rfl
@[simp] theorem State.emit_engine (s : State) (e : Emission) : (s.emit e).engine = s.engine := rfl
@[simp] theorem State.emit_snapshot (s : State) (e : Emission) : (s.emit e).snapshot = s.snapshot := rfl
@[simp] theorem State.emit_delivery (s : State) (e : Emission) : (s.emit e).delivery = s.delivery := rfl
@[simp] theorem State.emit_link (s : State) (e : Emission) : (s.emit e).link = s.link := rfl
@[simp] theorem State.emit_pending (s : State) (e : Emission) : (s.emit e).pending = s.pending := rfl

/-! ### `State.updLink` -/

@[simp] theorem State.updLink_powered (s : State) (f : Link → Link) : (s.updLink f).powered = s.powered := rfl
@[simp] theorem State.updLink_retained (s : State) (f : Link → Link) : (s.updLink f).retained = s.retained := rfl
@[simp] theorem State.updLink_stk (s : State) (f : Link → Link) : (s.updLink f).stk = s.stk := rfl
@[simp] theorem State.updLink_stations (s : State) (f : Link → Link) : (s.updLink f).stations = s.stations := rfl
@[simp] theorem State.updLink_lanes (s : State) (f : Link → Link) : (s.updLink f).lanes = s.lanes := rfl
@[simp] theorem State.updLink_orders (s : State) (f : Link → Link) : (s.updLink f).orders = s.orders := rfl
@[simp] theorem State.updLink_store (s : State) (f : Link → Link) : (s.updLink f).store = s.store := rfl
@[simp] theorem State.updLink_engine (s : State) (f : Link → Link) : (s.updLink f).engine = s.engine := rfl
@[simp] theorem State.updLink_snapshot (s : State) (f : Link → Link) : (s.updLink f).snapshot = s.snapshot := rfl
@[simp] theorem State.updLink_delivery (s : State) (f : Link → Link) : (s.updLink f).delivery = s.delivery := rfl
@[simp] theorem State.updLink_sent (s : State) (f : Link → Link) : (s.updLink f).sent = s.sent := rfl
@[simp] theorem State.updLink_pending (s : State) (f : Link → Link) : (s.updLink f).pending = s.pending := rfl

/-! ### `State.raise` -/

@[simp] theorem State.raise_powered (s : State) (f : AlertFlag) (n : Names) : (s.raise f n).powered = s.powered := rfl
@[simp] theorem State.raise_retained (s : State) (f : AlertFlag) (n : Names) : (s.raise f n).retained = s.retained := rfl
@[simp] theorem State.raise_stk (s : State) (f : AlertFlag) (n : Names) : (s.raise f n).stk = s.stk := rfl
@[simp] theorem State.raise_stations (s : State) (f : AlertFlag) (n : Names) : (s.raise f n).stations = s.stations := rfl
@[simp] theorem State.raise_lanes (s : State) (f : AlertFlag) (n : Names) : (s.raise f n).lanes = s.lanes := rfl
@[simp] theorem State.raise_orders (s : State) (f : AlertFlag) (n : Names) : (s.raise f n).orders = s.orders := rfl
@[simp] theorem State.raise_store (s : State) (f : AlertFlag) (n : Names) : (s.raise f n).store = s.store := rfl
@[simp] theorem State.raise_engine (s : State) (f : AlertFlag) (n : Names) : (s.raise f n).engine = s.engine := rfl
@[simp] theorem State.raise_snapshot (s : State) (f : AlertFlag) (n : Names) : (s.raise f n).snapshot = s.snapshot := rfl
@[simp] theorem State.raise_delivery (s : State) (f : AlertFlag) (n : Names) : (s.raise f n).delivery = s.delivery := rfl
@[simp] theorem State.raise_sent (s : State) (f : AlertFlag) (n : Names) : (s.raise f n).sent = s.sent := rfl
@[simp] theorem State.raise_pending (s : State) (f : AlertFlag) (n : Names) : (s.raise f n).pending = s.pending := rfl

/-! ### `State.reply` -/

@[simp] theorem State.reply_powered (s : State) (h : RequestHeader) (b : ReplyBody) : (s.reply h b).powered = s.powered := rfl
@[simp] theorem State.reply_retained (s : State) (h : RequestHeader) (b : ReplyBody) : (s.reply h b).retained = s.retained := rfl
@[simp] theorem State.reply_stk (s : State) (h : RequestHeader) (b : ReplyBody) : (s.reply h b).stk = s.stk := rfl
@[simp] theorem State.reply_stations (s : State) (h : RequestHeader) (b : ReplyBody) : (s.reply h b).stations = s.stations := rfl
@[simp] theorem State.reply_lanes (s : State) (h : RequestHeader) (b : ReplyBody) : (s.reply h b).lanes = s.lanes := rfl
@[simp] theorem State.reply_orders (s : State) (h : RequestHeader) (b : ReplyBody) : (s.reply h b).orders = s.orders := rfl
@[simp] theorem State.reply_store (s : State) (h : RequestHeader) (b : ReplyBody) : (s.reply h b).store = s.store := rfl
@[simp] theorem State.reply_engine (s : State) (h : RequestHeader) (b : ReplyBody) : (s.reply h b).engine = s.engine := rfl
@[simp] theorem State.reply_snapshot (s : State) (h : RequestHeader) (b : ReplyBody) : (s.reply h b).snapshot = s.snapshot := rfl
@[simp] theorem State.reply_delivery (s : State) (h : RequestHeader) (b : ReplyBody) : (s.reply h b).delivery = s.delivery := rfl
@[simp] theorem State.reply_sent (s : State) (h : RequestHeader) (b : ReplyBody) : (s.reply h b).sent = s.sent := rfl
@[simp] theorem State.reply_pending (s : State) (h : RequestHeader) (b : ReplyBody) : (s.reply h b).pending = s.pending := rfl

end Sys2Proof.Machine
end

