-- ==== Sys2Proof/Laws/Ops.lean ====
section
/-!
SUPPORT. What the shared operations over records do: reading after writing, and what they leave of the other records.
-/

namespace Sys2Proof.Machine

/-! ### Registry entries -/

/-- A written entry reads as written; every other entry reads as before. -/
theorem State.reel?_setReel (s : State) (i j : Nat) (r : Option Reel) :
    (s.setReel i r).reel? j = if i = j ∧ i < 512 then r else s.reel? j := by
  unfold State.reel? State.setReel
  simp only [Vector.getElem?_setIfInBounds]
  by_cases h : i = j
  · subst h
    by_cases h2 : i < 512 <;> simp [h2]
  · simp [h]

@[simp] theorem State.setReel_checkAgrees (s : State) (i : Nat) (r : Option Reel) :
    (s.setReel i r).retained.checkAgrees = true := rfl
@[simp] theorem State.setReel_dwell (s : State) (i : Nat) (r : Option Reel) :
    (s.setReel i r).retained.dwell = s.retained.dwell := rfl
@[simp] theorem State.setReel_threshold (s : State) (i : Nat) (r : Option Reel) :
    (s.setReel i r).retained.threshold = s.retained.threshold := rfl

/-- A registered index is an entry of the registry. -/
theorem State.reel?_lt (s : State) (i : Nat) (r : Reel) (h : s.reel? i = some r) : i < 512 := by
  unfold State.reel? at h
  by_contra hn
  simp [Vector.getElem?_eq_none (Nat.le_of_not_lt hn)] at h

/-- Changing a registered reel writes the changed record. -/
theorem State.updReel_some (s : State) (i : Nat) (f : Reel → Reel) (r : Reel) (h : s.reel? i = some r) :
    s.updReel i f = s.setReel i (some (f r)) := by simp [State.updReel, h]

/-- Changing a free entry changes nothing. -/
theorem State.updReel_none (s : State) (i : Nat) (f : Reel → Reel) (h : s.reel? i = none) : s.updReel i f = s := by
  simp [State.updReel, h]

/-- A changed record reads as changed; every other entry reads as before. -/
theorem State.reel?_updReel (s : State) (i j : Nat) (f : Reel → Reel) :
    (s.updReel i f).reel? j = if i = j then (s.reel? i).map f else s.reel? j := by
  cases h : s.reel? i with
  | none =>
    rw [s.updReel_none i f h]
    split
    · next e => rw [← e, h]; rfl
    · rfl
  | some r =>
    rw [s.updReel_some i f r h, s.reel?_setReel]
    have := s.reel?_lt i r h
    simp [this]

/-- Registry reads depend on the retained memory only. -/
theorem State.reel?_congr {s t : State} (h : t.retained = s.retained) (i : Nat) : t.reel? i = s.reel? i := by
  simp [State.reel?, h]

/-- Registry searches depend on the retained memory only. -/
theorem State.findReel_congr {s t : State} (h : t.retained = s.retained) (p : Reel → Bool) :
    t.findReel p = s.findReel p := by simp [State.findReel, h]

/-- Finding the reel at a place depends on the retained memory only. -/
theorem State.reelAt_congr {s t : State} (h : t.retained = s.retained) (l : Location) : t.reelAt l = s.reelAt l :=
  State.findReel_congr h _

/-- The reel that a search of the registry finds passes its test. -/
theorem State.findReel_some (s : State) (p : Reel → Bool) (i : Nat) (r : Reel) (h : s.findReel p = some i)
    (hr : s.reel? i = some r) : p r = true := by
  obtain ⟨hi, ho, -⟩ := List.findIdx?_eq_some_iff_getElem.mp h
  have e : s.retained.reels.toList[i]? = some (some r) := by
    rw [Vector.getElem?_toList]; simpa [State.reel?, Option.join_eq_some_iff] using hr
  rw [List.getElem?_eq_some_iff] at e
  obtain ⟨_, e⟩ := e
  simpa [e] using ho

/-- The reel recorded at a place has that location (R2). -/
theorem State.reelAt_location (s : State) (l : Location) (i : Nat) (r : Reel) (h : s.reelAt l = some i)
    (hr : s.reel? i = some r) : r.location = l := by
  simpa using s.findReel_some _ i r h hr

/-! ### Stations, work orders, slots, lanes, staging positions -/

/-- What a station's record becomes when it is changed (R73). -/
theorem State.station_updStation (s : State) (st u : StationId) (f : Station → Station) :
    (s.updStation st f).station u =
      if u = st then
        (if (s.station st).runsAtSpeed && !(f (s.station st)).runsAtSpeed then { f (s.station st) with filter := .clear }
          else f (s.station st))
      else s.station u := by
  unfold State.station State.updStation
  by_cases h : u = st
  · subst h; simp
  · have hv : st.val ≠ u.val := fun e => h (Fin.ext e.symm)
    simp [h, hv]

/-- A changed work order reads as changed; every other one reads as before. -/
theorem State.order_updOrder (s : State) (st u : StationId) (f : WorkOrder → WorkOrder) :
    (s.updOrder st f).order u = if u = st then f (s.order st) else s.order u := by
  unfold State.order State.updOrder
  by_cases h : u = st
  · subst h; simp
  · have hv : st.val ≠ u.val := fun e => h (Fin.ext e.symm)
    simp [h, hv]

/-- A changed slot reads as changed; every other one reads as before. -/
theorem State.slot?_updSlot (s : State) (i j : Nat) (f : Slot → Slot) :
    (s.updSlot i f).slot? j = if i = j then (s.slot? i).map f else s.slot? j := by
  unfold State.slot? State.updSlot
  cases h : s.store.slots[i]? with
  | none =>
    by_cases e : i = j
    · subst e; simp [h]
    · simp [e]
  | some x =>
    have hi : i < 128 := by
      by_contra hn
      simp [Vector.getElem?_eq_none (Nat.le_of_not_lt hn)] at h
    simp only [Vector.getElem?_setIfInBounds]
    by_cases e : i = j
    · subst e; simp [hi]
    · simp [e]

/-- A lane written reads as written; the other one reads as before. -/
theorem State.lane_setLane (s : State) (l m : LaneId) (v : Lane) :
    (s.setLane l v).lane m = if m = l then v else s.lane m := by
  cases l <;> cases m <;> rfl

@[simp] theorem State.setLane_waitList (s : State) (l : LaneId) (v : Lane) :
    (s.setLane l v).lanes.waitList = s.lanes.waitList := by cases l <;> rfl
@[simp] theorem State.setLane_source (s : State) (l : LaneId) (v : Lane) :
    (s.setLane l v).lanes.source = s.lanes.source := by cases l <;> rfl

/-- A changed staging position reads as changed; every other one reads as before. -/
theorem State.position?_updPosition (s : State) (p q : Nat) (f : Staging → Staging) :
    (s.updPosition p f).position? q = if p = q then (s.position? p).map f else s.position? q := by
  unfold State.position? State.updPosition
  cases h : s.stk.positions[p]? with
  | none =>
    by_cases e : p = q
    · subst e; simp [h]
    · simp [e]
  | some x =>
    have hp : p < 8 := by
      by_contra hn
      simp [Vector.getElem?_eq_none (Nat.le_of_not_lt hn)] at h
    simp only [Vector.getElem?_setIfInBounds]
    by_cases e : p = q
    · subst e; simp [hp]
    · simp [e]

/-- What a change of a staging position leaves of the rest of the stacks. -/
theorem State.updPosition_stk (s : State) (p : Nat) (f : Staging → Staging) :
    ∃ v, (s.updPosition p f).stk = { s.stk with positions := v } := by
  unfold State.updPosition
  split
  · exact ⟨_, rfl⟩
  · exact ⟨s.stk.positions, rfl⟩

/-! ### The link -/

/-- Taking the head leaves everything of LNK but the pending marks and the outbound list. -/
theorem Link.transmit_frame (l : Link) :
    ∃ p o, l.transmit = { l with pending := p, outbound := o } := by
  unfold Link.transmit
  split
  · split <;> exact ⟨_, _, rfl⟩
  · exact ⟨l.pending, l.outbound, rfl⟩

/-- Placing a notice leaves everything of LNK but the pending marks and the outbound list. -/
theorem Link.placeNotice_frame (l : Link) (f : AlertFlag) :
    ∃ p o, l.placeNotice f = { l with pending := p, outbound := o } := by
  unfold Link.placeNotice Link.place
  split
  · obtain ⟨p, o, h⟩ := Link.transmit_frame { l with outbound := l.outbound ++ [.notice f] }
    exact ⟨p, o, h⟩
  · exact ⟨l.pending, l.outbound, rfl⟩

/-- Nothing is taken where the head is no waiting notice. -/
theorem Link.transmit_of_headTaken (l : Link) (h : ∀ f, l.outbound.head? ≠ some (.notice f)) : l.transmit = l := by
  unfold Link.transmit
  split
  · next f rest e => exact absurd (by rw [e]; rfl) (h f)
  · rfl

/-- A reply placed where the head is taken goes to the tail. -/
theorem Link.place_reply (l : Link) (r : Reply) (h : ∀ f, l.outbound.head? ≠ some (.notice f)) :
    l.place (.reply r) = { l with outbound := l.outbound ++ [.reply r] } := by
  refine Link.transmit_of_headTaken _ ?_
  intro f
  cases e : l.outbound with
  | nil => simp
  | cons a rest => simpa [e] using h f

/-- Raising a flag sets it in the alert word (R182). -/
theorem State.raise_word (s : State) (f : AlertFlag) (n : Names) :
    (s.raise f n).link.word = s.link.word ||| BitVec.twoPow 22 f.number := by
  unfold State.raise State.updLink
  obtain ⟨p, o, h⟩ := Link.placeNotice_frame
    { s.link with word := s.link.word ||| BitVec.twoPow 22 f.number
                  pending := s.link.pending.set f.number (some (n.context s.link.clock)) } f
  simp only [h]

/-- Raising a flag leaves the settings of LNK. -/
theorem State.raise_settings (s : State) (f : AlertFlag) (n : Names) :
    ∃ w p o, (s.raise f n).link = { s.link with word := w, pending := p, outbound := o } := by
  unfold State.raise State.updLink
  obtain ⟨p, o, h⟩ := Link.placeNotice_frame
    { s.link with word := s.link.word ||| BitVec.twoPow 22 f.number
                  pending := s.link.pending.set f.number (some (n.context s.link.clock)) } f
  exact ⟨s.link.word ||| BitVec.twoPow 22 f.number, p, o, h⟩

end Sys2Proof.Machine
end

