-- ==== Sys2Proof/Laws/Lanes.lean ====
section
/-!
SUPPORT. The lanes: who holds them and who waits under every operation of the Capture Crosspoint, and that each keeps the
lanes exclusive (R88 to R97).
-/

namespace Sys2Proof.Machine

/-- The lanes have the same holders and the same stations wait, in the same order. -/
structure SameHolders (s t : State) : Prop where
  waitList : t.lanes.waitList = s.lanes.waitList
  heldBy : ∀ l st, (t.lane l).heldBy st = (s.lane l).heldBy st

theorem SameHolders.refl (s : State) : SameHolders s s := ⟨rfl, fun _ _ => rfl⟩

theorem SameHolders.trans {s t u : State} (h : SameHolders s t) (k : SameHolders t u) : SameHolders s u :=
  ⟨k.waitList.trans h.waitList, fun l st => (k.heldBy l st).trans (h.heldBy l st)⟩

/-- States with the same lanes have the same holders. -/
theorem SameHolders.of_lanes {s t : State} (h : t.lanes = s.lanes) : SameHolders s t :=
  ⟨by rw [h], fun l st => by cases l <;> simp only [State.lane, h]⟩

/-- The lane a station holds depends on the holders only. -/
theorem SameHolders.laneOf {s t : State} (h : SameHolders s t) (st : StationId) : t.laneOf st = s.laneOf st := by
  have a := h.heldBy .a st
  have b := h.heldBy .b st
  simp only [State.lane] at a b
  simp only [State.laneOf, a, b]

/-- Exclusive lanes stay exclusive while holders and waiting stations are the same. -/
theorem LanesExclusive.congr {s t : State} (h : SameHolders s t) (e : LanesExclusive s) : LanesExclusive t := by
  refine ⟨fun st k => e.holders st ?_, fun st m => ?_, ?_⟩
  · have a := h.heldBy .a st
    have b := h.heldBy .b st
    simp only [State.lane] at a b
    rwa [a, b] at k
  · rw [h.laneOf]; exact e.apart st (h.waitList ▸ m)
  · rw [h.waitList]; exact e.once

/-- A station that holds no lane holds neither. -/
theorem State.laneOf_none (s : State) (st : StationId) :
    s.laneOf st = none ↔ ∀ l, (s.lane l).heldBy st = false := by
  constructor
  · intro h l
    unfold State.laneOf at h
    cases l <;> simp only [State.lane] <;> split at h <;> simp_all
  · intro h
    have a := h .a
    have b := h .b
    simp only [State.lane] at a b
    simp [State.laneOf, a, b]

/-! ### Carriages and releases -/

/-- A lane whose holder stays keeps the holders. -/
theorem SameHolders.setLane (s : State) (l : LaneId) (v : Lane) (h : ∀ st, v.heldBy st = (s.lane l).heldBy st) :
    SameHolders s (s.setLane l v) := by
  refine ⟨s.setLane_waitList l v, fun m st => ?_⟩
  rw [State.lane_setLane]
  split
  · next e => rw [e]; exact h st
  · rfl

theorem Lane.unmark_heldBy (l : Lane) (st : StationId) : l.unmark.heldBy st = l.heldBy st := by
  unfold Lane.heldBy Lane.unmark
  cases l.hold with
  | none => rfl
  | some h => simp only [Option.map_some, Option.any_some]; split <;> rfl

theorem Lane.mark_heldBy (l : Lane) (st : StationId) : l.mark.heldBy st = l.heldBy st := by
  unfold Lane.heldBy Lane.mark
  cases l.hold <;> rfl

theorem SameHolders.withdrawMarks (s : State) : SameHolders s s.withdrawMarks := by
  unfold State.withdrawMarks
  split
  · exact ⟨rfl, fun l st => by cases l <;> exact Lane.unmark_heldBy _ st⟩
  · exact .refl s

theorem SameHolders.markExpired (s : State) : SameHolders s s.markExpired := by
  unfold State.markExpired
  split
  · exact ⟨rfl, fun l st => by cases l <;> first | exact Lane.mark_heldBy _ st | rfl⟩
  · split
    · exact ⟨rfl, fun l st => by cases l <;> first | exact Lane.mark_heldBy _ st | rfl⟩
    · exact .refl s

/-! ### Captures and prerolls -/

@[simp] theorem State.beginPassIfFirst_lanes (s : State) (st : StationId) : (s.beginPassIfFirst st).lanes = s.lanes := by
  unfold State.beginPassIfFirst State.beginPass
  split
  · rfl
  · split <;> simp

/-- Beginning a capture gives the lane a carriage and keeps its holder (R91). -/
theorem SameHolders.beginCapture (s : State) (st : StationId) (f : Nat) : SameHolders s (s.beginCapture st f) := by
  unfold State.beginCapture
  split
  · next l k _ _ =>
    have h : ∀ (t : State) (c : Capture), SameHolders t (t.setLane l { t.lane l with carriage := some c }) :=
      fun t c => SameHolders.setLane t l _ (fun _ => rfl)
    refine SameHolders.trans ?_ (.of_lanes (State.beginPassIfFirst_lanes _ st))
    refine SameHolders.trans ?_ (.of_lanes (State.updStation_lanes _ st _))
    refine SameHolders.trans ?_ (h _ _)
    exact .of_lanes (State.updSlot_lanes _ _ _)
  · exact .refl s

@[simp] theorem State.preroll_lanes (s : State) (st : StationId) : (s.preroll st).lanes = s.lanes := by
  unfold State.preroll
  split <;> simp

@[simp] theorem State.takeFallback_lanes (s : State) (st : StationId) : (s.takeFallback st).lanes = s.lanes := by
  unfold State.takeFallback
  split
  · rfl
  · simp only [State.raise_lanes]
    split <;> simp

theorem SameHolders.updSource (s : State) (f : PatternSource → PatternSource) : SameHolders s (s.updSource f) :=
  ⟨rfl, fun l st => by cases l <;> rfl⟩

theorem SameHolders.offerFrame (s : State) (st : StationId) : SameHolders s (s.offerFrame st) := by
  unfold State.offerFrame
  split
  · exact .refl s
  · split
    · exact (SameHolders.updSource s _).trans (SameHolders.beginCapture _ st _)
    · exact (SameHolders.updSource s _).trans (.of_lanes (State.raise_lanes _ _ _))

/-- Recovery begins captures and keeps holders and waiting stations (R82, R87). -/
theorem SameHolders.recover (s : State) (st : StationId) : SameHolders s (s.recover st) := by
  unfold State.recover
  simp only
  repeat' split
  all_goals first
    | exact .refl s
    | exact (SameHolders.beginCapture s st _).trans (.of_lanes (State.updStation_lanes _ _ _))
    | exact SameHolders.offerFrame s st
    | exact .of_lanes (by simp)

/-- Freed slots offered to starved stations keep holders and waiting stations (R126). -/
theorem SameHolders.offerSlots (s : State) : SameHolders s s.offerSlots := by
  unfold State.offerSlots
  have : ∀ (l : List StationId) (s : State), SameHolders s (l.foldl State.recover s) := by
    intro l
    induction l with
    | nil => exact fun s => .refl s
    | cons a rest ih => exact fun s => (SameHolders.recover s a).trans (ih _)
  exact this _ s

/-! ### Grants, joins and releases -/

/-- A lane given to the station at the head of the wait list, which leaves it, keeps the lanes exclusive (R90). -/
theorem LanesExclusive.give (s : State) (l : LaneId) (v : Lane) (st : StationId) (rest : List StationId)
    (e : LanesExclusive s) (hw : s.lanes.waitList = st :: rest) (hv : ∀ u, v.heldBy u = true → u = st) :
    LanesExclusive { s.setLane l v with lanes := { (s.setLane l v).lanes with waitList := rest } } := by
  have hn : st ∉ rest ∧ rest.Nodup := List.nodup_cons.mp (hw ▸ e.once)
  have free : ∀ m, (s.lane m).heldBy st = false := (s.laneOf_none st).mp (e.apart st (by rw [hw]; simp))
  have held : ∀ m u, ((s.setLane l v).lane m).heldBy u = true → (s.lane m).heldBy u = true ∨ (m = l ∧ u = st) := by
    intro m u k
    rw [State.lane_setLane] at k
    split at k
    · next em => exact .inr ⟨em, hv u k⟩
    · exact .inl k
  refine ⟨fun u k => ?_, fun u m => ?_, hn.2⟩
  · rcases held .a u k.1 with ka | ⟨la, rfl⟩
    · rcases held .b u k.2 with kb | ⟨_, rfl⟩
      · exact e.holders u ⟨ka, kb⟩
      · rw [free] at ka; simp at ka
    · rcases held .b u k.2 with kb | ⟨lb, _⟩
      · rw [free] at kb; simp at kb
      · rw [← la] at lb; simp at lb
  · have hm : u ∈ rest := m
    have hu := (s.laneOf_none u).mp (e.apart u (by rw [hw]; exact List.mem_cons_of_mem _ hm))
    refine (State.laneOf_none _ u).mpr (fun n => ?_)
    by_contra k
    rw [Bool.not_eq_false] at k
    have k' : ((s.setLane l v).lane n).heldBy u = true := by cases n <;> exact k
    rcases held n u k' with kn | ⟨_, rfl⟩
    · rw [hu n] at kn; simp at kn
    · exact hn.1 hm

/-- The arbiter's grant keeps the lanes exclusive (R90). -/
theorem LanesExclusive.grantLane (s : State) (e : LanesExclusive s) : LanesExclusive s.grantLane := by
  unfold State.grantLane
  split
  · next l st rest _ hw =>
    exact LanesExclusive.congr ((SameHolders.withdrawMarks _).trans (SameHolders.recover _ st))
      (LanesExclusive.give s l _ st rest e hw (fun u k => (by simpa [Lane.heldBy] using k : st = u).symm))
  · exact e

theorem LanesExclusive.grantLanes (s : State) (e : LanesExclusive s) : LanesExclusive s.grantLanes :=
  LanesExclusive.grantLane _ (LanesExclusive.grantLane s e)

/-- A station that joins the wait list holds no lane and waits once (R89). -/
theorem LanesExclusive.joinWaitList (s : State) (st : StationId) (e : LanesExclusive s) :
    LanesExclusive (s.joinWaitList st) := by
  unfold State.joinWaitList
  split
  · next c =>
    have hn : s.laneOf st = none := by
      have := c.1
      simp only [State.needsLane, Bool.and_eq_true, Option.isNone_iff_eq_none] at this
      exact this.2
    refine LanesExclusive.grantLanes _ (LanesExclusive.congr (SameHolders.markExpired _) ⟨e.holders, fun u m => ?_, ?_⟩)
    · rcases List.mem_append.mp m with m | m
      · exact e.apart u m
      · rw [List.mem_singleton.mp m]; exact hn
    · exact List.nodup_append.mpr ⟨e.once, by simp, fun a ha b hb => by
        rw [List.mem_singleton.mp hb]; exact fun h => c.2 (h ▸ ha)⟩
  · exact e

/-- A station that leaves the wait list keeps the lanes exclusive (R97). -/
theorem LanesExclusive.leaveWaitList (s : State) (st : StationId) (e : LanesExclusive s) :
    LanesExclusive (s.leaveWaitList st) :=
  LanesExclusive.congr (SameHolders.withdrawMarks _)
    ⟨e.holders, fun u m => e.apart u (List.mem_filter.mp m).1, e.once.filter _⟩

/-- A lane written FREE keeps the lanes exclusive (R94). -/
theorem LanesExclusive.free (s : State) (l : LaneId) (e : LanesExclusive s) : LanesExclusive (s.setLane l .free) := by
  have hf : ∀ m u, ((s.setLane l .free).lane m).heldBy u = true → (s.lane m).heldBy u = true := by
    intro m u k
    rw [State.lane_setLane] at k
    split at k
    · simp [Lane.heldBy, Lane.free] at k
    · exact k
  refine ⟨fun u k => e.holders u ⟨hf .a u k.1, hf .b u k.2⟩, fun u m => ?_, ?_⟩
  · rw [s.setLane_waitList] at m
    rw [State.laneOf_none]
    intro n
    by_contra k
    rw [Bool.not_eq_false] at k
    exact absurd (hf n u k) (by rw [(s.laneOf_none u).mp (e.apart u m) n]; simp)
  · rw [s.setLane_waitList]; exact e.once

/-- A released lane is granted on, and the lanes stay exclusive (R94). -/
theorem LanesExclusive.releaseLane (s : State) (l : LaneId) (e : LanesExclusive s) : LanesExclusive (s.releaseLane l) :=
  LanesExclusive.grantLanes _ (LanesExclusive.free s l e)

/-- A station that gives up its entry and its lane keeps the lanes exclusive (R96). -/
theorem LanesExclusive.leaveLanes (s : State) (st : StationId) (e : LanesExclusive s) :
    LanesExclusive (s.leaveLanes st) := by
  unfold State.leaveLanes
  simp only
  split
  · exact LanesExclusive.releaseLane _ _ (LanesExclusive.leaveWaitList s st e)
  · exact LanesExclusive.leaveWaitList s st e

/-- The lane's part of a completion keeps the lanes exclusive (R92). -/
theorem LanesExclusive.laneCompletes (s : State) (l : LaneId) (e : LanesExclusive s) :
    LanesExclusive (s.laneCompletes l) := by
  unfold State.laneCompletes
  simp only
  split
  · exact LanesExclusive.releaseLane s l e
  · refine LanesExclusive.congr (SameHolders.setLane s l _ (fun st => ?_)) e
    unfold Lane.heldBy Hold.completed
    cases (s.lane l).hold <;> rfl

/-- An abandoned capture keeps holders and waiting stations (R96). -/
theorem SameHolders.abandonQuietly (s : State) (st : StationId) : SameHolders s (s.abandonQuietly st) := by
  unfold State.abandonQuietly
  simp only
  refine SameHolders.trans ?_ (.of_lanes (State.updStation_lanes _ st _))
  repeat' split
  · exact .refl s
  · exact .refl s
  · next l _ _ c _ =>
    exact (SameHolders.setLane s l { s.lane l with carriage := none } (fun _ => rfl)).trans
      (.of_lanes (State.updSlot_lanes _ c.slot _))

theorem SameHolders.abandon (s : State) (st : StationId) : SameHolders s (s.abandon st) := by
  unfold State.abandon
  split
  · exact (SameHolders.abandonQuietly s st).trans (SameHolders.offerSlots _)
  · exact .refl s

/-- A station that starves joins the wait list (R82). -/
theorem LanesExclusive.starve (s : State) (st : StationId) (f : Nat) (e : LanesExclusive s) :
    LanesExclusive (s.starve st f) := by
  unfold State.starve
  refine LanesExclusive.joinWaitList _ st (LanesExclusive.congr (.of_lanes ?_) e)
  simp only [State.raise_lanes]
  split <;> simp

/-- A pattern source that becomes FEEDING puts its station on the wait list (R87, R89). -/
theorem LanesExclusive.feed (s : State) (st : StationId) (e : LanesExclusive s) : LanesExclusive (s.feed st) := by
  have k := LanesExclusive.joinWaitList _ st (LanesExclusive.congr (SameHolders.updSource s (fun p => { p with state := .feeding })) e)
  unfold State.feed
  simp only
  split
  · exact LanesExclusive.congr (SameHolders.offerFrame _ st) k
  · exact k

/-- A stop that has run its course gives up the lane; a source whose work order is ACTIVE again waits for one (R83, R87). -/
theorem LanesExclusive.haltIfDone (s : State) (st : StationId) (e : LanesExclusive s) :
    LanesExclusive (s.haltIfDone st) := by
  unfold State.haltIfDone
  simp only
  split
  · exact e
  · split
    · have k := LanesExclusive.leaveLanes _ st (LanesExclusive.congr
        ((SameHolders.of_lanes (State.updStation_lanes s st (fun t => { t with stopPending := .none }))).trans
          (SameHolders.updSource _ (fun p => if p.assigned = some st then { p with state := .idle } else p))) e)
      split
      · exact LanesExclusive.feed _ st k
      · exact k
    · exact LanesExclusive.leaveLanes _ st (LanesExclusive.congr (.of_lanes (State.updStation_lanes _ _ _)) e)

/-- A stop that a station takes keeps the lanes exclusive (R83). -/
theorem LanesExclusive.giveStop (s : State) (st : StationId) (p : StopPending) (e : LanesExclusive s) :
    LanesExclusive (s.giveStop st p) := by
  unfold State.giveStop
  split
  · refine LanesExclusive.haltIfDone _ st ?_
    unfold State.markStop
    simp only
    split
    · exact e
    · refine LanesExclusive.leaveWaitList _ st (LanesExclusive.congr (.of_lanes ?_) e)
      split <;> simp
  · exact e

end Sys2Proof.Machine
end

