-- ==== Sys2Proof/Laws/Link.lean ====
section
/-!
SUPPORT. The outbound list: every operation LNK makes on it keeps it in order (R181, R183).
-/

namespace Sys2Proof.Machine

/-- The notices that wait in a list of entries, untaken. -/
theorem Link.mem_waitingNotices (l : Link) (f : AlertFlag) : f ∈ l.waitingNotices ↔ Outbound.notice f ∈ l.outbound := by
  simp only [Link.waitingNotices, List.mem_filterMap]
  constructor
  · rintro ⟨e, he, h⟩
    cases e <;> simp_all
  · exact fun h => ⟨_, h, rfl⟩

/-- Two flags with one number are one flag. -/
theorem AlertFlag.number_inj (f g : AlertFlag) (h : f.number = g.number) : f = g := by
  revert h; cases f <;> cases g <;> decide

/-- Taking the head of a list whose waiting notices have their marks, once each, leaves the list in order. -/
theorem OutboundInOrder.transmit (l : Link)
    (hp : ∀ f ∈ l.waitingNotices, (l.pending[f.number]).isSome = true) (ho : l.waitingNotices.Nodup) :
    OutboundInOrder l.transmit := by
  unfold Link.transmit
  split
  · next f rest e =>
    have hw : l.waitingNotices = f :: { l with outbound := rest }.waitingNotices := by
      simp [Link.waitingNotices, e]
    have hf := hp f (by rw [hw]; simp)
    rw [hw] at ho
    split
    · next c hc =>
      refine ⟨fun g => by simp, fun g hg => ?_, ?_⟩
      · have hg' : g ∈ { l with outbound := rest }.waitingNotices := by simpa [Link.waitingNotices] using hg
        have hne : f ≠ g := fun h => (List.nodup_cons.mp ho).1 (h ▸ hg')
        have hn : f.number.val ≠ g.number.val := fun h => hne (AlertFlag.number_inj f g (Fin.ext h))
        have := hp g (by rw [hw]; exact List.mem_cons_of_mem _ hg')
        simpa [hn] using this
      · simpa [Link.waitingNotices] using (List.nodup_cons.mp ho).2
    · next hc => simp [hc] at hf
  · next hne => exact ⟨fun f h => by
      cases e : l.outbound with
      | nil => simp [e] at h
      | cons a rest =>
        rw [e] at h
        exact hne f rest (by rw [e]; simpa using h), hp, ho⟩

/-- An entry that is no waiting notice is placed in order. -/
theorem OutboundInOrder.place (l : Link) (e : Outbound) (h : OutboundInOrder l) (he : ∀ f, e ≠ .notice f) :
    OutboundInOrder (l.place e) := by
  have hw : { l with outbound := l.outbound ++ [e] }.waitingNotices = l.waitingNotices := by
    unfold Link.waitingNotices
    cases e <;> simp_all
  exact OutboundInOrder.transmit _ (by rw [hw]; exact h.pending) (by rw [hw]; exact h.once)

/-- A notice that is due is placed in order. -/
theorem OutboundInOrder.placeNotice (l : Link) (f : AlertFlag) (h : OutboundInOrder l) :
    OutboundInOrder (l.placeNotice f) := by
  unfold Link.placeNotice
  split
  · next c =>
    simp only [Bool.and_eq_true, Bool.not_eq_true', List.any_eq_false] at c
    have hn : f ∉ l.waitingNotices := by
      rw [Link.mem_waitingNotices]
      exact fun m => c.2 _ m (by simp [Outbound.isNoticeOf])
    have hw : { l with outbound := l.outbound ++ [Outbound.notice f] }.waitingNotices = l.waitingNotices ++ [f] := by
      simp [Link.waitingNotices]
    refine OutboundInOrder.transmit _ ?_ ?_
    · rw [hw]
      intro g hg
      rcases List.mem_append.mp hg with hg | hg
      · exact h.pending g hg
      · rw [List.mem_singleton.mp hg]; exact c.1.1
    · rw [hw]
      exact List.nodup_append.mpr ⟨h.once, by simp, fun a ha b hb => by
        rw [List.mem_singleton.mp hb]; exact fun e => hn (e ▸ ha)⟩
  · exact h

/-- Setting a pending mark keeps the list in order. -/
theorem OutboundInOrder.mark (l : Link) (w : AlertWord) (f : AlertFlag) (c : AlertContext) (h : OutboundInOrder l) :
    OutboundInOrder { l with word := w, pending := l.pending.set f.number (some c) } := by
  refine ⟨h.taken, fun g hg => ?_, h.once⟩
  by_cases e : f = g
  · subst e; simp
  · have hn : f.number.val ≠ g.number.val := fun h => e (AlertFlag.number_inj f g (Fin.ext h))
    have := h.pending g hg
    simpa [hn] using this

/-- A raise keeps the outbound list in order (R182, R183). -/
theorem OutboundInOrder.raise (s : State) (f : AlertFlag) (n : Names) (h : OutboundInOrder s.link) :
    OutboundInOrder (s.raise f n).link :=
  OutboundInOrder.placeNotice _ f (OutboundInOrder.mark s.link _ f _ h)

/-- A reply keeps the outbound list in order (R181). -/
theorem OutboundInOrder.reply (s : State) (r : RequestHeader) (b : ReplyBody) (h : OutboundInOrder s.link) :
    OutboundInOrder (s.reply r b).link :=
  OutboundInOrder.place _ _ h (fun _ => by simp)

/-- Withdrawing a flag's notice keeps the list in order and leaves no notice for the flag waiting (R183). -/
theorem OutboundInOrder.withdraw (l : Link) (f : AlertFlag) (h : OutboundInOrder l) :
    OutboundInOrder (l.withdraw f) ∧ f ∉ (l.withdraw f).waitingNotices := by
  have hw : (l.withdraw f).waitingNotices = l.waitingNotices.filter (fun g => g != f) := by
    simp only [Link.withdraw, Link.waitingNotices]
    induction l.outbound with
    | nil => rfl
    | cons e rest ih =>
      cases e with
      | notice g => by_cases c : g = f <;> simp [c, ih]
      | _ => simp [ih]
  refine ⟨⟨fun g => ?_, fun g hg => ?_, ?_⟩, ?_⟩
  · simp only [Link.withdraw]
    cases e : l.outbound with
    | nil => simp
    | cons a rest =>
      have := h.taken
      have hne : (a != Outbound.notice f) = true := by
        rw [bne_iff_ne]; exact fun c => this f (by rw [e, c]; rfl)
      simp only [List.filter_cons, hne, if_true]
      simpa [e] using this g
  · rw [hw] at hg
    exact h.pending g (List.mem_filter.mp hg).1
  · rw [hw]; exact h.once.filter _
  · rw [hw]; simp

/-- Clearing a flag's mark where no notice for it waits keeps the list in order. -/
theorem OutboundInOrder.unmark (l : Link) (w : AlertWord) (f : AlertFlag) (h : OutboundInOrder l)
    (hn : f ∉ l.waitingNotices) : OutboundInOrder { l with word := w, pending := l.pending.set f.number none } := by
  refine ⟨h.taken, fun g hg => ?_, h.once⟩
  have hne : f ≠ g := fun e => hn (e ▸ hg)
  have hv : f.number.val ≠ g.number.val := fun e => hne (AlertFlag.number_inj f g (Fin.ext e))
  have := h.pending g hg
  simpa [hv] using this

/-- Clearing a flag keeps the list in order (R184). -/
theorem OutboundInOrder.clearFlag (l : Link) (f : AlertFlag) (h : OutboundInOrder l) : OutboundInOrder (l.clearFlag f) :=
  let ⟨hw, hn⟩ := OutboundInOrder.withdraw l f h
  OutboundInOrder.unmark (l.withdraw f) _ f hw hn

/-- The removal of a sent message, and of the arbiter's test behind it, keeps the list in order (R181). -/
theorem OutboundInOrder.headSent (l : Link)
    (hp : ∀ f ∈ l.waitingNotices, (l.pending[f.number]).isSome = true) (ho : l.waitingNotices.Nodup) :
    OutboundInOrder l.headSent := by
  have hsub : ({ l with outbound := if l.testBehind then l.outbound.tail.tail else l.outbound.tail } : Link).waitingNotices.Sublist
      l.waitingNotices := by
    refine List.Sublist.filterMap _ ?_
    split
    · exact (List.tail_sublist _).trans (List.tail_sublist _)
    · exact List.tail_sublist _
  exact OutboundInOrder.transmit _ (fun f hf => hp f (hsub.subset hf)) (ho.sublist hsub)

/-- The end of a picture message keeps the list in order (R172, R181). -/
theorem OutboundInOrder.pictureSent (l : Link) (h : OutboundInOrder l) :
    OutboundInOrder ({ l with outbound := l.outbound ++ [.arbiterTest] } : Link).headSent := by
  have hw : ({ l with outbound := l.outbound ++ [.arbiterTest] } : Link).waitingNotices = l.waitingNotices := by
    simp [Link.waitingNotices]
  exact OutboundInOrder.headSent _ (by rw [hw]; exact h.pending) (by rw [hw]; exact h.once)

/-- The head has been sent and no test of the arbiter stands behind it: the next entry, no waiting notice, is in transmission
as it stands (R181). -/
theorem Link.headSent_cons (l : Link) (e : Outbound) (rest : List Outbound) (h : l.outbound = e :: rest)
    (ht : rest.head? ≠ some .arbiterTest) (hr : ∀ f, rest.head? ≠ some (.notice f)) :
    l.headSent = { l with outbound := rest } := by
  unfold Link.headSent Link.testBehind
  simp only [h, List.tail_cons, beq_iff_eq, ht, if_false]
  exact Link.transmit_of_headTaken _ hr

/-- The head has been sent and the test of the arbiter stands behind it: both leave the list (R181, log entry 70). -/
theorem Link.headSent_test (l : Link) (e : Outbound) (rest : List Outbound) (h : l.outbound = e :: .arbiterTest :: rest)
    (hr : ∀ f, rest.head? ≠ some (.notice f)) : l.headSent = { l with outbound := rest } := by
  unfold Link.headSent Link.testBehind
  simp only [h, List.tail_cons, List.head?_cons, BEq.rfl, if_true]
  exact Link.transmit_of_headTaken _ hr

/-- Without the test of the arbiter behind the head, none is due when the head has been sent (R181). -/
theorem State.headLeaves_of_noTest (s : State) (next : State → State) (h : s.link.testBehind = false) :
    s.headLeaves next = next (s.updLink (·.headSent)) := by
  simp [State.headLeaves, h]

/-- With the test of the arbiter behind the head, it is made after what LNK does next (R172, R181, log entry 70). -/
theorem State.headLeaves_of_test (s : State) (next : State → State) (h : s.link.testBehind = true) :
    s.headLeaves next = (next (s.updLink (·.headSent))).deliveryArbiter := by
  simp [State.headLeaves, h]

/-- While the channel is SENDING no delivery begins (R169). -/
theorem State.deliveryArbiter_of_sending (s : State) (h : s.delivery.channel = .sending) : s.deliveryArbiter = s := by
  simp [State.deliveryArbiter, h]

/-- A START of a work order whose next-deliver rests on no GAP frame of its range begins no delivery (R169). -/
theorem State.arbiterAtStart_of_noGap (s : State) (st : StationId) (h : ∀ f, s.item st ≠ some (.black f)) :
    s.arbiterAtStart st = s := by
  unfold State.arbiterAtStart
  split
  · next f e => exact absurd e (h f)
  · rfl

/-- What a suite reset leaves of the outbound list is in order (R187). -/
theorem OutboundInOrder.afterReset (l : Link) (h : l.headTaken) : OutboundInOrder l.afterReset := by
  have hn : ∀ f, Outbound.notice f ∉ l.afterReset.outbound := by
    intro f
    simp only [Link.afterReset, List.mem_append, List.mem_filter, not_or]
    refine ⟨fun m => ?_, fun m => by simp [Outbound.survivesReset] at m⟩
    cases e : l.outbound with
    | nil => simp [e] at m
    | cons a rest =>
      simp only [e, List.take_succ_cons, List.take_zero, List.mem_singleton] at m
      exact h f (by rw [e, ← m]; rfl)
  have hw : l.afterReset.waitingNotices = [] := by
    rw [List.eq_nil_iff_forall_not_mem]
    intro f m
    exact hn f ((Link.mem_waitingNotices _ f).mp m)
  refine ⟨fun f e => hn f (List.mem_of_mem_head? e), ?_, ?_⟩
  · rw [hw]; simp
  · rw [hw]; exact List.nodup_nil

end Sys2Proof.Machine
end

