-- ==== Sys2Proof/Laws/Planes.lean ====
section
/-!
SUPPORT. The planes of a slot's area (R117): what reading after writing gives, that every operation keeps their canonical
form, and that the candidates of an analysis are exactly the samples its rule judges damaged.
-/

namespace Sys2Proof.Machine

/-! ### Lists of samples -/

theorem lookupSample_insertSample (pos q : Nat) (v : Sample) (l : List (Nat × Sample)) :
    lookupSample (insertSample pos v l) q = if q = pos then some v else lookupSample l q := by
  induction l with
  | nil =>
    by_cases h : q = pos
    · simp [insertSample, lookupSample, h]
    · simp [insertSample, lookupSample, h, Ne.symm h]
  | cons e l ih =>
    obtain ⟨p, w⟩ := e
    simp only [insertSample]
    split
    · by_cases h : q = pos
      · simp [lookupSample, h]
      · simp [lookupSample, h, Ne.symm h]
    · split
      · next h =>
        subst h
        by_cases h : q = pos
        · simp [lookupSample, h]
        · simp [lookupSample, h, Ne.symm h]
      · next h =>
        simp only [lookupSample, ih]
        by_cases h' : p = q
        · have : q ≠ pos := fun e => h (by rw [← e, h'])
          simp [h', this]
        · simp [h']

theorem samplesCanonical_lower {g : Bool} {a : Nat} {b : Option Nat} (h : ∀ c, b = some c → c ≤ a) (l : List (Nat × Sample))
    (hl : samplesCanonical g (some a) l = true) : samplesCanonical g b l = true := by
  cases l with
  | nil => rfl
  | cons e l =>
    obtain ⟨p, w⟩ := e
    simp only [samplesCanonical, Option.all_some, Bool.and_eq_true, decide_eq_true_eq] at hl ⊢
    refine ⟨⟨?_, hl.1.2⟩, hl.2⟩
    cases b with
    | none => rfl
    | some c => simpa using Nat.lt_of_le_of_lt (h c rfl) hl.1.1

/-- A canonical list lists no position at or below its bound. -/
theorem lookupSample_below {g : Bool} {a q : Nat} (hq : q ≤ a) (l : List (Nat × Sample))
    (hl : samplesCanonical g (some a) l = true) : lookupSample l q = none := by
  induction l generalizing a with
  | nil => rfl
  | cons e l ih =>
    obtain ⟨p, w⟩ := e
    simp only [samplesCanonical, Option.all_some, Bool.and_eq_true, decide_eq_true_eq] at hl
    have : p ≠ q := by omega
    simp only [lookupSample, if_neg this]
    exact ih (by omega) hl.2

theorem lookupSample_eraseSample {g : Bool} {b : Option Nat} (pos q : Nat) (l : List (Nat × Sample))
    (hl : samplesCanonical g b l = true) :
    lookupSample (eraseSample pos l) q = if q = pos then none else lookupSample l q := by
  induction l generalizing b with
  | nil => simp [eraseSample, lookupSample]
  | cons e l ih =>
    obtain ⟨p, w⟩ := e
    simp only [samplesCanonical, Bool.and_eq_true] at hl
    simp only [eraseSample]
    split
    · next h =>
      subst h
      by_cases h : q = p
      · rw [if_pos h, h]; exact lookupSample_below le_rfl l hl.2
      · simp [lookupSample, h, Ne.symm h]
    · next h =>
      simp only [lookupSample, ih hl.2]
      by_cases h' : p = q
      · have : q ≠ pos := fun e => h (by rw [← e, h'])
        simp [h', this]
      · simp [h']

theorem samplesCanonical_insertSample {g : Bool} {b : Option Nat} (pos : Nat) (v : Sample) (l : List (Nat × Sample))
    (hv : v ≠ unlistedSample g pos) (hb : b.all (fun c => decide (c < pos)) = true) (hl : samplesCanonical g b l = true) :
    samplesCanonical g b (insertSample pos v l) = true := by
  induction l generalizing b with
  | nil => simp only [insertSample, samplesCanonical, hb, bne_iff_ne.mpr hv, Bool.and_true]
  | cons e l ih =>
    obtain ⟨p, w⟩ := e
    simp only [samplesCanonical, Bool.and_eq_true] at hl
    simp only [insertSample]
    split
    · next h =>
      simp only [samplesCanonical, hb, bne_iff_ne.mpr hv, Bool.true_and, Option.all_some, Bool.and_eq_true, decide_eq_true_eq]
      exact ⟨⟨h, hl.1.2⟩, hl.2⟩
    · split
      · next h =>
        subst h
        simp only [samplesCanonical, hb, bne_iff_ne.mpr hv, Bool.true_and]
        exact hl.2
      · next h h' =>
        simp only [samplesCanonical, Bool.and_eq_true]
        exact ⟨hl.1, ih (by simp; omega) hl.2⟩

theorem samplesCanonical_eraseSample {g : Bool} {b : Option Nat} (pos : Nat) (l : List (Nat × Sample))
    (hl : samplesCanonical g b l = true) : samplesCanonical g b (eraseSample pos l) = true := by
  induction l generalizing b with
  | nil => rfl
  | cons e l ih =>
    obtain ⟨p, w⟩ := e
    simp only [samplesCanonical, Bool.and_eq_true] at hl
    simp only [eraseSample]
    split
    · next h =>
      refine samplesCanonical_lower (fun c hc => ?_) l hl.2
      have := hl.1.1
      rw [hc] at this
      simp at this
      omega
    · simp only [samplesCanonical, Bool.and_eq_true]
      exact ⟨hl.1, ih hl.2⟩

/-! ### Planes -/

@[simp] theorem Planes.write_gradient (x : Planes) (pos : Nat) (v : Sample) : (x.write pos v).gradient = x.gradient := by
  unfold Planes.write
  split <;> rfl

/-- Reading after writing: the position written gives the sample written and every other position reads as before. -/
theorem Planes.read_write (x : Planes) (pos q : Nat) (v : Sample) (h : x.wf = true) :
    (x.write pos v).read q = if q = pos then v else x.read q := by
  unfold Planes.write Planes.read
  split
  · next e =>
    simp only [lookupSample_eraseSample pos q x.samples h]
    by_cases hq : q = pos
    · simp [hq, e]
    · simp [hq]
  · simp only [lookupSample_insertSample]
    by_cases hq : q = pos
    · simp [hq]
    · simp [hq]

/-- A write keeps the canonical form. -/
theorem Planes.write_wf (x : Planes) (pos : Nat) (v : Sample) (h : x.wf = true) : (x.write pos v).wf = true := by
  unfold Planes.wf at h ⊢
  rw [Planes.write_gradient]
  unfold Planes.write
  split
  · exact samplesCanonical_eraseSample pos x.samples h
  · next e => exact samplesCanonical_insertSample pos v x.samples e rfl h

theorem Planes.blank_wf : Planes.blank.wf = true := rfl

/-- A list of writes, some of them left out, keeps the canonical form. -/
theorem Planes.foldl_wf {α : Type} (f : Planes → α → Planes) (hf : ∀ x a, x.wf = true → (f x a).wf = true) (l : List α)
    (x : Planes) (h : x.wf = true) : (l.foldl f x).wf = true := by
  induction l generalizing x with
  | nil => exact h
  | cons a l ih => exact ih _ (hf x a h)

/-- The planes of a captured frame have the canonical form (R91). -/
theorem Planes.captured_wf (n : Nat) (given : List (Nat × Sample)) : (Planes.captured n given).wf = true := by
  refine Planes.foldl_wf _ (fun x e h => ?_) given _ Planes.blank_wf
  split
  · exact x.write_wf _ _ h
  · exact h

/-- The planes of a pattern frame have the canonical form (R87). -/
theorem patternPlanes_wf (k : Nat) : (patternPlanes k).wf = true :=
  Planes.foldl_wf _ (fun x p h => x.write_wf p _ h) (spotPositions k) _ rfl

/-- The planes of every slot have the canonical form after reset (R130). -/
theorem reset_slots_wf : State.reset.store.slots.toList.all (·.planes.wf) = true := by decide +kernel

/-! ### Candidates -/

theorem mem_insertPos (p q : Nat) (l : List Nat) : q ∈ insertPos p l ↔ q = p ∨ q ∈ l := by
  induction l with
  | nil => simp [insertPos]
  | cons r l ih =>
    simp only [insertPos]
    split
    · simp
    · split
      · next h => subst h; simp
      · simp only [List.mem_cons, ih]; tauto

theorem mem_foldr_insertPos (q : Nat) (l : List Nat) : q ∈ l.foldr insertPos [] ↔ q ∈ l := by
  induction l with
  | nil => simp
  | cons p l ih => simp [mem_insertPos, ih]

/-- A position that no entry of planes names reads as unlisted. -/
theorem Planes.read_unlisted (x : Planes) (pos : Nat) (h : pos ∉ x.samples.map (·.1)) :
    x.read pos = unlistedSample x.gradient pos := by
  unfold Planes.read
  have : lookupSample x.samples pos = none := by
    generalize x.samples = l at h
    induction l with
    | nil => rfl
    | cons e l ih =>
      obtain ⟨p, w⟩ := e
      simp only [List.map_cons, List.mem_cons, not_or] at h
      simp only [lookupSample, if_neg (Ne.symm h.1)]
      exact ih h.2
  rw [this]; rfl

/-- The infrared of an unlisted position is clear. -/
theorem unlistedSample_ir (g : Bool) (pos : Nat) : (unlistedSample g pos).ir = 255 := by
  cases g <;> rfl

theorem temporalCandidate_equal (t d : Nat) (p n : Option Nat) (hp : ∀ x, p = some x → x = d) (hn : ∀ x, n = some x → x = d) :
    temporalCandidate t d p n = false := by
  cases p with
  | none =>
    cases n with
    | none => rfl
    | some y => rw [hn y rfl]; simp [temporalCandidate, absDiff]
  | some x =>
    rw [hp x rfl]
    cases n with
    | none => simp [temporalCandidate, absDiff]
    | some y =>
      rw [hn y rfl]
      have : (d + d) / 2 = d := by omega
      simp [temporalCandidate, absDiff, this]

/-- The candidates of an analysis are the samples of the geometry that its rule judges damaged (R135, R136): where the frame
and its neighbours list nothing no sample is one, when they are of one kind and the infrared threshold fits a sample. -/
theorem Exam.mem_candidates (e : Exam) (pos : Nat) (hi : e.settings.ithr ≤ 255)
    (hb : ∀ x, e.before = some x → x.gradient = e.planes.gradient)
    (ha : ∀ x, e.after = some x → x.gradient = e.planes.gradient) :
    pos ∈ e.candidates ↔ pos < e.gauge.samples ∧ e.candidate pos = true := by
  simp only [Exam.candidates, List.mem_filter, Exam.touched, mem_foldr_insertPos, List.mem_append, decide_eq_true_eq]
  constructor
  · rintro ⟨⟨_, h⟩, c⟩
    exact ⟨h, c⟩
  · rintro ⟨h, c⟩
    refine ⟨⟨?_, h⟩, c⟩
    by_contra n
    simp only [Option.map_some, Option.getD_some, not_or] at n
    obtain ⟨⟨n1, n2⟩, n3⟩ := n
    have r1 := e.planes.read_unlisted pos n1
    have r2 : ∀ x, e.before = some x → x.read pos = unlistedSample e.planes.gradient pos := by
      intro x hx
      rw [hx] at n2
      rw [x.read_unlisted pos (by simpa using n2), hb x hx]
    have r3 : ∀ x, e.after = some x → x.read pos = unlistedSample e.planes.gradient pos := by
      intro x hx
      rw [hx] at n3
      rw [x.read_unlisted pos (by simpa using n3), ha x hx]
    unfold Exam.candidate at c
    split at c
    · exact absurd c (by simp)
    · rw [r1, unlistedSample_ir] at c
      simp at c
      omega
    · rw [r1, temporalCandidate_equal] at c
      · exact absurd c (by simp)
      · intro x hx
        cases hy : e.before with
        | none => rw [hy] at hx; simp at hx
        | some y => rw [hy] at hx; simp at hx; rw [← hx, r2 y hy]
      · intro x hx
        cases hy : e.after with
        | none => rw [hy] at hx; simp at hx
        | some y => rw [hy] at hx; simp at hx; rw [← hx, r3 y hy]

end Sys2Proof.Machine
end

