-- ==== Sys2Proof/Laws/Registry.lean ====
section
/-!
SUPPORT. What the operations on a reel's record keep of its ranges, and what a write of a record keeps of the registry's.
-/

namespace Sys2Proof.Machine

/-! ### One record -/

theorem RecordInRange.moved {r : Reel} (h : RecordInRange r) (l : Location) : RecordInRange (r.moved l) :=
  ⟨h.length, h.passLimit, h.acid, h.home, h.passes⟩

/-- A record whose reading and quarantine flag have changed keeps its ranges when its home cell follows the class (R19). -/
theorem RecordInRange.rehomed {r q : Reel} (h : RecordInRange r) (length : q.length = r.length)
    (limit : 1 ≤ q.passLimit ∧ q.passLimit ≤ 16) (acid : ∀ v, q.acid = some v → v ≤ 30) (home : q.home = r.home)
    (history : q.history = r.history) : RecordInRange (q.rehomed r.cls) := by
  unfold Reel.rehomed
  split
  · rename_i e
    have e' : q.cls = r.cls := by simpa using e
    exact ⟨length ▸ h.length, limit, acid, fun c hc => by rw [e']; exact h.home c (home ▸ hc), history ▸ h.passes⟩
  · refine ⟨length ▸ h.length, limit, acid, fun c hc => ?_, history ▸ h.passes⟩
    simp only [home, Option.filter_eq_some_iff, beq_iff_eq] at hc
    exact ⟨(h.home c hc.1).1, hc.2⟩

/-- A change of the RUNNING pass record that keeps its number and its start time (R23). -/
theorem RecordInRange.updRunning {r : Reel} (h : RecordInRange r) {f : PassRecord → PassRecord}
    (number : ∀ p, (f p).number = p.number) (time : ∀ p, (f p).startTime = p.startTime) : RecordInRange (r.updRunning f) := by
  refine ⟨h.length, h.passLimit, h.acid, h.home, fun k p e => ?_⟩
  simp only [Reel.updRunning, List.getElem?_map, Option.map_eq_some_iff] at e
  obtain ⟨q, hq, rfl⟩ := e
  have := h.passes k q hq
  split <;> simp_all

/-- A pass that begins appends a record with the next number (R22). -/
theorem RecordInRange.appended {r : Reel} (h : RecordInRange r) {p : PassRecord} (number : p.number = r.history.length + 1)
    (time : p.startTime ≤ 86399) : RecordInRange { r with history := r.history ++ [p] } := by
  refine ⟨h.length, h.passLimit, h.acid, h.home, fun k q e => ?_⟩
  rcases Nat.lt_trichotomy k r.history.length with lt | rfl | gt
  · exact h.passes k q (by simpa [List.getElem?_append_left lt] using e)
  · simp at e; subst e; exact ⟨number, time⟩
  · simp [List.getElem?_append_right (Nat.le_of_lt gt), Nat.sub_ne_zero_of_lt gt] at e

theorem RecordInRange.completePass {r : Reel} (h : RecordInRange r) (o : PassOutcome) : RecordInRange (r.completePass o) := by
  have u := h.updRunning (f := fun q => { q with outcome := o }) (fun _ => rfl) (fun _ => rfl)
  unfold Reel.completePass
  split
  · exact ⟨h.length, h.passLimit, h.acid, h.home, h.passes⟩
  · dsimp only
    split
    · exact ⟨u.length, u.passLimit, u.acid, u.home, u.passes⟩
    · refine ⟨u.length, ?_, u.acid, u.home, u.passes⟩
      dsimp only
      have := h.passLimit
      split <;> omega

/-! ### The registry -/

/-- The registry's ranges rest on the records alone. -/
theorem RegistryInRange.of_reels {s t : State} (h : RegistryInRange s) (e : t.retained.reels = s.retained.reels) :
    RegistryInRange t := by
  have e' : ∀ i, t.reel? i = s.reel? i := fun i => by unfold State.reel?; rw [e]
  exact ⟨fun i r => by rw [e']; exact h.records i r, fun i j r q => by rw [e', e']; exact h.tags i j r q,
    fun i j r q c => by rw [e', e']; exact h.homes i j r q c⟩

/-- Every record after a change of one keeps its ranges where the change keeps the record's ranges, its can tag and its home
cell, or gives up the home cell. -/
theorem RegistryInRange.updReel {s : State} (h : RegistryInRange s) {i : Nat} {f : Reel → Reel}
    (range : ∀ r, s.reel? i = some r → RecordInRange (f r)) (tag : ∀ r, s.reel? i = some r → (f r).tag = r.tag)
    (home : ∀ r, s.reel? i = some r → (f r).home = r.home ∨ (f r).home = none) : RegistryInRange (s.updReel i f) := by
  have from_old : ∀ j r, (s.updReel i f).reel? j = some r →
      ∃ q, s.reel? j = some q ∧ RecordInRange r ∧ r.tag = q.tag ∧ (r.home = q.home ∨ r.home = none) := by
    intro j r e
    rw [State.reel?_updReel] at e
    split at e
    · rename_i same
      subst same
      obtain ⟨q, o, rfl⟩ := Option.map_eq_some_iff.mp e
      exact ⟨q, o, range q o, tag q o, home q o⟩
    · exact ⟨r, e, h.records j r e, rfl, .inl rfl⟩
  refine ⟨fun j r e => (from_old j r e).elim fun _ x => x.2.1, ?_, ?_⟩
  · intro j k r q e g t
    obtain ⟨r', er, _, tr, _⟩ := from_old j r e
    obtain ⟨q', eq, _, tq, _⟩ := from_old k q g
    exact h.tags j k r' q' er eq (by rw [← tr, ← tq, t])
  · intro j k r q c e g hr hq
    obtain ⟨r', er, _, _, a⟩ := from_old j r e
    obtain ⟨q', eq, _, _, b⟩ := from_old k q g
    refine h.homes j k r' q' c er eq ?_ ?_
    · rcases a with a | a
      · rw [← a]; exact hr
      · rw [a] at hr; cases hr
    · rcases b with b | b
      · rw [← b]; exact hq
      · rw [b] at hq; cases hq

end Sys2Proof.Machine
end

