-- ==== Sys2Proof/Laws/Requests.lean ====
section
/-!
SUPPORT. How a request runs: where nothing of chapter 2 is due `settle` leaves the state, and where LNK is free a request
is answered at once; and which reel a pick takes.
-/

namespace Sys2Proof.Machine

/-! ### Picks under direct control -/

/-- A pick takes the reel recorded at a cell or a staging position (R54). -/
@[simp] theorem State.pickedReel?_place (s : State) (l : Location) (h : l.isPosition = true) (hc : l.isChamber = false) :
    s.pickedReel? l = s.reelAt l := by
  simp [State.pickedReel?, h, hc]

/-- A pick at a chamber takes no reel of the records (R54, log entry 20). -/
@[simp] theorem State.pickedReel?_chamber (s : State) (k : Nat) : s.pickedReel? (.chamber k) = none := by
  simp [State.pickedReel?, Location.isChamber]

/-! ### Nothing due -/

theorem State.followDwell_rested (s : State) (h : Rested s) : s.followDwell = s := by
  have e : s.stk.queue.map (fun m =>
      if m.kind = .mount ∧ (m.state = .queued ∨ m.state = .dwellWait) then { m with state := s.mountState m } else m)
      = s.stk.queue := by
    conv_rhs => rw [← List.map_id s.stk.queue]
    refine List.map_congr_left ?_
    intro m hm
    split
    · next c => simp [h.waits m hm c.1 c.2]
    · rfl
  unfold State.followDwell
  simp only [e]

theorem State.announce_rested (s : State) (h : Rested s) (p : Nat) : s.announce p = s := by
  unfold State.announce
  split
  · next x i hx hi =>
    split
    · rfl
    · next r hr =>
      refine if_neg fun c => ?_
      rcases h.announced p i x r hx c.1 hr (s.reelAt_location (.staging p) i r hi hr) with a | d
      · simp [a] at c
      · exact absurd c.2.2 (Nat.not_le.mpr d)
  · rfl

theorem State.announceAll_rested (s : State) (h : Rested s) : s.announceAll = s := by
  have : ∀ l : List Nat, l.foldl State.announce s = s := by
    intro l
    induction l with
    | nil => rfl
    | cons p l ih => rw [List.foldl_cons, s.announce_rested h p]; exact ih
  exact this _

theorem State.liftArbiter_rested (s : State) (h : Rested s) : s.liftArbiter = s := by
  unfold State.liftArbiter
  split
  · next c => rw [h.lift c]; simp only [State.arbitrate]; rw [← h.lift c]
  · rfl

/-- Where nothing of chapter 2 is due, `settle` changes nothing (R34, R41, R44). -/
theorem State.settle_rested (s : State) (h : Rested s) : s.settle = s := by
  unfold State.settle
  rw [s.followDwell_rested h, s.announceAll_rested h, s.liftArbiter_rested h]

/-- What is due in the stacks depends on the retained memory and the stacks only. -/
theorem Rested.congr {s t : State} (h : Rested s) (hr : t.retained = s.retained) (hk : t.stk = s.stk) : Rested t := by
  refine ⟨?_, ?_, ?_⟩
  · rw [hk]; exact h.lift
  · intro p i x r
    have := h.announced p i x r
    unfold State.position? at *
    rw [hk, hr, State.reel?_congr hr]; exact this
  · intro m hm hkd hst
    rw [hk] at hm
    have e : t.mountState m = s.mountState m := by
      unfold State.mountState State.requiredDwell State.dwellAt State.position? State.reel?
      rw [hr, hk]
    rw [e]; exact h.waits m hm hkd hst

/-- An event that leaves nothing of chapter 2 due ends where its effects end. -/
theorem event_rested (f : State → State) (s : State) (hp : s.powered = true) (h : Rested (f s.silent)) :
    event f s = .next (f s.silent) := by
  unfold event
  rw [if_pos hp]
  exact congrArg _ (State.settle_rested _ h)

/-- Placing a notice leaves the head of the outbound list taken (R181, R183). -/
theorem Link.placeNotice_headTaken (l : Link) (f : AlertFlag) (h : l.headTaken) : (l.placeNotice f).headTaken := by
  unfold Link.placeNotice
  split
  · next c =>
    unfold Link.place
    cases e : l.outbound with
    | nil =>
      intro g
      unfold Link.transmit
      simp only [List.nil_append]
      split
      · simp
      · next n => simp [n] at c
    | cons a rest =>
      rw [Link.transmit_of_headTaken]
      all_goals
        intro g
        have := h g
        simp only [e, List.cons_append, List.head?_cons] at this ⊢
        exact this
  · exact h

/-- Raising a flag leaves the head of the outbound list taken (R181, R183). -/
theorem State.raise_headTaken (s : State) (f : AlertFlag) (n : Names) (h : s.link.headTaken) :
    (s.raise f n).link.headTaken := Link.placeNotice_headTaken _ f h

/-! ### Requests -/

/-- The requests that place their reply themselves (R183, R187). -/
def Request.special : Request → Bool
  | .resetSuite => true
  | .setAlertMask _ => true
  | .setAlertEnable _ => true
  | _ => false

/-- A LIFT PASS command with a failing check is refused, and one without is forwarded and answered DONE (R53). -/
@[simp] theorem State.pass_some (s : State) (c : ForwardedCommand) (r : Reason) : s.pass c (some r) = s.refuse r := rfl
@[simp] theorem State.pass_none (s : State) (c : ForwardedCommand) : s.pass c none = (s.forward c).doneEmpty := rfl

theorem State.takeRequest_plain (s : State) (h : RequestHeader) (r : Request) (hr : Request.special r = false) :
    s.takeRequest h r = ((s.serve r).1.settle).reply h (s.serve r).2 := by
  cases r with
  | resetSuite => simp [Request.special] at hr
  | setAlertMask m => simp [Request.special] at hr
  | setAlertEnable on => simp [Request.special] at hr
  | _ => rfl

/-- LNK takes the oldest request when the reply before it has been sent (R178). -/
theorem State.takeNext_cons (s : State) (q : QueuedRequest) (rest : List QueuedRequest) (hr : s.link.ready = true)
    (hq : s.link.queue = q :: rest) : s.takeNext = (s.updLink (fun l => { l with queue := rest })).takeOne q := by
  unfold State.takeNext
  rw [if_pos hr, hq]

/-- LNK takes nothing while a reply has not been sent, or while no request waits (R178). -/
theorem State.takeNext_idle (s : State) (h : s.link.ready = false ∨ s.link.queue = []) : s.takeNext = s := by
  unfold State.takeNext
  cases h with
  | inl h => simp [h]
  | inr h => simp [h]

/-- A request that arrives where LNK is free is taken at once (R178). -/
theorem State.request_free (s : State) (n : RequestNumber) (r : Request) (h : Free s) (hd : r.decodes = true) :
    s.request n r = s.takeRequest { kind := r.kind, number := n } r := by
  have e : s.link.queue.length < Config.requestQueueLimit := by rw [h.queue]; decide
  have f : (s.updLink (fun l => { l with queue := l.queue ++ [{ kind := r.kind, number := n, request := some r }] })).updLink
      (fun l => { l with queue := [] }) = s := by
    simp only [State.updLink]
    rw [← h.queue]
  unfold State.request State.arrive
  rw [if_pos hd, if_pos e, State.takeNext_cons _ { kind := r.kind, number := n, request := some r } [], f]
  · rfl
  · exact h.ready
  · simp only [State.updLink, h.queue, List.nil_append]

/-- The state with its ports quiet is as free as before. -/
theorem Free.silent {s : State} (h : Free s) : Free s.silent := ⟨h.powered, h.queue, h.ready, h.taken⟩

theorem Rested.silent {s : State} (h : Rested s) : Rested s.silent := h.congr rfl rfl

/-- The event of a request that LNK takes at once. -/
theorem event_request (s : State) (n : RequestNumber) (r : Request) (h : Free s) (hd : r.decodes = true)
    (hs : Request.special r = false) :
    event (fun s => s.request n r) s
      = .next ((((s.silent.serve r).1.settle).reply { kind := r.kind, number := n } (s.silent.serve r).2).settle) := by
  have e : s.silent.request n r = ((s.silent.serve r).1.settle).reply { kind := r.kind, number := n } (s.silent.serve r).2 := by
    rw [s.silent.request_free n r h.silent hd, State.takeRequest_plain _ _ _ hs]
  unfold event
  rw [if_pos h.powered]
  exact congrArg _ (congrArg State.settle e)

/-- The reply to a request, where the head of the outbound list is taken. -/
theorem State.reply_taken (s : State) (h : RequestHeader) (b : ReplyBody) (ht : s.link.headTaken) :
    s.reply h b = { s with link := { s.link with
      outbound := s.link.outbound ++ [.reply { kind := h.kind, number := h.number, body := b }] } } := by
  simp only [State.reply, State.updLink, Link.place_reply _ _ ht]

/-- A request that LNK takes at once and that leaves nothing of chapter 2 due ends in the state its owner leaves, with its
reply placed. -/
theorem event_request_rested (s : State) (n : RequestNumber) (r : Request) (t : State) (b : ReplyBody) (h : Free s)
    (hd : r.decodes = true) (hs : Request.special r = false) (ha : s.silent.serve r = (t, b)) (hr : Rested t)
    (ht : t.link.headTaken) :
    event (fun s => s.request n r) s = .next (t.answered r n b) := by
  rw [event_request s n r h hd hs, ha]
  simp only [t.settle_rested hr]
  rw [State.settle_rested, State.reply_taken _ _ _ ht]
  · rfl
  · exact hr.congr (t.reply_retained _ _) (t.reply_stk _ _)

/-- A query LNK takes at once changes nothing but the outbound list. -/
theorem event_query (s : State) (n : RequestNumber) (r : Request) (b : ReplyBody) (h : Calm s)
    (hd : r.decodes = true) (hs : Request.special r = false) (ha : s.silent.serve r = (s.silent, b)) :
    event (fun s => s.request n r) s = .next (s.silent.answered r n b) :=
  event_request_rested s n r s.silent b h.toFree hd hs ha h.toRested.silent h.taken

/-- The command of a request is the arrival of that request at LNK. -/
theorem exec_command (n : RequestNumber) (r : Request) (s : State) :
    exec (r.command n) s = event (fun s => s.request n r) s := by
  cases r <;> rfl

end Sys2Proof.Machine
end

