-- ==== Sys2Proof/Laws/Wire.lean ====
section
/-!
SUPPORT. Numbers on the suite link: what reading the bytes of a written number gives back (R190).
-/

namespace Sys2Proof.Machine

@[simp] theorem bytesBE_length (size v : Nat) : (bytesBE size v).length = size := by
  induction size with
  | zero => rfl
  | succ k ih => simp [bytesBE, ih]

/-- Reading bytes behind a prefix already read. -/
theorem natOfBytes_foldl (l : List Byte) (acc : Nat) :
    l.foldl (fun a b => a * 256 + b.toNat) acc = acc * 256 ^ l.length + natOfBytes l := by
  unfold natOfBytes
  induction l generalizing acc with
  | nil => simp
  | cons b l ih =>
    rw [List.foldl_cons, ih, List.foldl_cons, ih (0 * 256 + b.toNat), List.length_cons, Nat.pow_succ]
    ring

theorem natOfBytes_cons (b : Byte) (l : List Byte) : natOfBytes (b :: l) = b.toNat * 256 ^ l.length + natOfBytes l := by
  rw [natOfBytes, List.foldl_cons, natOfBytes_foldl]
  simp

theorem natOfBytes_append (l m : List Byte) : natOfBytes (l ++ m) = natOfBytes l * 256 ^ m.length + natOfBytes m := by
  rw [natOfBytes, List.foldl_append, natOfBytes_foldl]
  rfl

/-- The bytes of a number spell it modulo what their count holds. -/
theorem natOfBytes_bytesBE (size v : Nat) : natOfBytes (bytesBE size v) = v % 256 ^ size := by
  induction size with
  | zero => simp [bytesBE, natOfBytes, Nat.mod_one]
  | succ k ih =>
    rw [bytesBE, natOfBytes_cons, bytesBE_length, ih]
    have h : (BitVec.ofNat 8 (v / 256 ^ k)).toNat = v / 256 ^ k % 256 := by simp
    rw [h, Nat.pow_succ, Nat.mod_mul, Nat.mul_comm (256 ^ k), Nat.add_comm]

/-- A number that fits its field is read back as it was written (R190). -/
theorem natOfBytes_natField (size v : Nat) (h : v < 256 ^ size) : natOfBytes (natField size v) = v := by
  rw [natField, if_pos h, natOfBytes_bytesBE, Nat.mod_eq_of_lt h]

/-- Bytes spell less than what their count holds. -/
theorem natOfBytes_lt (l : List Byte) : natOfBytes l < 256 ^ l.length := by
  induction l with
  | nil => simp [natOfBytes]
  | cons b l ih =>
    rw [natOfBytes_cons, List.length_cons, Nat.pow_succ]
    have : b.toNat < 256 := b.isLt
    nlinarith

/-- A signed number that fits two bytes is read back as it was written (R190). -/
theorem intOfBytes_intField (v : Int) (lo : -32768 ≤ v) (hi : v ≤ 32767) : intOfBytes (intField 2 v) = v := by
  unfold intField
  split
  · next h =>
    have f : 2 * v < 256 ^ 2 := by omega
    rw [if_pos f, intOfBytes]
    have e : natOfBytes (bytesBE 2 v.toNat) = v.toNat := by rw [natOfBytes_bytesBE]; omega
    simp only [e, bytesBE_length]
    rw [if_pos (by omega)]
    omega
  · next h =>
    have f : -(256 ^ 2 : Int) ≤ 2 * v := by omega
    rw [if_pos f, intOfBytes]
    have e : natOfBytes (bytesBE 2 ((256 ^ 2 : Int) + v).toNat) = ((256 ^ 2 : Int) + v).toNat := by
      rw [natOfBytes_bytesBE]; omega
    simp only [e, bytesBE_length]
    rw [if_neg (by omega)]
    omega

end Sys2Proof.Machine
end

