-- ==== Sys2Proof/Tests/Slice0.lean ====
section
/-!
SUPPORT. The model's own tests: ill-formed commands that the checks refuse, values of the manual's worked examples, single
steps on small states, and for every statement with hypotheses a state that meets them.
-/

namespace Sys2Proof.Tests

-- The kernel evaluates the theorems one after another: started all together, their threads' stacks pass the memory limit.
set_option Elab.async false

open Sys2Proof.Machine

/-! ### Small states -/

/-- The part after the lift has reported an empty carriage: idle, with nothing registered. -/
def ready : State := { State.reset with
  stk := { Stacks.powerOn with lift := .idle, carriage := .empty, cause := none, reported := true } }

/-- A record of a nitrate, acetate or polyester reel of 100 frames at a place. -/
def reelOf (tag : CanTag) (base : Base) (l : Location) : Reel :=
  newReel 15 { tag := tag, title := 7, gauge := .g35x4, base := base, emulsion := .colour, length := 100, location := l
               reading := none, passLimit := none }

/-- An acetate reel in cell 70. -/
def shelved : Reel := reelOf 1 .acetate (.cell 70)

/-- An acetate reel in the chamber of station 1, in a custody state. -/
def mounted (c : Custody) : Reel := { reelOf 1 .acetate (.chamber 1) with cameFrom := .a, home := some 70, custody := c }

/-- Reel 3 with a record, in a state. -/
def withReel (s : State) (r : Reel) : State := s.setReel 3 (some r)

/-- Station 1 changed, in a state. -/
def withStation (s : State) (f : Station → Station) : State := { s with stations := s.stations.set 1 (f (s.station 1)) }

/-- Staging position 2 changed, in a state. -/
def withPosition (s : State) (x : Staging) : State :=
  { s with stk := { s.stk with positions := s.stk.positions.set 2 x } }

/-- A lift in a state with a queue. -/
def withLift (s : State) (l : LiftState) (q : List MoveRecord) : State := { s with stk := { s.stk with lift := l, queue := q } }

/-- The waiting and moving records of the tests. -/
def record (k : MoveKind) (source : Location) (d : Location) (t : MoveTarget) : MoveRecord :=
  { kind := k, reel := some 3, station := some 1, source := source, destination := some d, wait := false, state := .moving
    number := some 5, target := some t, cause := none }

/-- A RUNNING pass record of station 1. -/
def pass : PassRecord :=
  { number := 1, station := 1, startTime := 0, profileAtStart := .fast, lowestProfile := .fast, frames := 0, defectTiles := 0
    boundaries := 0, unrecorded := 0, tears := 0, peak := none, outcome := .running }

/-- An ACTIVE work order of reel 3 over frames 0 to 99. -/
def active : WorkOrder :=
  { state := .active, ending := .none, requested := .fast, cues := [], passBegun := true, body := some
      { reel := some 3, first := 0, last := 99, nextCapture := 5, nextDeliver := 4, lastCaptured := some 4 } }

/-- A slot of station 1's work order with frame 5. -/
def slotOf (x : SlotState) : Slot := { Slot.free with state := x, order := some 1, frame := some 5 }

/-- Station 1 runs a pass of reel 3, at speed, with lane A. -/
def running : State :=
  let s := withStation (withReel ready { mounted .verified with history := [pass], order := some 1 })
    (fun t => { t with state := .running, motion := .atSpeed, profile := some .fast, heartbeat := some 500
                       sensor := .present, threaded := true })
  { s with
    orders := s.orders.set 1 active
    lanes := { s.lanes with laneA := { hold := some { station := 1, tenure := 24, release := .none }, carriage := none } } }

/-- Station 1 captures frame 5 of reel 3 into slot 0. -/
def capturing : State :=
  let s := withStation running (fun t => { t with inFlight := some 5 })
  { s with
    store := { s.store with slots := s.store.slots.set 0 (slotOf .filling) }
    lanes := { s.lanes with laneA :=
      { hold := some { station := 1, tenure := 24, release := .none }, carriage := some { station := 1, frame := 5, slot := 0 } } } }

/-! ### Checks that stand for the hypotheses of the statements -/

/-- What holds of every record of the registry holds of every registered reel. -/
theorem reels_all (s : State) (p : Reel → Prop) [∀ r, Decidable (p r)]
    (h : s.retained.reels.toList.all (fun o => o.all (fun r => decide (p r))) = true) :
    ∀ i r, s.reel? i = some r → p r := by
  intro i r e
  have e' : s.retained.reels[i]? = some (some r) := by
    unfold State.reel? at e
    cases o : s.retained.reels[i]? with
    | none => rw [o] at e; simp at e
    | some x => rw [o] at e; simp at e; rw [e]
  obtain ⟨hi, hx⟩ := Vector.getElem?_eq_some_iff.mp e'
  have m : some r ∈ s.retained.reels.toList := by rw [← hx]; simp
  simpa using (List.all_eq_true.mp h) _ m

/-- No announcement is due at a staging position. -/
def announcedCheck (s : State) (p : Nat) : Bool :=
  match s.position? p with
  | none => true
  | some x => x.state != .occupied || x.announced || s.retained.reels.toList.all (fun o => o.all (fun r =>
      decide (r.location = .staging p → x.dwell < s.retained.dwell.of r.cameFrom)))

/-- A check that gives `Rested`. -/
def restedCheck (s : State) : Bool :=
  (s.stk.lift != .idle || s.stk.queue.isEmpty) && (List.range 8).all (announcedCheck s)
    && s.stk.queue.all (fun m => m.kind != .mount || s.mountState m == m.state)

theorem rested_of_check (s : State) (h : restedCheck s = true) : Rested s := by
  simp only [restedCheck, Bool.and_eq_true, Bool.or_eq_true, bne_iff_ne, ne_eq, List.isEmpty_iff, List.all_eq_true,
    beq_iff_eq] at h
  obtain ⟨⟨h1, h2⟩, h3⟩ := h
  refine ⟨fun e => h1.resolve_left (fun n => n e), ?_, ?_⟩
  · intro p i x r hx c hr hl
    have hp : p < 8 := by
      by_contra n
      simp [State.position?, Vector.getElem?_eq_none (Nat.le_of_not_lt n)] at hx
    have := h2 p (List.mem_range.mpr hp)
    rcases Bool.eq_false_or_eq_true x.announced with a | a
    · exact .inl a
    · refine .inr ?_
      simp only [announcedCheck, hx, c, a, bne_self_eq_false, Bool.false_or] at this
      exact reels_all s (fun r => r.location = .staging p → x.dwell < s.retained.dwell.of r.cameFrom) this i r hr hl
  · intro m hm k _
    exact (h3 m hm).resolve_left (fun n => n k)

theorem dwellFollowed_of_check (s : State) (h : restedCheck { s with stk := { s.stk with lift := .direct } } = true) :
    DwellFollowed s :=
  have r := rested_of_check _ h
  ⟨r.announced, r.waits⟩

/-- A check that gives `Free`. -/
def freeCheck (s : State) : Bool :=
  s.powered && s.link.queue.isEmpty && s.link.ready && (match s.link.outbound with
    | .notice _ :: _ => false
    | _ => true)

theorem free_of_check (s : State) (h : freeCheck s = true) : Free s := by
  simp only [freeCheck, Bool.and_eq_true, List.isEmpty_iff] at h
  obtain ⟨⟨⟨h1, h2⟩, h3⟩, h4⟩ := h
  refine ⟨h1, h2, h3, ?_⟩
  intro f e
  cases o : s.link.outbound with
  | nil => simp [o] at e
  | cons a l => simp [o] at e; simp [o, e] at h4

theorem calm_of_check (s : State) (h : (freeCheck s && restedCheck s) = true) : Calm s := by
  simp only [Bool.and_eq_true] at h
  exact { toFree := free_of_check s h.1, toRested := rested_of_check s h.2 }

/-- What holds of the eight staging positions. -/
theorem positions_all (s : State) (p : Nat → Staging → Prop) [∀ i x, Decidable (p i x)]
    (h : (List.range 8).all (fun i => (s.position? i).all (fun x => decide (p i x))) = true) :
    ∀ i x, s.position? i = some x → p i x := by
  intro i x e
  have hi : i < 8 := by
    by_contra n
    simp [State.position?, Vector.getElem?_eq_none (Nat.le_of_not_lt n)] at e
  have := (List.all_eq_true.mp h) i (List.mem_range.mpr hi)
  simpa [e] using this

/-- What holds of the holds of both lanes. -/
theorem holds_all (s : State) (p : Hold → Prop) [∀ h, Decidable (p h)]
    (h : [LaneId.a, .b].all (fun l => (s.lane l).hold.all (fun x => decide (p x))) = true) :
    ∀ l x, (s.lane l).hold = some x → p x := by
  intro l x e
  have := (List.all_eq_true.mp h) l (by cases l <;> simp)
  simpa [e] using this

theorem ready_calm : Calm ready := calm_of_check _ (by decide +kernel)
theorem reset_calm : Calm State.reset := calm_of_check _ (by decide +kernel)
theorem running_calm : Calm running := calm_of_check _ (by decide +kernel)
theorem capturing_calm : Calm capturing := calm_of_check _ (by decide +kernel)

/-! ### More small states -/

/-- Acetate reel 3 in the chamber of station 1, which is in a state. -/
def inChamber (c : Custody) (x : StationState) : State :=
  withStation (withReel ready (mounted c)) (fun t => { t with state := x })

/-- Station 1 in a state, with an empty chamber. -/
def bare (x : StationState) : State := withStation ready (fun t => { t with state := x })

/-- Station 1 with a work order. -/
def ordered (s : State) (w : WorkOrder) : State := { s with orders := s.orders.set 1 w }

/-- Slot 2 changed. -/
def withSlot (s : State) (x : Slot) : State := { s with store := { s.store with slots := s.store.slots.set 2 x } }

/-- The link with an outbound list. -/
def sending (s : State) (l : List Outbound) : State := { s with link := { s.link with outbound := l } }

/-- A FETCH record of reel 8 that waits. -/
def waiting : MoveRecord :=
  { kind := .fetch, reel := some 8, station := none, source := .cell 5, destination := none, wait := false, state := .queued
    number := none, target := none, cause := none }

/-- Reel 3 on the carriage with the lift's move of number 5. -/
def moving (m : MoveRecord) (x : StagingState) : State :=
  let s := withPosition (withLift (withReel ready { shelved with location := .carriage }) .moving [m])
    { state := x, dwell := 50, announced := false }
  { s with stk := { s.stk with carriage := .reel 3, timer := some 120 } }

/-- Reel 3 at staging position 2 after some minutes of its 480, with the lift HALTED. -/
def staged (minutes : Nat) : State :=
  let s := withStation (withReel ready { shelved with location := .staging 2, cameFrom := .a })
    (fun t => { t with state := .empty })
  withPosition (withLift s .halted [waiting]) { state := .occupied, dwell := minutes, announced := decide (480 ≤ minutes) }

/-- The lift under direct control with reel 3 in a place. -/
def directed (l : Location) (c : Carriage) (x : StagingState) : State :=
  let s := withPosition (withLift (withReel ready { shelved with location := l }) .direct [waiting])
    { state := x, dwell := 40, announced := false }
  { s with stk := { s.stk with carriage := c } }

/-- The lift in a state with a carriage and a forwarded command. -/
def carrying (l : LiftState) (c : Carriage) (f : Option ForwardedCommand) : State :=
  { ready with stk := { ready.stk with lift := l, carriage := c, forwarded := f, reported := false } }

/-- A lane that station 1 holds. -/
def held (r : ReleasePending) (c : Option Capture) : Lane :=
  { hold := some { station := 1, tenure := 24, release := r }, carriage := c }

/-- Station 1 in LOOPBACK with an ACTIVE work order whose next frame is 5. -/
def feeding (x : SourceState) (f : Option Nat) : State :=
  let b : OrderBody :=
    { reel := none, first := 0, last := 5, nextCapture := 5, nextDeliver := 0, lastCaptured := none }
  let s := ordered (withStation ready (fun t => { t with state := .loopback, inFlight := f })) { active with body := some b }
  { s with lanes := { s.lanes with
      laneB := held .none none, source := { assigned := some 1, state := x, intervalOver := false } } }

/-- The keyframe of frame 5 with the identity set. -/
def keyframe (f : Nat) : Keyframe := { frame := f, transition := .cut, params := identitySet }

/-- Reel 3 in its cell with a grade list. -/
def keyed (l : List Keyframe) : State := withReel ready { shelved with keyframes := l }

/-- A reply that waits. -/
def aReply : Reply := { kind := 40, number := 3, body := .busy }

/-- A header of frame 5. -/
def aHeader : PictureHeader :=
  { station := 1, reel := some 3, title := none, frame := 5, gauge := .g35x4, treatment := .graded, gap := false
    test := false, oneSided := false, overflow := false, unchecked := false, bypass := false, closing := false
    mode := none, params := none, time := 0, defects := [] }

/-- A picture message of frame 5 in transmission, from slot 2 or from none. -/
def picturing (slot : Option Nat) (x : Slot) : State :=
  let s := withSlot (sending ready [.picture]) x
  let m : PictureMessage := { station := 1, frame := 5, treatment := .graded, slot := slot, header := aHeader }
  { s with delivery := { s.delivery with channel := .sending, message := some m } }

/-- The analysis of frame 5 in slot 2, with the picture channel busy. -/
def analysing (x : Slot) : State :=
  let s := withSlot running x
  let a : Analysis :=
    { slot := 2, station := 1, frame := 5, detector := .ir, mode := .conceal, settings := .default, predecessor := false
      successor := false }
  { s with delivery := { s.delivery with channel := .sending }, engine := { s.engine with analysis := some a } }

/-- A segment of a map. -/
def segment (first last : Nat) (k : SegmentKind) : Segment :=
  { first := first, last := last, kind := k, repair := .conceal, grade := .apply, spliceStart := false }

/-- The fields of an enrolment of an acetate reel with can tag 77. -/
def enrolment (length : Nat) (l : Location) (reading limit : Option Nat) : EnrollFields :=
  { tag := 77, title := 0, gauge := .g35x4, base := .acetate, emulsion := .mono, length := length, location := l
    reading := reading, passLimit := limit }

/-- What a command leaves. -/
def after (c : Instr) (s : State) : State := match exec c s with
  | .next t => t
  | _ => s

/-! ### Well-formedness: each check refuses an ill-formed term -/

theorem test_wf_registry :
    (Instr.enrollReel 0 (enrolment 65536 .unknown none none)).wellFormed = false
    ∧ (Instr.enrollReel 0 (enrolment 65535 (.cell 65536) none none)).wellFormed = false
    ∧ (Instr.enrollReel 0 (enrolment 65535 (.cell 65535) (some 256) none)).wellFormed = false
    ∧ (Instr.enrollReel 0 (enrolment 65535 (.cell 65535) (some 255) (some 255))).wellFormed = true
    ∧ (Instr.amendReel 0 3 { title := none, base := none, emulsion := none, passLimit := some 256, reading := none }).wellFormed
      = false
    ∧ (Instr.locateReel 0 65536 .unknown).wellFormed = false ∧ (Instr.retireReel 0 65536).wellFormed = false
    ∧ (Instr.queryReel 0 65536).wellFormed = false ∧ (Instr.querySegments 0 65536).wellFormed = false
    ∧ (Instr.queryPassHistory 0 65536).wellFormed = false ∧ (Instr.setSegmentMode 0 3 65536 none none).wellFormed = false
    ∧ (Instr.setSegments 0 3 (List.replicate 33 (segment 0 0 .gap))).wellFormed = false
    ∧ (Instr.setSegments 0 3 [segment 0 65536 .gap]).wellFormed = false
    ∧ (Instr.setQuarantineThreshold 0 256).wellFormed = false ∧ (Instr.releaseQuarantine 0 65536).wellFormed = false
    ∧ (Instr.releaseHold 0 65536).wellFormed = false := by decide +kernel

theorem test_wf_stacks : (Instr.queryShelf 0 (.cell 65536)).wellFormed = false ∧ (Instr.setDwell 0 .warm 65536).wellFormed = false
    ∧ (Instr.fetch 0 65536).wellFormed = false ∧ (Instr.mount 0 3 256 true).wellFormed = false
    ∧ (Instr.unmount 0 256).wellFormed = false ∧ (Instr.reshelve 0 65536).wellFormed = false
    ∧ (Instr.cancelMove 0 (.reel 65536)).wellFormed = false ∧ (Instr.cancelMove 0 (.station 256)).wellFormed = false
    ∧ (Instr.liftPassGoTo 0 (.chamber 65536)).wellFormed = false ∧ (Instr.liftPassPick 0 (.staging 65536)).wellFormed = false
    ∧ (Instr.liftPassPlace 0 (.cell 65536)).wellFormed = false ∧ (Instr.liftPassPick 0 .carriage).wellFormed = false
    ∧ (Instr.liftPassGoTo 0 .unknown).wellFormed = false ∧ (Instr.arrived 0).wellFormed = false
    ∧ (Instr.arrived 256).wellFormed = false ∧ (Instr.arrived 255).wellFormed = true
    ∧ (Instr.picked .carriage).wellFormed = false ∧ (Instr.placed .unknown).wellFormed = false
    ∧ (Instr.dwellMinuteTick 8).wellFormed = false ∧ (Instr.dwellMinuteTick 7).wellFormed = true := by decide +kernel

theorem test_wf_stations : (Instr.setStation 0 256 none none).wellFormed = false
    ∧ (Instr.setStation 0 1 (some 256) none).wellFormed = false ∧ (Instr.setStation 0 1 none (some 256)).wellFormed = false
    ∧ (Instr.queryStation 0 256).wellFormed = false ∧ (Instr.stationReset 0 256).wellFormed = false
    ∧ (Instr.loopbackOn 0 256).wellFormed = false ∧ (Instr.loopbackOff 0 256).wellFormed = false
    ∧ (Instr.forceRelease 0 256).wellFormed = false ∧ (Instr.seize 1 [254, 255]).wellFormed = false
    ∧ (Instr.perfInterval 1 { start := .film, transitions := [⟨9, .hole⟩, ⟨8, .film⟩], reached := 9 }).wellFormed = false
    ∧ (Instr.captureStored .a [(0, default), (0, default)]).wellFormed = false
    ∧ (Instr.captureStored .a [(12582912, default)]).wellFormed = false
    ∧ (Instr.captureStored .a [(12582911, default), (0, default)]).wellFormed = true := by decide +kernel

theorem test_wf_work :
    (Instr.openWorkOrder 0 { station := 1, subject := .reel 3 65536 0, profile := .fast, cues := none }).wellFormed = false
    ∧ (Instr.openWorkOrder 0 { station := 1, subject := .loopback 65536, profile := .fast, cues := none }).wellFormed = false
    ∧ (Instr.openWorkOrder 0 { station := 1, subject := .loopback 1, profile := .fast, cues := some (List.replicate 9 ⟨0, .note⟩) }).wellFormed = false
    ∧ (Instr.setCues 0 1 [⟨65536, .note⟩]).wellFormed = false ∧ (Instr.start 0 256).wellFormed = false
    ∧ (Instr.pause 0 256).wellFormed = false ∧ (Instr.stop 0 256).wellFormed = false ∧ (Instr.abort 0 256).wellFormed = false
    ∧ (Instr.queryWorkOrder 0 256).wellFormed = false ∧ (Instr.markDefect 0 1 5 ⟨256, 0, 0⟩).wellFormed = false
    ∧ (Instr.queryStore 0 (some 256)).wellFormed = false ∧ (Instr.setDetector 0 ⟨some 65536, none, none, none⟩).wellFormed = false
    ∧ (Instr.setDetector 0 ⟨none, some 256, none, none⟩).wellFormed = false
    ∧ (Instr.queryDefects 0 1 65536).wellFormed = false
    ∧ (Instr.setKeyframe 0 ⟨3, 5, .cut, { identitySet with lift := ⟨32768, 0, 0⟩ }⟩).wellFormed = false
    ∧ (Instr.setKeyframe 0 ⟨3, 5, .cut, { identitySet with lift := ⟨-32768, 0, 0⟩ }⟩).wellFormed = true
    ∧ (Instr.setKeyframe 0 ⟨3, 5, .cut, { identitySet with gain := ⟨65536, 0, 0⟩ }⟩).wellFormed = false
    ∧ (Instr.deleteKeyframe 0 3 65536).wellFormed = false ∧ (Instr.clearGradeList 0 65536).wellFormed = false
    ∧ (Instr.queryGradeList 0 65536).wellFormed = false ∧ (Instr.evaluateGrade 0 3 5 (some ⟨65536, 0, 0⟩)).wellFormed = false
    ∧ (Instr.setClock 0 4294967296).wellFormed = false ∧ (Instr.setClock 0 4294967295).wellFormed = true := by decide +kernel

/-! ### The interface -/

theorem test_step_idles : step State.reset = .next State.reset := rfl
theorem test_step_takes_the_front : step { ready with pending := [.clockSecondTick, .positioned] }
    = exec .clockSecondTick { ready with pending := [.positioned] } := rfl
theorem test_no_word_is_a_command : decodeTableWord 16 0x1234 = none ∧ State.reset.withFetchWord 16 0x1234 = State.reset :=
  ⟨rfl, rfl⟩

/-! ### The manual's worked examples -/

/-- Chapter 11: MOUNT, the fifth request of STK's list, is 36, and START is 66. -/
theorem test_request_kinds : (Request.mount 0 0 false).kind = 36 ∧ (Request.start 0).kind = 66 := by decide +kernel

/-- "Counts across a gap": reel 52. -/
theorem test_counts_across_a_gap :
    let map := [segment 0 9 .leader, segment 10 399 .picture, segment 400 419 .gap, segment 420 999 .picture]
    countOfFrame map 430 = 410 ∧ frameOfCount map 399 = some 399 ∧ frameOfCount map 400 = some 420
      ∧ frameOfCount map 979 = some 999 ∧ frameOfCount map 980 = none := by decide +kernel

/-- "Condition after a pass": reel 37 gets grade C; with a shrinkage peak of 262 its fifth pass lowers the limit to 6. -/
theorem test_condition_after_a_pass :
    gradeOf { pass with frames := 4000, defectTiles := 312, tears := 1, peak := some 95 } 7 = .c
    ∧ (({ mounted .verified with
        history := List.replicate 4 { pass with outcome := .completed } ++ [{ pass with frames := 4000, peak := some 262 }] } :
          Reel).completePass .completed).passLimit = 6 := by decide +kernel

/-- "Filter, intervals and the running figure": the accepted edge at 10010 and the figure 100; 9412 gives 93 and 1512 over 16
gives 95. -/
theorem test_perforation_filter :
    let s := withStation running (fun t => { t with filter := { level := some .film, pendingAt := none, reference := some 605 } })
    let t := (after (.perfInterval 1 { start := .film
                                       transitions := [⟨10000, .hole⟩, ⟨10002, .film⟩, ⟨10010, .hole⟩, ⟨10300, .film⟩]
                                       reached := 10310 }) s).station 1
    t.filter = { level := some .film, pendingAt := none, reference := some 10010 } ∧ t.window = [100]
      ∧ shrinkageOf 9500 9412 = 93 ∧ roundAway 1512 16 = 95 := by decide +kernel

/-- "Splices found during a pass": the report at frame 611 splits segment 1. -/
theorem test_splice_splits : (after (.splice 1 611) (withReel running { mounted .verified with
      length := 2400, history := [pass], order := some 1
      segments := [segment 0 23 .leader, segment 24 2375 .picture, segment 2376 2399 .leader] })).reel? 3
    = some { mounted .verified with
        length := 2400, history := [{ pass with boundaries := 1 }], order := some 1
        segments := [segment 0 23 .leader, segment 24 610 .picture, { segment 611 2375 .picture with spliceStart := true },
                     segment 2376 2399 .leader] } := by decide +kernel

/-- "A dust speck on a monochrome reel": the sample is a candidate, and not with a successor of 1500. -/
theorem test_dust_speck : temporalCandidate 120 2920 (some 807) (some 817) = true
    ∧ temporalCandidate 120 2920 (some 807) (some 1500) = false ∧ temporalCandidate 120 2920 (some 807) none = true := by
  decide +kernel

/-- "One tile row of a colour frame": three records on a COLOUR reel, two on a MONO one. -/
theorem test_tile_row :
    let row := fun m => (mergeRow 10 20 none ([4, 37, 512, 2000, 1500, 12].map (fun c => (tileClass m .default c, c)))).map
      (fun d => (d.kind, d.span, d.count))
    row .ir = [(.spot, some ⟨10, 21, 22⟩, 549), (.blotch, some ⟨10, 23, 24⟩, 3500), (.spot, some ⟨10, 25, 25⟩, 12)]
    ∧ row .temporal = [(.spot, some ⟨10, 21, 22⟩, 549), (.spot, some ⟨10, 25, 25⟩, 12)] := by decide +kernel

/-- R146: the COLOUR frame of "one tile row" has 5 defect tiles, and the MONO frame 3. -/
theorem test_defect_tiles :
    let mark := fun (k : DefectKind) t => ({ kind := k, span := some t, count := 0, outcome := .marked } : Defect)
    let mono := [mark .spot ⟨10, 21, 22⟩, mark .spot ⟨10, 25, 25⟩]
    defectTiles .g35x4 (mono ++ [mark .blotch ⟨10, 23, 24⟩]) = 5 ∧ defectTiles .g35x4 mono = 3 := by decide +kernel

/-- Chapter 7: two usable neighbours fill a target with the mean rounded half up. -/
theorem test_fill_mean : meanColour ⟨1200, 1100, 900⟩ ⟨1203, 1098, 905⟩ = ⟨1202, 1099, 903⟩ := by decide +kernel

/-- "One ramp, both directions": frames 103, 130 and 147, up and down. -/
theorem test_ramp :
    let a := { keyframe 100 with transition := .ramp }
    let b := { keyframe 148 with params := { identitySet with lift := ⟨40, 0, 0⟩, gain := ⟨1126, 1024, 1024⟩ } }
    [99, 103, 130, 147, 148].map (fun f => ((paramSetAt [a, b] f).lift.red, (paramSetAt [a, b] f).gain.red))
      = [(0, 1024), (3, 1030), (25, 1088), (39, 1124), (40, 1126)]
    ∧ (paramSetAt [{ b with frame := 100, transition := .ramp }, { a with frame := 148 }] 103).lift.red = 37 := by decide +kernel

/-- "Worked cases of the transfer": a graded sample and saturation at its top. -/
theorem test_transfer :
    (transferStages { lift := ⟨40, 0, -60⟩, gain := ⟨1126, 1024, 1229⟩, saturation := 192 } ⟨2000, 1800, 1500⟩).y3
      = ⟨2165, 1832, 1778⟩
    ∧ (transferStages { identitySet with saturation := 512 } ⟨3500, 2000, 600⟩).y3 = ⟨4095, 1707, 0⟩ := by decide +kernel

/-- R64, R103: a work order over frames 395 to 425 of reel 52 starts capturing and delivering at 395. -/
theorem test_open_work_order :
    ((after (.openWorkOrder 1 { station := 1, subject := .reel 3 395 425, profile := .standard, cues := none })
      (withReel (inChamber .verified .threaded) { mounted .verified with length := 1000
                                                                         segments := [segment 0 9 .leader,
                                                                           segment 10 399 .picture, segment 400 419 .gap,
                                                                           segment 420 999 .picture] })).order 1).body
    = some { reel := some 3, first := 395, last := 425, nextCapture := 395, nextDeliver := 395, lastCaptured := none }
    := by decide +kernel

/-- R188, R190: the frame of QUERY LIFT with number 9 stands on the control channel with class 1 and kind 40. R189: the
largest request, SET SEGMENTS with 32 segments, is 264 bytes of message. -/
theorem test_request_frames : (requestFrame 9 .queryLift).take 9 = [0, 0, 0, 0, 5, 1, 40, 0, 9]
    ∧ (requestFrame 9 (.setSegments 3 (List.replicate 32 (segment 0 0 .gap)))).length = 9 + 264 := by decide +kernel

/-! ### Witnesses: states that meet the hypotheses of the statements -/

/-- A powered state in which nothing of chapter 2 is due. -/
theorem at_rest (s : State) (h : (s.powered && restedCheck s) = true) : s.powered = true ∧ Rested s := by
  simp only [Bool.and_eq_true] at h
  exact ⟨h.1, rested_of_check s h.2⟩

/-- The command goes on, as a check. -/
def goesOnCheck (c : Instr) (s : State) : Bool := match exec c s with
  | .next _ => true
  | _ => false

theorem after_of_check (c : Instr) (s : State) (h : goesOnCheck c s = true) : exec c s = .next (after c s) := by
  unfold goesOnCheck at h
  unfold after
  split at h
  · next t e => rw [e]
  · simp at h

/-- Both lanes stand without a mark. -/
theorem unmarked (s : State) (a : (s.lane .a).unmark = s.lane .a) (b : (s.lane .b).unmark = s.lane .b) (l : LaneId) :
    (s.lane l).unmark = s.lane l := by
  cases l
  · exact a
  · exact b

/-- The registry's check has failed. -/
def failed : State := { running with retained := { running.retained with checkAgrees := false } }

theorem witness_PowerLossAndTheFailedCheck : failed.retained.checkAgrees = false ∧ failed.powered = true := by decide +kernel

theorem witness_PowerOnKeepsTheRegistry :
    let s := running.setReel 4 (some { shelved with tag := 2 })
    s.retained.checkAgrees = true ∧ s.reel? 4 = some { shelved with tag := 2 } ∧ shelved.location = .cell 70
      ∧ (s.reel? 3).map (·.location) = some (.chamber 1) ∧ s.reel? 5 = none := by decide +kernel

/-- Four frames that are rejected for the four causes of R189, each the first that applies. -/
theorem witness_FramesAreRejectedAndRequestsWait : (ready.powered = true ∧ Rested ready)
    ∧ ([] : List Byte).length ≠ 9 + natOfBytes (([] : List Byte).drop 1 |>.take 4)
    ∧ (let l := (requestFrame 9 .queryLift).set 13 0
       l.length = 9 + natOfBytes ((l.drop 1).take 4) ∧ (checkValue (l.take 10)).toNat ≠ natOfBytes (l.drop 10))
    ∧ (let b : List Byte := [1, 0, 0, 0, 4, 1, 40, 0, 9]
       let l := b ++ bytesBE 4 (checkValue b).toNat
       l.length = 9 + natOfBytes ((l.drop 1).take 4) ∧ (checkValue (l.take 9)).toNat = natOfBytes (l.drop 9) ∧ l.head? ≠ some 0)
    ∧ (let b : List Byte := [0, 0, 0, 0, 3, 1, 40, 0]
       let l := b ++ bytesBE 4 (checkValue b).toNat
       l.length = 9 + natOfBytes ((l.drop 1).take 4) ∧ (checkValue (l.take 8)).toNat = natOfBytes (l.drop 8) ∧ l.head? = some 0
         ∧ natOfBytes ((l.drop 1).take 4) < 4) :=
  ⟨at_rest _ (by decide +kernel), by decide +kernel⟩

theorem witness_FrameOfARequestIsItsCommand :
    (Request.enrollReel (enrolment 65535 (.cell 65535) (some 255) none)).wellFormed = true
      ∧ (Request.setSegments 65535 (List.replicate 32 (segment 0 65535 .gap))).wellFormed = true
      ∧ (Request.setKeyframe ⟨3, 5, .ramp, { identitySet with lift := ⟨-32768, 32767, 0⟩ }⟩).wellFormed = true := by
  decide +kernel

theorem witness_DecodingInvertsEncoding :
    (Request.amendReel 511 ⟨some 65535, none, some .mono, some 255, none⟩).wellFormed = true
      ∧ (Request.clearAlerts (BitVec.allOnes 32)).wellFormed = true := by
  decide +kernel

theorem witness_EveryRequestTakenGetsOneReply : Free ready := ready_calm.toFree

theorem witness_RefusedRequestsChangeNothing : Calm ready
    ∧ exec ((Request.fetch 600).command 9) ready = .next (after (.fetch 9 600) ready)
    ∧ RepliedOnce (after (.fetch 9 600) ready) (.fetch 600) 9 (.refused .notFound) :=
  ⟨ready_calm, after_of_check _ _ (by decide +kernel), by unfold RepliedOnce; decide +kernel⟩

/-- A reply that has not been sent, with `k` requests and `b` BUSY replies behind it. -/
def pressed (k b : Nat) : State :=
  let s := sending ready (.reply aReply :: List.replicate b (.busy aReply))
  { s with link := { s.link with queue := List.replicate k { kind := 40, number := 1, request := some .queryLift } } }

theorem witness_FramesAreRejectedAndRequestsWait_waiting :
    ((pressed 7 8).powered = true ∧ Rested (pressed 7 8)) ∧ ((pressed 8 7).powered = true ∧ Rested (pressed 8 7))
      ∧ ((pressed 8 8).powered = true ∧ Rested (pressed 8 8))
      ∧ (∀ f, (pressed 7 8).link.outbound.head? ≠ some (.notice f)) ∧ (pressed 7 8).link.ready = false
      ∧ (pressed 7 8).link.queue.length = 7 ∧ (pressed 8 7).link.queue.length = 8
      ∧ (pressed 8 7).link.outbound.countP (·.isBusy) = 7 ∧ (pressed 8 8).link.outbound.countP (·.isBusy) = 8
      ∧ Request.queryLift.decodes = true :=
  ⟨at_rest _ (by decide +kernel), at_rest _ (by decide +kernel), at_rest _ (by decide +kernel), fun f => by simp [pressed, sending],
    by decide +kernel⟩

/-- A context of the flag FILM BREAK. -/
def aContext : AlertContext := { time := 5, station := some 1, reel := none, frame := none }

/-- A composed notice. -/
def aNotice : Notice := { word := 16, cause := .filmBreak, context := aContext }

/-- A BUSY reply in transmission with a notice of FILM BREAK behind it. -/
def noticed : State :=
  let s := sending ready [.busy aReply, .notice .filmBreak]
  { s with link := { s.link with pending := s.link.pending.set 4 (some aContext) } }

theorem witness_SentMessagesLeaveTheOutboundList : (ready.powered = true ∧ Rested ready)
    ∧ ((sending ready [.busy aReply]).powered = true ∧ Rested (sending ready [.busy aReply]))
    ∧ ((sending ready [.reply aReply]).powered = true ∧ Rested (sending ready [.reply aReply]))
    ∧ ((sending ready [.taken aNotice]).powered = true ∧ Rested (sending ready [.taken aNotice]))
    ∧ (noticed.powered = true ∧ Rested noticed) ∧ noticed.link.outbound = [.busy aReply, .notice .filmBreak]
    ∧ noticed.link.pending[(AlertFlag.filmBreak).number] = some aContext
    ∧ (sending ready [.taken aNotice]).link.pending[aNotice.cause.number] = none
    ∧ (sending ready [.reply aReply]).link.queue = []
    ∧ ((pressed 1 0).powered = true ∧ Rested (pressed 1 0)) ∧ (pressed 1 0).link.outbound = [.reply aReply]
    ∧ (pressed 1 0).link.queue = [{ kind := 40, number := 1, request := some .queryLift }]
    ∧ ((sending ready [.picture]).powered = true ∧ Rested (sending ready [.picture]))
    ∧ (let s := sending ready [.busy aReply, .arbiterTest, .busy aReply]
       (s.powered = true ∧ Rested s) ∧ ∀ st, (s.order st).state.offers = false) :=
  ⟨at_rest _ (by decide +kernel), at_rest _ (by decide +kernel), at_rest _ (by decide +kernel), at_rest _ (by decide +kernel),
    at_rest _ (by decide +kernel), rfl, by decide +kernel, by decide +kernel, rfl, at_rest _ (by decide +kernel), rfl, rfl,
    at_rest _ (by decide +kernel), at_rest _ (by decide +kernel), by decide +kernel⟩

/-- A message in transmission, the arbiter's test or nothing behind it, then a notice of FILM BREAK, with a request waiting. -/
def behind (e : Outbound) (between : List Outbound) (q : Request) : State :=
  let s := sending ready (e :: between ++ [.notice .filmBreak])
  { s with link := { s.link with
      word := 16, pending := s.link.pending.set 4 (some aContext)
      queue := [{ kind := q.kind, number := 42, request := some q }] } }

theorem witness_SentMessagesLeaveTheOutboundList_behindTheTest :
    (let s := behind (.reply aReply) [.arbiterTest] (.clearAlerts 16)
     (s.powered = true ∧ Rested s) ∧ s.link.outbound = .reply aReply :: .arbiterTest :: .notice .filmBreak :: []
       ∧ s.link.pending[(AlertFlag.filmBreak).number] = some aContext)
    ∧ ((behind (.busy aReply) [] .resetSuite).powered = true ∧ Rested (behind (.busy aReply) [] .resetSuite)) :=
  ⟨⟨at_rest _ (by decide +kernel), by decide +kernel⟩, at_rest _ (by decide +kernel)⟩

/-- R181, R183: the notice behind the arbiter's test is in transmission before LNK takes a CLEAR ALERTS that names its flag,
and is not withdrawn. -/
theorem test_notice_behind_the_test :
    (after .outboundMessageSent (behind (.reply aReply) [.arbiterTest] (.clearAlerts 16))).link.outbound
      = [.taken { word := 16, cause := .filmBreak, context := aContext },
         .reply { kind := (Request.clearAlerts 16).kind, number := 42, body := .done (.alertWord 0) }] := by
  decide +kernel

/-- The link with reporting enabled. -/
def enabled (s : State) : State := { s with link := { s.link with enable := true } }

theorem witness_RaisingAFlagPlacesItsNotice :
    ready.link.headTaken ∧ (enabled noticed).link.headTaken ∧ (enabled (sending ready [.picture])).link.headTaken
      ∧ (enabled ready).link.headTaken ∧ ready.link.reported .filmBreak = false
      ∧ (enabled noticed).link.reported .filmBreak = true
      ∧ (enabled noticed).link.outbound.any (·.isNoticeOf .filmBreak) = true
      ∧ (enabled (sending ready [.picture])).link.reported .filmBreak = true
      ∧ (enabled (sending ready [.picture])).link.outbound.any (·.isNoticeOf .filmBreak) = false
      ∧ (enabled ready).link.reported .filmBreak = true ∧ (enabled ready).link.outbound = [] :=
  ⟨ready_calm.taken, (free_of_check (enabled noticed) (by decide +kernel)).taken,
    (free_of_check (enabled (sending ready [.picture])) (by decide +kernel)).taken,
    (free_of_check (enabled ready) (by decide +kernel)).taken, by decide +kernel⟩

theorem witness_FlagsStaySet : ready.link.queue = [] ∧ ready.flag .retainedLost = true
    ∧ exec .clockSecondTick ready = .next (after .clockSecondTick ready) :=
  ⟨rfl, by decide +kernel, after_of_check _ _ (by decide +kernel)⟩

theorem witness_AlertSettingsGovernNotices : Calm noticed ∧ (noticed.link.pending[(AlertFlag.filmBreak).number]).isSome = true
    ∧ Calm (enabled noticed) ∧ (noticed.flag .retainedLost) = true :=
  ⟨calm_of_check _ (by decide +kernel), by decide +kernel, calm_of_check _ (by decide +kernel), by decide +kernel⟩

theorem witness_ClockAndStationSettingsAreClamped :
    let s := { ready with link := { ready.link with clock := 86399 } }
    (s.powered = true ∧ Rested s) ∧ s.link.clock = 86399 ∧ (ready.powered = true ∧ Rested ready) ∧ ready.link.clock < 86399
      ∧ Calm running :=
  ⟨at_rest _ (by decide +kernel), rfl, at_rest _ (by decide +kernel), by decide +kernel, running_calm⟩

/-! ### The registry -/

/-- Reel 3 in the chamber of station 1 and an unidentified can at staging position 2. -/
def unidentified : State := withPosition running { state := .unidentified, dwell := 9000, announced := false }

theorem witness_EnrolmentFillsTheLowestFreeEntry :
    Free unidentified ∧ NoStart unidentified ∧ (∀ j r, unidentified.reel? j = some r → r.tag ≠ (77 : CanTag))
      ∧ unidentified.reel? 0 = none
      ∧ (enrolment 60001 (.cell 64) none (some 17)).location = .cell 64 ∧ unidentified.cellState 64 = .free
      ∧ zoneOfCell 64 = .a
      ∧ (enrolment 0 (.staging 2) (some 31) (some 0)).location = .staging 2
      ∧ (unidentified.position? 2).map (·.state) = some .unidentified
      ∧ unidentified.retained.threshold ≤ min 31 30 :=
  ⟨free_of_check _ (by decide +kernel), fun _ => by decide +kernel,
    reels_all _ (fun r => r.tag ≠ (77 : CanTag)) (by decide +kernel), by decide +kernel⟩

/-- An acetate reel whose place is not known, with a home cell. -/
def lost : Reel := { shelved with location := .unknown }

theorem witness_AmendmentWritesTheNamedFields :
    Calm running ∧ (running.reel? 3).map (·.order) = some (some 1)
      ∧ Calm (withReel ready shelved) ∧ (withReel ready shelved).reel? 3 = some shelved ∧ classOf .nitrate false ≠ shelved.cls
      ∧ shelved.location = .cell 70
      ∧ Calm (withReel ready lost) ∧ (withReel ready lost).reel? 3 = some lost ∧ lost.order = none ∧ lost.quarantine = false
      ∧ (withReel ready lost).retained.threshold = 15 ∧ lost.home = some 70 ∧ classOf lost.base true ≠ lost.cls :=
  ⟨running_calm, by decide +kernel, calm_of_check _ (by decide +kernel), by decide +kernel, by decide +kernel, by decide +kernel,
    calm_of_check _ (by decide +kernel), by decide +kernel⟩

theorem witness_LocatingAndRetiringAReel :
    Calm (withReel ready lost) ∧ (withReel ready lost).reel? 3 = some lost ∧ lost.location = .unknown ∧ zoneOfCell 64 = lost.cls
      ∧ (withReel ready lost).cellState 64 = .free ∧ lost.home = some 70 ∧ zoneOfCell 70 = lost.cls
      ∧ Free (withReel unidentified lost) ∧ NoStart (withReel unidentified lost)
      ∧ ((withReel unidentified lost).position? 2).map (·.state) = some .unidentified
      ∧ Calm (withReel ready shelved) ∧ shelved.location ≠ .unknown ∧ shelved.order = none
      ∧ Calm (withLift (withReel ready shelved) .halted [{ waiting with reel := some 3 }])
      ∧ Calm (inChamber .verified .loaded) ∧ (inChamber .verified .loaded).reel? 3 = some (mounted .verified)
      ∧ (mounted .verified).location = .chamber 1 :=
  ⟨calm_of_check _ (by decide +kernel), by decide +kernel, rfl, by decide +kernel, by decide +kernel, rfl, by decide +kernel,
    free_of_check _ (by decide +kernel), fun _ => by decide +kernel, by decide +kernel, calm_of_check _ (by decide +kernel),
    by decide +kernel, rfl, calm_of_check _ (by decide +kernel), calm_of_check _ (by decide +kernel), by decide +kernel⟩

theorem witness_SegmentRequestsWriteTheMap :
    Calm (withReel ready shelved) ∧ (withReel ready shelved).reel? 3 = some shelved ∧ shelved.order = none ∧ shelved.length = 100
      ∧ (let map := (List.range 31).map (fun i => segment i i .gap) ++ [segment 31 99 .picture]
         map.length = 32 ∧ (map.head?.map (·.first)) = some 0 ∧ (map.getLast?.map (·.last)) = some 99
           ∧ (∀ g ∈ map, g.first ≤ g.last) ∧ map.IsChain (fun g h => h.first = g.last + 1))
      ∧ Calm running ∧ ((running.reel? 3).map (·.order)) = some (some 1) ∧ Calm ready ∧ ready.reel? 3 = none :=
  ⟨calm_of_check _ (by decide +kernel), by decide +kernel, rfl, rfl, by decide +kernel, running_calm, by decide +kernel,
    ready_calm, by decide +kernel⟩

/-- A quarantined acetate reel with a reading, in a place. -/
def quarantined (v : Nat) (l : Location) : Reel := { shelved with quarantine := true, acid := some v, location := l, home := some 448 }

theorem witness_QuarantineThresholdIsClamped :
    Calm ready ∧ Calm running
      ∧ Calm (withReel ready (quarantined 15 .unknown)) ∧ Calm (withReel ready (quarantined 14 .unknown))
      ∧ (withReel ready (quarantined 14 .unknown)).reel? 3 = some (quarantined 14 .unknown)
      ∧ (let s := inChamber .verified .loaded
         (s.powered = true ∧ Rested s) ∧ (s.station 1).state = .loaded ∧ s.reelAt (.chamber 1) = some 3
           ∧ (s.reel? 3).map (·.quarantine) = some false) :=
  ⟨ready_calm, running_calm, calm_of_check _ (by decide +kernel), calm_of_check _ (by decide +kernel), by decide +kernel,
    at_rest _ (by decide +kernel), by decide +kernel⟩

theorem witness_ReleasingQuarantineAndHold :
    Calm ready ∧ ready.reel? 3 = none ∧ Calm (withReel ready shelved) ∧ shelved.quarantine = false
      ∧ Calm (withReel ready (quarantined 15 .unknown))
      ∧ (withReel ready (quarantined 15 .unknown)).reel? 3 = some (quarantined 15 .unknown)
      ∧ (withReel ready (quarantined 15 .unknown)).retained.threshold = 15
      ∧ Calm (withReel ready (quarantined 14 (.cell 448)))
      ∧ (withReel ready (quarantined 14 (.cell 448))).reel? 3 = some (quarantined 14 (.cell 448))
      ∧ Calm (withReel ready (quarantined 14 .unknown))
      ∧ (withReel ready (quarantined 14 .unknown)).reel? 3 = some (quarantined 14 .unknown) :=
  ⟨ready_calm, by decide +kernel, calm_of_check _ (by decide +kernel), rfl, calm_of_check _ (by decide +kernel),
    by decide +kernel, by decide +kernel, calm_of_check _ (by decide +kernel), by decide +kernel,
    calm_of_check _ (by decide +kernel), by decide +kernel⟩

theorem witness_RegistryQueriesAnswerFromTheRecords :
    Calm running ∧ (running.reel? 3).map (·.tag) = some 1 ∧ running.reel? 600 = none
      ∧ (∀ i r, ready.reel? i = some r → r.tag ≠ (1 : CanTag)) ∧ (∀ j, j < 3 → running.reel? j = none) :=
  ⟨running_calm, by decide +kernel, by decide +kernel, reels_all _ (fun r => r.tag ≠ (1 : CanTag)) (by decide +kernel),
    by decide +kernel⟩

/-! ### The stacks and the lift -/

theorem witness_MoveRequestsJoinAndLeaveTheLiftQueue :
    (let s := withLift (withReel ready shelved) .halted (List.replicate 15 waiting)
     Calm s ∧ s.stk.lift ≠ .idle ∧ s.stk.queue.length = 15 ∧ s.reel? 3 = some shelved ∧ (∀ m ∈ s.stk.queue, m.reel ≠ some 3))
    ∧ (Calm (staged 479) ∧ (staged 479).stk.lift ≠ .idle
        ∧ (staged 479).reel? 3 = some { shelved with location := .staging 2, cameFrom := .a }
        ∧ (∀ m ∈ (staged 479).stk.queue, m.reel ≠ some 3 ∧ m.station ≠ some 1)
        ∧ (staged 479).position? 2 = some { state := .occupied, dwell := 479, announced := false }
        ∧ ((staged 479).station 1).state = .empty ∧ (staged 479).retained.dwell.of .a = 480)
    ∧ (Calm (staged 480) ∧ (staged 480).position? 2 = some { state := .occupied, dwell := 480, announced := true })
    ∧ (let s := withLift (inChamber .verified .loaded) .halted []
       Calm s ∧ (s.station 1).state = .loaded ∧ (s.order 1).state = .closed)
    ∧ (let m := { waiting with kind := .mount, reel := some 3, station := some 1, source := .staging 2, state := .dwellWait }
       let s := { staged 479 with stk := { (staged 479).stk with queue := [waiting, m, waiting] } }
       Calm s ∧ s.stk.queue = [waiting] ++ m :: [waiting] ∧ (∀ y ∈ [waiting] ++ [waiting], y.reel ≠ some 3))
    ∧ (let m := { waiting with kind := .unmount, reel := none, station := some 3, source := .chamber 3, state := .halted }
       let s := withLift ready .halted [m]
       Calm s ∧ s.stk.queue = [] ++ m :: []) :=
  ⟨⟨calm_of_check _ (by decide +kernel), by decide +kernel⟩, ⟨calm_of_check _ (by decide +kernel), by decide +kernel⟩,
    ⟨calm_of_check _ (by decide +kernel), by decide +kernel⟩, ⟨calm_of_check _ (by decide +kernel), by decide +kernel⟩,
    ⟨calm_of_check _ (by decide +kernel), by decide +kernel⟩, ⟨calm_of_check _ (by decide +kernel), by decide +kernel⟩⟩

/-- Seven staging positions taken, the eighth EMPTY, and the move counter at its last value. -/
def lastPosition : State :=
  let s := withReel ready shelved
  { s with stk := { s.stk with
      counter := 255
      positions := (Vector.replicate 8 { state := .occupied, dwell := 5, announced := true }).set 7 .powerOn } }

theorem witness_MovesStartAtAnIdleLift : Calm lastPosition ∧ lastPosition.stk.lift = .idle ∧ lastPosition.reel? 3 = some shelved
    ∧ shelved.location = .cell 70 ∧ lastPosition.position? 7 = some .powerOn
    ∧ (∀ q y, lastPosition.position? q = some y → q < 7 → y.state ≠ .empty)
    ∧ (let s := { lastPosition with stk := { lastPosition.stk with
         positions := Vector.replicate 8 { state := .occupied, dwell := 5, announced := true } } }
       Calm s ∧ s.reel? 3 = some shelved ∧ s.stk.positions.all (fun x => x.state != .empty) = true) :=
  ⟨calm_of_check _ (by decide +kernel), by decide +kernel, by decide +kernel, rfl, by decide +kernel,
    positions_all _ (fun q y => q < 7 → y.state ≠ .empty) (by decide +kernel), calm_of_check _ (by decide +kernel),
    by decide +kernel⟩

/-- Reel 3 at staging position 2 without a home cell, with an idle lift and station 1 EMPTY. -/
def homeless : State :=
  let s := withStation (withReel ready { shelved with location := .staging 2, home := none, cameFrom := .a })
    (fun t => { t with state := .empty })
  withPosition s { state := .occupied, dwell := 480, announced := true }

/-- Every cell of zone N taken, and reel 3, of nitrate, at staging position 2 without a home cell. -/
def fullZone : State :=
  let r := reelOf 1 .nitrate .unknown
  let s := withPosition (withReel ready { r with location := .staging 2, home := none })
    { state := .occupied, dwell := 0, announced := false }
  (List.range 64).foldl (fun s c => s.setReel (10 + c) (some { r with location := .cell c, home := some c })) s

theorem witness_MovesStartAtAnIdleLift_staged :
    (Calm homeless ∧ homeless.stk.lift = .idle ∧ homeless.reel? 3 = some { shelved with
         location := .staging 2, home := none, cameFrom := .a }
       ∧ homeless.retained.dwell.of .a = 480 ∧ homeless.position? 2 = some { state := .occupied, dwell := 480, announced := true }
       ∧ (homeless.station 1).state = .empty ∧ homeless.reelAt (.chamber 1) = none ∧ shelved.hold = false
       ∧ zoneOfCell 64 = shelved.cls ∧ homeless.cellState 64 = .free ∧ (∀ c, c < 64 → zoneOfCell c ≠ shelved.cls))
    ∧ (let r := { shelved with location := .staging 2, home := some 447 }
       let s := withReel homeless r
       Calm s ∧ s.reel? 3 = some r)
    ∧ (Calm fullZone ∧ fullZone.stk.lift = .idle ∧ (fullZone.reel? 3).map (·.cls) = some .n
       ∧ (fullZone.reel? 3).map (·.home) = some none
       ∧ (∀ c, c < 640 → zoneOfCell c = .n → fullZone.cellState c ≠ .free)) :=
  ⟨⟨calm_of_check _ (by decide +kernel), by decide +kernel⟩, ⟨calm_of_check _ (by decide +kernel), by decide +kernel⟩,
    calm_of_check _ (by decide +kernel), by decide +kernel⟩

theorem witness_MovesStartAtAnIdleLift_unmounts :
    (let s := inChamber .mismatch .loaded
     Calm s ∧ s.stk.lift = .idle ∧ (s.station 1).state = .loaded ∧ (s.order 1).state = .closed
       ∧ s.position? 0 = some .powerOn ∧ s.reelAt (.chamber 1) = some 3 ∧ s.reel? 3 = some (mounted .mismatch))
    ∧ (Calm (bare .loaded) ∧ (bare .loaded).stk.lift = .idle ∧ (bare .loaded).reelAt (.chamber 1) = none
       ∧ ((bare .loaded).order 1).state = .closed ∧ (bare .loaded).position? 0 = some .powerOn) :=
  ⟨⟨calm_of_check _ (by decide +kernel), by decide +kernel⟩, calm_of_check _ (by decide +kernel), by decide +kernel⟩

/-- A MOUNT of reel 3 from staging position 2 to station 1, waiting behind a FETCH of a reel that no entry holds. -/
def mounting (m : MoveState) : MoveRecord :=
  { waiting with kind := .mount, reel := some 3, station := some 1, source := .staging 2, wait := true, state := m }

/-- Reel 3 at staging position 2 for so many minutes, station 1 EMPTY, and the lift with that queue. -/
def queued (l : LiftState) (minutes : Nat) (marked : Bool) (q : List MoveRecord) : State :=
  withPosition (withLift homeless l q) { state := .occupied, dwell := minutes, announced := marked }

/-- R44: an older record that cannot start does not stop a younger one, and keeps its place. -/
theorem test_oldest_startable_record :
    let t := after (.liftRelease 9) (queued .direct 480 true [waiting, mounting .queued, waiting])
    t.stk.queue.map (fun m => (m.kind, m.state)) = [(.fetch, .queued), (.mount, .moving), (.fetch, .queued)]
      ∧ t.sent = [.lift (.carry 1 (.staging 2) (.chamber 1))] := by
  decide +kernel

theorem witness_MovesStartAtAnIdleLift_oldest :
    (let s := queued .direct 480 true [waiting, mounting .queued]
     let v := { s with stk := { s.stk with lift := .idle } }
     Free s ∧ DwellFollowed v ∧ s.stk.lift = .direct ∧ s.stk.carriage = .empty ∧ s.stk.forwarded = none
       ∧ v.stk.queue = [waiting] ++ mounting .queued :: [] ∧ v.reel? 8 = none ∧ waiting.reel = some 8
       ∧ (v.reel? 3).map (·.location) = some (mounting .queued).source ∧ (v.station 1).state = .empty
       ∧ v.reelAt (.chamber 1) = none)
    ∧ (let s := queued .idle 480 true [waiting]
       let v := { s with stk := { s.stk with queue := [waiting] ++ [mounting .queued] } }
       Free s ∧ DwellFollowed v ∧ s.stk.lift = .idle ∧ (s.reel? 3).map (·.hold) = some false
         ∧ (s.reel? 3).map (fun r => s.retained.dwell.of r.cameFrom) = some 480 ∧ (s.station 1).state = .empty)
    ∧ (let s := queued .idle 479 false [waiting, mounting .dwellWait]
       let v := { queued .idle 480 true [waiting, mounting .queued] with link := s.link }
       s.powered = true ∧ DwellFollowed v ∧ s.stk.lift = .idle ∧ s.reelAt (.staging 2) = some 3
         ∧ v.stk.positions = s.stk.positions.setIfInBounds 2 { state := .occupied, dwell := 480, announced := true }) :=
  ⟨⟨free_of_check _ (by decide +kernel), dwellFollowed_of_check _ (by decide +kernel), by decide +kernel⟩,
    ⟨free_of_check _ (by decide +kernel), dwellFollowed_of_check _ (by decide +kernel), by decide +kernel⟩,
    by decide +kernel, dwellFollowed_of_check _ (by decide +kernel), by decide +kernel⟩

/-- The lift brings reel 3, a FETCH of reel 8 waits behind it, and every staging position but number 2 is taken. -/
def bringing (m : MoveRecord) : State :=
  let full := Vector.replicate 8 { state := .unidentified, dwell := 5, announced := true }
  let s := (withReel ready { shelved with location := .carriage, home := some 70 }).setReel 8
    (some { shelved with tag := 8, location := .cell 5, home := some 5 })
  { s with stk := { s.stk with
      lift := .moving, carriage := .reel 3, queue := [m, waiting]
      positions := full.set 2 { state := .reserved, dwell := 0, announced := false } } }

theorem witness_MovesStartAtAnIdleLift_arrivals :
    (let y := { record .reshelve (.staging 2) (.cell 70) .destination with station := none }
     let s := bringing y
     let v := { s.setReel 3 (some { shelved with location := .cell 70, home := some 70 }) with stk := { s.stk with
       positions := s.stk.positions.setIfInBounds 2 { state := .empty, dwell := 0, announced := false }, queue := [waiting]
       carriage := .empty, timer := none, lift := .idle } }
     s.powered = true ∧ DwellFollowed v ∧ s.stk.queue = [] ++ y :: [waiting] ∧ y.number = some 5
       ∧ waiting.state = .queued ∧ (v.reel? 8).map (·.location) = some waiting.source
       ∧ v.position? 2 = some { state := .empty, dwell := 0, announced := false }
       ∧ ∀ q, q < 2 → v.position? q = some { state := .unidentified, dwell := 5, announced := true })
    ∧ (let y := { record .fetch (.cell 70) (.staging 2) .destination with station := none }
       let s := bringing y
       let v := { s.setReel 3 (some { shelved with location := .staging 2, home := some 70, cameFrom := .a }) with
         stk := { s.stk with
           positions := s.stk.positions.setIfInBounds 2 { state := .occupied, dwell := 0, announced := false }
           queue := [waiting], carriage := .empty, timer := none, lift := .idle } }
       DwellFollowed v ∧ s.stk.queue = [] ++ y :: [waiting] ∧ s.retained.dwell.of (zoneOfCell 70).zone = 480
         ∧ v.stk.positions.all (fun x => x.state != .empty) = true) :=
  ⟨⟨by decide +kernel, dwellFollowed_of_check _ (by decide +kernel), by decide +kernel⟩,
    dwellFollowed_of_check _ (by decide +kernel), by decide +kernel⟩

theorem witness_DwellIsSetAndCounted_warm :
    (let s := queued .halted 479 false [waiting, mounting .dwellWait]
     (s.powered = true ∧ Rested s) ∧ s.position? 2 = some { state := .occupied, dwell := 479, announced := false }
       ∧ s.reelAt (.staging 2) = some 3 ∧ (s.reel? 3).map (fun r => s.retained.dwell.of r.cameFrom) = some 480)
    ∧ (let s := queued .halted 478 false [waiting, mounting .dwellWait]
       (s.powered = true ∧ Rested s) ∧ s.position? 2 = some { state := .occupied, dwell := 478, announced := false }
         ∧ s.reelAt (.staging 2) = some 3)
    ∧ (let s := queued .halted 480 true []
       (s.powered = true ∧ Rested s) ∧ s.position? 2 = some { state := .occupied, dwell := 480, announced := true }) :=
  ⟨⟨at_rest _ (by decide +kernel), by decide +kernel⟩, ⟨at_rest _ (by decide +kernel), by decide +kernel⟩,
    at_rest _ (by decide +kernel), by decide +kernel⟩

theorem witness_DwellIsSetAndCounted : Calm (staged 479) ∧ NoStart (staged 479)
    ∧ (staged 65535).position? 2 = some { state := .occupied, dwell := 65535, announced := true } ∧ NoStart (staged 65535)
    ∧ (let s := withPosition ready { state := .reserved, dwell := 0, announced := false }
       (s.powered = true ∧ Rested s) ∧ s.position? 2 = some { state := .reserved, dwell := 0, announced := false }) :=
  ⟨calm_of_check _ (by decide +kernel), fun h => absurd h (by decide +kernel), by decide +kernel,
    fun h => absurd h (by decide +kernel), at_rest _ (by decide +kernel), by decide +kernel⟩

theorem witness_HaltedMovesAreRedirected :
    (let m := { record .fetch (.cell 70) (.staging 2) .destination with state := .halted, cause := some .fault }
     let s := withLift ready .halted [waiting, m, waiting]
     Calm s ∧ s.stk.lift = .halted ∧ s.stk.queue = [waiting] ++ m :: [waiting] ∧ m.number = some 5
       ∧ m.destination = some (.staging 2) ∧ (∀ y ∈ [waiting] ++ [waiting], y.state = .queued) ∧ s.stk.reported = true)
    ∧ (Calm (withLift ready .halted []) ∧ (withLift ready .halted []).stk.carriage = .empty
        ∧ (withLift ready .halted []).stk.reported = true)
    ∧ (Calm State.reset ∧ State.reset.stk.lift = .halted ∧ State.reset.stk.queue = [] ∧ State.reset.stk.carriage ≠ .empty)
    ∧ Calm ready ∧ ready.stk.lift ≠ .halted :=
  ⟨⟨calm_of_check _ (by decide +kernel), by decide +kernel⟩, ⟨calm_of_check _ (by decide +kernel), by decide +kernel⟩,
    ⟨reset_calm, by decide +kernel⟩, ready_calm, by decide +kernel⟩

/-- R190 lists the types CELL, STAGING and CHAMBER for a position of LIFT PASS, and a code outside its list is MALFORMED
(R191). -/
theorem test_lift_pass_position_types : decodeBody 45 [1, 1, 2, 0, 3] = some (.liftPassPick (.chamber 3))
    ∧ decodeBody 45 [1, 1, 3, 0, 0] = none ∧ decodeBody 45 [1, 0, 4, 0, 0] = none
    ∧ decodeBody 45 [0, 3, 4, 0, 0] = some .liftPassPark := by
  decide

theorem witness_DirectControlPassesCommands :
    (Calm ready ∧ ready.stk.lift = .idle ∧ ready.stk.carriage = .empty)
    ∧ (Calm (withLift ready .halted [waiting]) ∧ (withLift ready .halted [waiting]).stk.reported = true
        ∧ ∀ m ∈ (withLift ready .halted [waiting]).stk.queue, m.state ≠ .moving ∧ m.state ≠ .halted)
    ∧ (Calm State.reset ∧ State.reset.stk.lift = .halted ∧ State.reset.stk.reported = false)
    ∧ (Calm (withLift ready .direct []) ∧ (withLift ready .direct []).stk.forwarded = none
        ∧ (withLift ready .direct []).stk.queue = [])
    ∧ (Calm (directed (.cell 70) .empty .empty) ∧ (directed (.cell 70) .empty .empty).reelAt (.cell 70) = some 3
        ∧ (∀ m ∈ (directed (.cell 70) .empty .empty).stk.queue, m.reel ≠ some 3))
    ∧ (let s := directed .carriage (.reel 3) .empty
       Calm s ∧ s.stk.carriage = .reel 3 ∧ s.position? 2 = some { state := .empty, dwell := 40, announced := false }
         ∧ s.reel? 3 = some { shelved with location := .carriage } ∧ zoneOfCell 70 = shelved.cls ∧ s.cellState 70 ≠ .occupied
         ∧ s.homeReel 70 = some 3 ∧ zoneOfCell 447 = shelved.cls ∧ s.cellState 447 = .free ∧ s.homeReel 447 = none) :=
  ⟨⟨ready_calm, by decide +kernel⟩, ⟨calm_of_check _ (by decide +kernel), by decide +kernel⟩, ⟨reset_calm, by decide +kernel⟩,
    ⟨calm_of_check _ (by decide +kernel), by decide +kernel⟩, ⟨calm_of_check _ (by decide +kernel), by decide +kernel⟩,
    ⟨calm_of_check _ (by decide +kernel), by decide +kernel⟩⟩

/-- Reel 3 on the carriage under direct control, and reel 8 in its home, cell 71. -/
def neighboured : State :=
  (directed .carriage (.reel 3) .empty).setReel 8 (some { shelved with tag := 9, location := .cell 71, home := some 71 })

theorem witness_DirectControlPassesCommands_refused :
    (let m := { waiting with reel := some 3 }
     let s := withLift (directed (.cell 70) .empty .empty) .direct [m]
     Calm s ∧ s.stk.carriage = .empty ∧ s.reelAt (.cell 70) = some 3 ∧ m ∈ s.stk.queue ∧ m.reel = some 3)
    ∧ (let s := directed .carriage (.reel 3) .occupied
       Calm s ∧ s.stk.carriage ≠ .empty ∧ (s.position? 2).map (·.state) = some .occupied)
    ∧ (let s := directed (.cell 70) .unidentified .empty
       Calm s ∧ s.stk.carriage = .unidentified ∧ s.stk.forwarded = none)
    ∧ (Calm neighboured ∧ neighboured.stk.carriage = .reel 3
        ∧ neighboured.reel? 3 = some { shelved with location := .carriage } ∧ zoneOfCell 63 ≠ shelved.cls
        ∧ neighboured.cellState 71 = .occupied ∧ zoneOfCell 71 = shelved.cls)
    ∧ (Calm (carrying .direct .empty (some .park)) ∧ (carrying .direct .empty (some .park)).stk.forwarded ≠ none)
    ∧ (Calm (carrying .direct .empty none) ∧ (carrying .direct .empty none).stk.forwarded = none
        ∧ Location.carriage.isPlace = false ∧ Location.unknown.isPlace = false) :=
  ⟨⟨calm_of_check _ (by decide +kernel), by decide +kernel⟩, ⟨calm_of_check _ (by decide +kernel), by decide +kernel⟩,
    ⟨calm_of_check _ (by decide +kernel), by decide +kernel⟩, ⟨calm_of_check _ (by decide +kernel), by decide +kernel⟩,
    ⟨calm_of_check _ (by decide +kernel), by decide +kernel⟩, calm_of_check _ (by decide +kernel), by decide +kernel⟩

theorem witness_ArrivalEndsAMove :
    (let m := record .fetch (.cell 70) (.staging 2) .destination
     let s := moving m .reserved
     s.powered = true ∧ s.stk.queue = [m] ∧ m.state = .moving ∧ m.number = some 5 ∧ m.reel = some 3
       ∧ s.reel? 3 = some { shelved with location := .carriage }
       ∧ s.position? 2 = some { state := .reserved, dwell := 50, announced := false })
    ∧ (let m := record .unmount (.chamber 1) (.staging 2) .destination
       (moving m .reserved).stk.queue = [m] ∧ m.kind ≠ .mount ∧ m.station = some 1)
    ∧ (let m := record .reshelve (.staging 2) (.cell 70) .destination
       (moving m .reserved).stk.queue = [m] ∧ m.destination = some (.cell 70))
    ∧ (let m := record .mount (.staging 2) (.chamber 1) .destination
       let s := withStation (moving m .reserved) (fun t => { t with state := .empty, reservation := .incoming })
       s.stk.queue = [m] ∧ m.kind = .mount ∧ m.destination = some (.chamber 1) ∧ (s.station 1).state = .empty
         ∧ (s.station 1).tagRead = none ∧ (s.station 1).markRead = none ∧ (∀ j, j < 3 → s.reel? j = none)) := by
  decide +kernel

theorem witness_ArrivalEndsAMove_returned :
    (let m := record .fetch (.cell 70) (.staging 2) .source
     let s := moving m .reserved
     (s.powered = true ∧ Rested s) ∧ s.stk.queue = [m] ∧ m.target = some .source ∧ m.number = some 5
       ∧ s.reel? 3 = some { shelved with location := .carriage }
       ∧ s.position? 2 = some { state := .reserved, dwell := 50, announced := false })
    ∧ (let m := record .mount (.staging 2) (.chamber 1) .source
       (moving m .reserved).stk.queue = [m] ∧ m.kind = .mount ∧ m.source = .staging 2) :=
  ⟨⟨at_rest _ (by decide +kernel), by decide +kernel⟩, by decide +kernel⟩

/-- The lift carries the can of station 1 by an UNMOUNT, of reel 3 or of an unidentified can. -/
def unmounting (reel : Option Nat) (x : MoveTarget) : State :=
  withStation (moving { record .unmount (.chamber 1) (.staging 2) x with reel := reel } .reserved)
    (fun t => { t with state := .empty, reservation := .outgoing })

theorem witness_ArrivalEndsAMove_unmounted :
    (let m := record .unmount (.chamber 1) (.staging 2) .source
     let s := unmounting (some 3) .source
     s.powered = true ∧ s.stk.queue = [m] ∧ m.kind = .unmount ∧ m.target = some .source ∧ m.source = .chamber 1
       ∧ m.destination = some (.staging 2) ∧ s.reel? 3 = some { shelved with location := .carriage }
       ∧ s.position? 2 = some { state := .reserved, dwell := 50, announced := false } ∧ (s.station 1).state = .empty
       ∧ (s.station 1).tagRead = none ∧ (s.station 1).markRead = none ∧ (∀ j, j < 3 → s.reel? j = none))
    ∧ (let m := { record .unmount (.chamber 1) (.staging 2) .source with reel := none }
       let s := unmounting none .source
       s.powered = true ∧ s.stk.queue = [m] ∧ m.number = some 5 ∧ m.station = some 1 ∧ (s.station 1).state = .empty
         ∧ s.reelAt (.chamber 1) = none)
    ∧ (unmounting none .destination).stk.queue
        = [{ record .unmount (.chamber 1) (.staging 2) .destination with reel := none }] := by
  decide +kernel

/-- Reel 3, with a head mark, arrives at station 1, which is EMPTY and holds reads. -/
def arriving (tag : Option CanTag) (mark : Option HeadMark) : State :=
  let s := withReel (moving (record .mount (.staging 2) (.chamber 1) .destination) .reserved)
    { shelved with location := .carriage, headMark := some 5 }
  withStation s (fun t => { t with state := .empty, reservation := .incoming, tagRead := tag, markRead := mark })

theorem witness_ArrivalEndsAMove_read :
    (let m := record .mount (.staging 2) (.chamber 1) .destination
     let s := arriving (some 1) (some 5)
     s.powered = true ∧ s.stk.queue = [m] ∧ m.kind = .mount ∧ m.destination = some (.chamber 1) ∧ (s.station 1).state = .empty
       ∧ s.reel? 3 = some { shelved with location := .carriage, headMark := some 5 } ∧ shelved.tag = 1
       ∧ ∀ j, j < 3 → s.reel? j = none)
    ∧ (arriving (some 2) none).stk.queue ≠ [] ∧ (arriving (some 1) (some 6)).stk.queue ≠ []
    ∧ (arriving (some 1) none).stk.queue ≠ [] ∧ (arriving none (some 5)).stk.queue ≠ [] := by
  decide +kernel

/-- R68, R70: CAN PRESENT and the reads before the arrival decide custody at the arrival. -/
theorem test_reads_before_the_arrival :
    ([(none, some 5), (some 1, none), (some 1, some 5), (some 2, none), (some 1, some 6)].map (fun x =>
        (((after (.arrived 5) (arriving x.1 x.2)).reel? 3).map (·.custody))))
      = [some .unverified, some .tagOk, some .verified, some .mismatch, some .mismatch] := by
  decide +kernel

/-- R70: a tag read while the can in a rediscovered LOADED chamber was unidentified decides custody when the returned UNMOUNT
arrives. -/
theorem test_reads_of_an_unidentified_can :
    ((after (.arrived 5) (withStation (unmounting (some 3) .source)
        (fun t => { t with state := .loaded, tagRead := some 1 }))).reel? 3).map (·.custody) = some .tagOk := by
  decide +kernel

theorem witness_ArrivalEndsAMove_outsideEmpty :
    let m := record .unmount (.chamber 1) (.staging 2) .source
    let s := withStation (unmounting (some 3) .source) (fun t => { t with state := .loaded, tagRead := some shelved.tag })
    s.powered = true ∧ s.stk.queue = [m] ∧ m.kind = .unmount ∧ m.target = some .source ∧ (s.station 1).state ≠ .empty
      ∧ (s.station 1).tagRead ≠ none ∧ s.reel? 3 = some { shelved with location := .carriage } ∧ (∀ j, j < 3 → s.reel? j = none) := by
  decide +kernel

/-- A fetch in progress. -/
def fetching : State := moving (record .fetch (.cell 70) (.staging 2) .destination) .reserved

theorem witness_HaltsOfTheLift : (Calm fetching ∧ fetching.stk.lift = .moving ∧ fetching.stk.timer ≠ none)
    ∧ (Calm ready ∧ ready.stk.lift = .idle) ∧ (Calm State.reset ∧ State.reset.stk.lift = .halted)
    ∧ (Calm (withLift ready .direct []) ∧ (withLift ready .direct []).stk.lift = .direct) :=
  ⟨⟨calm_of_check _ (by decide +kernel), by decide +kernel⟩, ⟨ready_calm, rfl⟩, ⟨reset_calm, rfl⟩,
    ⟨calm_of_check _ (by decide +kernel), rfl⟩⟩

theorem witness_DirectPicksAndPlacesMoveReels :
    ((withReel ready shelved).powered = true ∧ Rested (withReel ready shelved)) ∧ (withReel ready shelved).stk.lift ≠ .direct
    ∧ (let s := directed (.cell 70) .empty .empty
       (s.powered = true ∧ Rested s) ∧ s.reelAt (.cell 70) = some 3 ∧ s.reel? 3 = some shelved
         ∧ (∀ m ∈ s.stk.queue, m.reel ≠ some 3))
    ∧ (let s := directed (.staging 2) .empty .occupied
       s.reelAt (.staging 2) = some 3 ∧ s.stk.carriage = .empty
         ∧ s.position? 2 = some { state := .occupied, dwell := 40, announced := false })
    ∧ (let s := directed .carriage (.reel 3) .empty
       s.stk.carriage = .reel 3 ∧ s.position? 2 = some { state := .empty, dwell := 40, announced := false }
         ∧ s.reel? 3 = some { shelved with location := .carriage } ∧ zoneOfCell 64 = shelved.cls ∧ s.cellState 64 ≠ .occupied
         ∧ s.homeReel 64 = none)
    ∧ (let s := directed .carriage (.reel 3) .occupied
       s.stk.carriage = .reel 3 ∧ s.position? 2 = some { state := .occupied, dwell := 40, announced := false }) :=
  ⟨at_rest _ (by decide +kernel), by decide +kernel, ⟨at_rest _ (by decide +kernel), by decide +kernel⟩, by decide +kernel⟩

theorem witness_DirectPicksAndPlacesMoveReels_lost :
    (neighboured.powered = true ∧ neighboured.stk.lift = .direct ∧ neighboured.stk.carriage = .reel 3
      ∧ neighboured.cellState 71 = .occupied ∧ zoneOfCell 63 ≠ shelved.cls ∧ neighboured.reelAt (.cell 5) = none
      ∧ neighboured.reelAt (.staging 4) = none ∧ neighboured.reel? 3 = some { shelved with location := .carriage })
    ∧ (let s := directed (.cell 70) .empty .unidentified
       s.stk.carriage = .empty ∧ s.reelAt (.staging 2) = none ∧ (s.position? 2).map (·.state) = some .unidentified)
    ∧ (let s := directed (.cell 70) .unidentified .empty
       s.stk.carriage = .unidentified ∧ (s.position? 2).map (·.state) = some .empty) := by
  decide +kernel

theorem witness_CarriageReportsCorrectTheLift :
    (let s := carrying .direct .empty (some .park)
     (s.powered = true ∧ Rested s) ∧ s.stk.forwarded = some .park ∧ s.stk.lift = .direct ∧ (∀ i, s.stk.carriage ≠ .reel i))
    ∧ (let s := carrying .direct .empty (some (.pick (.cell 4)))
       (s.powered = true ∧ Rested s) ∧ s.stk.forwarded = some (.pick (.cell 4)))
    ∧ (let s := carrying .halted .unreported none
       (s.powered = true ∧ Rested s) ∧ s.stk.lift = .halted ∧ s.stk.queue = [] ∧ (∀ i, s.stk.carriage ≠ .reel i)
         ∧ s.stk.carriage = .unreported)
    ∧ ((ready.powered = true ∧ Rested ready) ∧ ready.stk.lift = .idle)
    ∧ ((fetching.powered = true ∧ Rested fetching) ∧ fetching.stk.lift = .moving) :=
  ⟨⟨at_rest _ (by decide +kernel), rfl, rfl, fun i => by simp [carrying]⟩, ⟨at_rest _ (by decide +kernel), rfl⟩,
    ⟨at_rest _ (by decide +kernel), rfl, rfl, fun i => by simp [carrying], rfl⟩, ⟨at_rest _ (by decide +kernel), rfl⟩,
    ⟨at_rest _ (by decide +kernel), rfl⟩⟩

/-- Reel 3 recorded on the carriage of a lift in a state. -/
def holding (l : LiftState) (q : List MoveRecord) : State :=
  let s := withLift (withReel ready { shelved with location := .carriage }) l q
  { s with stk := { s.stk with carriage := .reel 3, forwarded := some .park, reported := false } }

theorem witness_CarriageReportsCorrectTheLift_held :
    (let s := holding .halted []
     (s.powered = true ∧ Rested s) ∧ s.stk.queue = [] ∧ s.stk.carriage = .reel 3
       ∧ s.reel? 3 = some { shelved with location := .carriage })
    ∧ (let s := holding .halted [waiting]
       (s.powered = true ∧ Rested s) ∧ ∀ m ∈ s.stk.queue, m.state ≠ .moving ∧ m.state ≠ .halted)
    ∧ (let s := holding .halted [waiting, { waiting with state := .halted }]
       (s.powered = true ∧ Rested s) ∧ ¬ ∀ m ∈ s.stk.queue, m.state ≠ .moving ∧ m.state ≠ .halted)
    ∧ (let s := holding .direct [waiting]
       (s.powered = true ∧ Rested s) ∧ s.stk.lift = .direct ∧ s.stk.carriage = .reel 3 ∧ s.stk.forwarded = some .park)
    ∧ (let s := carrying .halted .unidentified none
       (s.powered = true ∧ Rested s) ∧ s.stk.carriage = .unidentified) :=
  ⟨⟨at_rest _ (by decide +kernel), by decide +kernel⟩, ⟨at_rest _ (by decide +kernel), by decide +kernel⟩,
    ⟨at_rest _ (by decide +kernel), by decide +kernel⟩, ⟨at_rest _ (by decide +kernel), by decide +kernel⟩,
    at_rest _ (by decide +kernel), by decide +kernel⟩

/-! ### The stations and the lanes -/

theorem witness_StationResetRediscovers :
    let s := inChamber .verified .loaded
    Free s ∧ NoStart s ∧ LanesExclusive s ∧ s.lanes.waitList = [] ∧ (s.order 1).state = .closed
      ∧ s.reelAt (.chamber 1) = some 3 ∧ s.reel? 3 = some (mounted .verified) :=
  ⟨free_of_check _ (by decide +kernel), fun _ => by decide +kernel,
    ⟨by decide +kernel, by decide +kernel, by decide +kernel⟩, by decide +kernel⟩

theorem witness_LoopbackRunsThePatternSource :
    (Calm (bare .empty) ∧ ((bare .empty).station 1).reservation = .none ∧ ((bare .empty).station 1).sensor ≠ .present
      ∧ ((bare .empty).order 1).state = .closed ∧ (bare .empty).lanes.source.assigned = none)
    ∧ (Calm (bare .loaded) ∧ ((bare .loaded).station 1).state ≠ .empty ∧ ((bare .loaded).station 1).state ≠ .loopback)
    ∧ (let s := { feeding .feeding none with orders := ready.orders }
       Calm s ∧ (s.station 1).state = .loopback ∧ (s.order 1).state = .closed ∧ s.lanes.source.assigned = some 1)
    ∧ (Calm (feeding .feeding none) ∧ ((feeding .feeding none).order 1).state ≠ .closed) :=
  ⟨⟨calm_of_check _ (by decide +kernel), by decide +kernel⟩, ⟨calm_of_check _ (by decide +kernel), by decide +kernel⟩,
    ⟨calm_of_check _ (by decide +kernel), by decide +kernel⟩, calm_of_check _ (by decide +kernel), by decide +kernel⟩

/-- Station 1 is HALTED with both lanes in a state. -/
def lanes (a b : Lane) : State := { inChamber .verified .halted with lanes := { Crosspoint.powerOn with laneA := a, laneB := b } }

theorem witness_ForcedReleaseFreesTheLane :
    Calm capturing ∧ Calm (lanes (held .tenure (some default)) .free) ∧ Calm (lanes .free (held .none (some default)))
      ∧ Calm (lanes (held .none none) .free) ∧ Calm (lanes .free (held .tenure none))
      ∧ (lanes .free (held .tenure none)).lanes.waitList = []
      ∧ ((lanes .free (held .tenure none)).station 1).state = .halted ∧ Calm ready ∧ ready.lanes.laneA.hold = none
      ∧ ready.lanes.laneB.hold = none :=
  ⟨capturing_calm, calm_of_check _ (by decide +kernel), calm_of_check _ (by decide +kernel), calm_of_check _ (by decide +kernel),
    calm_of_check _ (by decide +kernel), rfl, by decide +kernel, ready_calm, rfl, rfl⟩

/-- Stations 1 and 3 hold the lanes and station 2, which is RUNNING, waits for one. -/
def contended (r : ReleasePending) (x : StationState) : State :=
  let s := lanes (held r none) { hold := some { station := 3, tenure := 5, release := .none }, carriage := none }
  let s := withStation s (fun t => { t with state := x })
  { s with
    stations := s.stations.set 2 { s.station 2 with state := .running }
    lanes := { s.lanes with waitList := [2] } }

theorem witness_ForcedReleaseFreesTheLane_granted :
    Calm (contended .none .halted) ∧ Calm (contended .tenure .running)
      ∧ (contended .tenure .running).lane .a = held .tenure none
      ∧ (contended .tenure .running).lanes.waitList = [2] ∧ ((contended .tenure .running).station 2).state = .running
      ∧ 0 < ((contended .tenure .running).station 2).tenure ∧ ((contended .tenure .running).station 1).stopPending = .none
      ∧ Calm (lanes (held .forced none) .free) ∧ Calm (lanes .free (held .forced (some default))) :=
  ⟨calm_of_check _ (by decide +kernel), calm_of_check _ (by decide +kernel), by decide +kernel, by decide +kernel,
    by decide +kernel, by decide +kernel, by decide +kernel, calm_of_check _ (by decide +kernel),
    calm_of_check _ (by decide +kernel)⟩

theorem witness_ForcedReleaseFreesTheLane_again :
    (let s := withStation (lanes .free (held .tenure none)) (fun t => { t with state := .running })
     Calm s ∧ s.lane .b = held .tenure none ∧ s.lanes.waitList = [] ∧ (s.station 1).state = .running
       ∧ (s.station 1).stopPending = .none ∧ (s.lane .a).hold = none)
    ∧ (let s := { contended .none .running with lanes := { (contended .none .running).lanes with waitList := [] } }
       Calm s ∧ s.lane .a = held .none none ∧ s.lanes.waitList = [] ∧ (s.station 1).state = .running
         ∧ (s.lane .b).hold = some { station := 3, tenure := 5, release := .none }) :=
  ⟨⟨calm_of_check _ (by decide +kernel), by decide +kernel⟩, calm_of_check _ (by decide +kernel), by decide +kernel⟩

theorem witness_DiscoveryAndHeartbeats :
    ((bare .detached).powered = true ∧ Rested (bare .detached)) ∧ ((bare .lost).powered = true ∧ Rested (bare .lost))
    ∧ ((bare .discovering).powered = true ∧ Rested (bare .discovering)) ∧ (bare .discovering).reelAt (.chamber 1) = none
    ∧ (let s := withStation (bare .discovering) (fun t => { t with discovery := some 2000 })
       (s.powered = true ∧ Rested s) ∧ (s.station 1).discovery ≠ none)
    ∧ (let s := inChamber .verified .discovering
       (s.powered = true ∧ Rested s) ∧ s.reelAt (.chamber 1) = some 3 ∧ s.reel? 3 = some (mounted .verified))
    ∧ (let s := withStation (bare .seized) (fun t => { t with heartbeat := some 500 })
       (s.powered = true ∧ Rested s) ∧ (s.station 1).state = .seized ∧ (s.station 1).heartbeat ≠ none)
    ∧ (let s := withStation (inChamber .verified .loaded) (fun t => { t with heartbeat := some 500 })
       (s.powered = true ∧ Rested s) ∧ (s.station 1).inFlight = none ∧ s.laneOf 1 = none ∧ s.lanes.waitList = []
         ∧ (s.order 1).state = .closed ∧ (s.station 1).heartbeat ≠ none)
    ∧ (∀ l, (inChamber .verified .loaded).lane l = ((inChamber .verified .loaded).lane l).unmark) :=
  ⟨at_rest _ (by decide +kernel), at_rest _ (by decide +kernel), at_rest _ (by decide +kernel), by decide +kernel,
    ⟨at_rest _ (by decide +kernel), by decide +kernel⟩, ⟨at_rest _ (by decide +kernel), by decide +kernel⟩,
    ⟨at_rest _ (by decide +kernel), by decide +kernel⟩, ⟨at_rest _ (by decide +kernel), by decide +kernel⟩,
    fun l => (unmarked _ rfl rfl l).symm⟩

theorem witness_TheChamberSensorAndThreadingAreFollowed :
    ((bare .empty).powered = true ∧ Rested (bare .empty)) ∧ ((bare .lost).powered = true ∧ Rested (bare .lost))
    ∧ (let s := inChamber .verified .loaded
       (s.powered = true ∧ Rested s) ∧ (s.station 1).reservation = .none ∧ (s.order 1).state = .closed ∧ s.lanes.waitList = []
         ∧ s.laneOf 1 = none ∧ s.reelAt (.chamber 1) = some 3 ∧ s.reel? 3 = some (mounted .verified))
    ∧ (let s := withStation (inChamber .verified .loaded) (fun t => { t with reservation := .outgoing })
       (s.powered = true ∧ Rested s) ∧ (s.station 1).reservation ≠ .none) :=
  ⟨at_rest _ (by decide +kernel), at_rest _ (by decide +kernel), ⟨at_rest _ (by decide +kernel), by decide +kernel⟩,
    at_rest _ (by decide +kernel), by decide +kernel⟩

theorem witness_ReadsAndReadingsReachTheRecord :
    (let s := inChamber .unverified .loaded
     (s.powered = true ∧ Rested s) ∧ s.reelAt (.chamber 1) = some 3 ∧ s.reel? 3 = some (mounted .unverified)
       ∧ (s.station 1).state = .loaded ∧ (s.station 1).markRead = none ∧ (mounted .unverified).tag ≠ 2)
    ∧ (let r := { mounted .tagOk with headMark := some 7 }
       let s := withStation (withReel ready r) (fun t => { t with state := .loaded, tagRead := some 1 })
       (s.powered = true ∧ Rested s) ∧ s.reel? 3 = some r ∧ (s.station 1).tagRead = some r.tag ∧ s.retained.threshold = 15
         ∧ classOf r.base true ≠ r.cls ∧ r.home = some 70)
    ∧ (((bare .empty).powered = true ∧ Rested (bare .empty)) ∧ (bare .empty).reelAt (.chamber 1) = none)
    ∧ ((inChamber .unverified .seized).powered = true ∧ Rested (inChamber .unverified .seized))
    ∧ ((bare .loaded).powered = true ∧ Rested (bare .loaded)) ∧ (bare .loaded).reelAt (.chamber 1) = none :=
  ⟨⟨at_rest _ (by decide +kernel), by decide +kernel⟩, ⟨at_rest _ (by decide +kernel), by decide +kernel⟩,
    ⟨at_rest _ (by decide +kernel), by decide +kernel⟩, at_rest _ (by decide +kernel), at_rest _ (by decide +kernel),
    by decide +kernel⟩

theorem witness_ReadsAndReadingsReachTheRecord_reverified :
    (let s := withStation (inChamber .reverify .broken) (fun t => { t with threaded := true })
     (s.powered = true ∧ Rested s) ∧ s.reelAt (.chamber 1) = some 3 ∧ s.reel? 3 = some (mounted .reverify)
       ∧ (s.station 1).markRead = none ∧ (mounted .reverify).hold = false)
    ∧ (let r := { mounted .reverify with hold := true }
       let s := withStation (withReel ready r) (fun t => { t with state := .loaded })
       (s.powered = true ∧ Rested s) ∧ s.reelAt (.chamber 1) = some 3 ∧ s.reel? 3 = some r
         ∧ (s.station 1).markRead = none) :=
  ⟨⟨at_rest _ (by decide +kernel), by decide +kernel⟩, at_rest _ (by decide +kernel), by decide +kernel⟩

theorem witness_TheChamberSensorAndThreadingAreFollowed_threading :
    ((bare .rewinding).powered = true ∧ Rested (bare .rewinding)) ∧ ((bare .empty).powered = true ∧ Rested (bare .empty))
    ∧ (let s := inChamber .verified .loaded
       (s.powered = true ∧ Rested s) ∧ s.reelAt (.chamber 1) = some 3 ∧ s.reel? 3 = some (mounted .verified))
    ∧ (let s := inChamber .verified .broken
       (s.powered = true ∧ Rested s) ∧ (s.station 1).motion ≠ .prerolling ∧ (mounted .verified).custody = .verified) :=
  ⟨at_rest _ (by decide +kernel), at_rest _ (by decide +kernel), ⟨at_rest _ (by decide +kernel), by decide +kernel⟩,
    at_rest _ (by decide +kernel), by decide +kernel⟩

/-- The record of reel 3 while station 1 runs its pass. -/
def runningReel : Reel := { mounted .verified with history := [pass], order := some 1 }

theorem witness_FramesAtTheGateAreCaptured :
    ((running.powered = true ∧ Rested running) ∧ running.reelAt (.chamber 1) = some 3 ∧ running.reel? 3 = some runningReel
      ∧ frameOfCount runningReel.segments 5 = some 5 ∧ frameOfCount runningReel.segments 4 = some 4
      ∧ running.target 1 = some 5 ∧ (running.station 1).stopPending = .none ∧ running.laneOf 1 = some .a
      ∧ (running.lane .a).carriage = none ∧ running.freeSlot = some 0 ∧ (running.order 1).passBegun = true
      ∧ (running.station 1).profile ≠ some .step)
    ∧ (let s := withStation { running with lanes := .powerOn } (fun t => { t with state := .threaded, motion := .prerolling })
       (s.powered = true ∧ Rested s) ∧ s.target 1 = some 5 ∧ s.lanes.waitList = [] ∧ s.lanes.laneA = .free
         ∧ s.lanes.laneB.heldBy 1 = false)
    ∧ (let s := { running with lanes := .powerOn }
       (s.powered = true ∧ Rested s) ∧ s.laneOf 1 = none ∧ s.target 1 = some 5) :=
  ⟨⟨at_rest _ (by decide +kernel), by decide +kernel⟩, ⟨at_rest _ (by decide +kernel), by decide +kernel⟩,
    at_rest _ (by decide +kernel), by decide +kernel⟩

/-- Both lanes held by stations 2 and 3. -/
def lanesTaken : Lane × Lane :=
  ({ hold := some { station := 2, tenure := 0, release := .none }, carriage := none },
    { hold := some { station := 3, tenure := 5, release := .none }, carriage := none })

theorem witness_FramesAtTheGateAreCaptured_starved :
    (let s := withStation { running with lanes := { running.lanes with laneA := lanesTaken.1, laneB := lanesTaken.2, waitList := [0, 1] } }
       (fun t => { t with profile := some .step })
     (s.powered = true ∧ Rested s) ∧ s.target 1 = some 5 ∧ s.laneOf 1 = none ∧ 1 ∈ s.lanes.waitList
       ∧ (s.station 1).state = .running ∧ (s.station 1).motion = .atSpeed ∧ (s.station 1).stopPending = .none)
    ∧ (let s := { running with lanes := { running.lanes with laneA := lanesTaken.1, laneB := lanesTaken.2 } }
       (s.powered = true ∧ Rested s) ∧ s.laneOf 1 = none ∧ 1 ∉ s.lanes.waitList ∧ ∀ l, (s.lane l).hold ≠ none)
    ∧ (let s := { running with store := { running.store with slots := Vector.replicate 128 (slotOf .kept) } }
       (s.powered = true ∧ Rested s) ∧ s.laneOf 1 = some .a ∧ s.freeSlot = none ∧ s.target 1 = some 5)
    ∧ ((capturing.powered = true ∧ Rested capturing) ∧ capturing.laneOf 1 = some .a ∧ (capturing.lane .a).carriage ≠ none) :=
  ⟨⟨at_rest _ (by decide +kernel), by decide +kernel⟩, ⟨at_rest _ (by decide +kernel), by decide +kernel, by decide +kernel,
      fun l => by cases l <;> decide +kernel⟩, ⟨at_rest _ (by decide +kernel), by decide +kernel⟩,
    at_rest _ (by decide +kernel), by decide +kernel⟩

/-- Station 1 at the gate of its work order's first frame, before any capture. -/
def beforeFirst : State :=
  let s := withReel running { runningReel with history := [] }
  { s with orders := s.orders.set 1 { active with passBegun := false } }

/-- Station 1 RUNNING at a profile while stations 2 and 3 hold the lanes. -/
def crowded (p : Profile) : State :=
  let s := withStation running (fun t => { t with profile := some p })
  let hold := fun (st : StationId) => Lane.mk (some { station := st, tenure := 4, release := .none }) none
  { s with lanes := { s.lanes with laneA := hold 2, laneB := hold 3 } }

theorem witness_FramesAtTheGateAreCaptured_first :
    ((beforeFirst.powered = true ∧ Rested beforeFirst) ∧ (beforeFirst.order 1).passBegun = false
      ∧ (beforeFirst.station 1).profile = some .fast ∧ beforeFirst.target 1 = some 5 ∧ beforeFirst.laneOf 1 = some .a
      ∧ beforeFirst.freeSlot = some 0 ∧ (beforeFirst.order 1).body.map (·.reel) = some (some 3)
      ∧ frameOfCount runningReel.segments 6 = some 6)
    ∧ ((crowded .step).powered = true ∧ Rested (crowded .step)) ∧ (crowded .step).laneOf 1 = none
    ∧ (crowded .step).target 1 = some 5 ∧ (∀ l : LaneId, ((crowded .step).lane l).hold ≠ none)
    ∧ 1 ∉ (crowded .step).lanes.waitList ∧ ((crowded .fast).powered = true ∧ Rested (crowded .fast)) :=
  ⟨⟨at_rest _ (by decide +kernel), by decide +kernel⟩, at_rest _ (by decide +kernel), by decide +kernel, by decide +kernel,
    fun l => by cases l <;> decide +kernel, by decide +kernel, at_rest _ (by decide +kernel)⟩

/-- Station 1 runs at the STEP profile with its reference edge at position 1000. -/
def stepping : State := withStation running (fun t =>
  { t with profile := some .step, filter := { level := some .film, pendingAt := none, reference := some 1000 } })

theorem witness_PerforationsMeasureShrinkage : (stepping.powered = true ∧ Rested stepping)
    ∧ stepping.reelAt (.chamber 1) = some 3 ∧ stepping.reel? 3 = some runningReel ∧ (stepping.station 1).runsAtSpeed = true
    ∧ runningReel.gauge.pitch = 9500 ∧ 2 * (5749 - 1000) < 9500 ∧ 9500 ≤ 2 * (5750 - 1000) ∧ 2 * (15250 - 1000) ≤ 3 * 9500 :=
  ⟨at_rest _ (by decide +kernel), by decide +kernel⟩

/-- Station 1 at a profile above whose ceiling the next judged interval of 9000 lies, with a last gate frame. -/
def stretched (p : Profile) (gate : Option Nat) : State :=
  withStation stepping (fun t => { t with profile := some p, lastGate := gate })

theorem witness_PerforationsMeasureShrinkage_fallback :
    ((stretched .fast (some 4)).powered = true ∧ Rested (stretched .fast (some 4)))
    ∧ ((stretched .standard none).powered = true ∧ Rested (stretched .standard none))
    ∧ shrinkageOf 9500 9000 = 526 ∧ shrinkageOf 9500 9386 = 120 ∧ shrinkageOf 9500 9385 = 121
    ∧ ((stretched .fast (some 4)).station 1).lastTear ≠ some 4 ∧ (stretched .fast (some 4)).slotOf 1 4 = none
    ∧ 3 * 9500 < 2 * (15251 - 1000) ∧ ((stretched .standard none).station 1).lastGate = none :=
  ⟨at_rest _ (by decide +kernel), at_rest _ (by decide +kernel), by decide +kernel⟩

/-- Station 1 at speed with a perforation filter of setting 40. -/
def filtering (w : Filter) : State := withStation running (fun t => { t with filterSetting := 40, filter := w })

theorem witness_PerforationsMeasureShrinkage_filter :
    (let s := filtering .clear
     (s.powered = true ∧ Rested s) ∧ s.reelAt (.chamber 1) = some 3 ∧ s.reel? 3 = some runningReel
       ∧ (s.station 1).state = .running ∧ (s.station 1).motion = .atSpeed ∧ (s.station 1).filter = .clear)
    ∧ (let s := filtering { level := some .film, pendingAt := none, reference := none }
       (s.powered = true ∧ Rested s) ∧ (s.station 1).filterSetting = 40 ∧ (7000 : Nat) < 7039 ∧ (7039 : Nat) < 7000 + 40)
    ∧ (let s := filtering { level := some .film, pendingAt := some 7000, reference := some 1000 }
       (s.powered = true ∧ Rested s) ∧ (s.station 1).state = .running ∧ (s.station 1).motion = .atSpeed)
    ∧ (let s := filtering { level := some .hole, pendingAt := some 7000, reference := none }
       (s.powered = true ∧ Rested s) ∧ (s.station 1).state = .running ∧ (s.station 1).motion = .atSpeed)
    ∧ (let s := inChamber .verified .threaded
       (s.powered = true ∧ Rested s) ∧ s.reelAt (.chamber 1) = some 3 ∧ (s.station 1).state ≠ .running) :=
  ⟨⟨at_rest _ (by decide +kernel), by decide +kernel⟩, ⟨at_rest _ (by decide +kernel), by decide +kernel⟩,
    ⟨at_rest _ (by decide +kernel), by decide +kernel⟩, ⟨at_rest _ (by decide +kernel), by decide +kernel⟩,
    at_rest _ (by decide +kernel), by decide +kernel⟩

theorem witness_TearsAndSplicesAreCounted : (running.powered = true ∧ Rested running) ∧ running.reelAt (.chamber 1) = some 3
    ∧ running.reel? 3 = some runningReel ∧ frameOfCount runningReel.segments 99 = some 99 ∧ running.slotOf 1 99 = none
    ∧ (running.station 1).lastTear ≠ some 99 ∧ segmentAt runningReel.segments 99 = some (segment 0 99 .picture)
    ∧ (let s := withStation running (fun t => { t with lastTear := some 99 })
       (s.powered = true ∧ Rested s) ∧ (s.station 1).lastTear = some 99)
    ∧ (let r := { runningReel with segments := [segment 0 98 .picture, { segment 99 99 .picture with spliceStart := true }] }
       ((withReel running r).powered = true ∧ Rested (withReel running r)) ∧ frameOfCount r.segments 99 = some 99
         ∧ segmentAt r.segments 99 = some { segment 99 99 .picture with spliceStart := true }) :=
  ⟨at_rest _ (by decide +kernel), by decide +kernel, by decide +kernel, by decide +kernel, by decide +kernel, by decide +kernel,
    by decide +kernel, ⟨at_rest _ (by decide +kernel), by decide +kernel⟩, at_rest _ (by decide +kernel), by decide +kernel⟩

/-- A map of 32 segments over the 100 frames of reel 3. -/
def fullMap : List Segment := (List.range 31).map (fun i => segment i i .picture) ++ [segment 31 99 .picture]

/-- A list of SPLICE records. -/
def splices (k : Nat) : List Defect := List.replicate k { kind := .splice, span := none, count := 0, outcome := .marked }

/-- A HOST record of a span. -/
def hostMark (t : TileSpan) : Defect := { kind := .host, span := some t, count := 0, outcome := .marked }

/-- Reel 3 with a known splice at frame 5, which slot 2 holds with a list. -/
def spliced (x : SlotState) (l : List Defect) : State :=
  let map := [segment 0 4 .picture, { segment 5 99 .picture with spliceStart := true }]
  withSlot (withReel running { runningReel with segments := map }) { slotOf x with defects := l }

theorem witness_TearsAndSplicesAreCounted_flagged :
    (let map := [segment 0 98 .picture, segment 99 99 .picture]
     let s := withReel running { runningReel with segments := map }
     (s.powered = true ∧ Rested s) ∧ s.reel? 3 = some { runningReel with segments := map } ∧ frameOfCount map 99 = some 99
       ∧ segmentAt map 99 = some (segment 99 99 .picture) ∧ s.slotOf 1 99 = none ∧ (s.station 1).state = .running) :=
  ⟨at_rest _ (by decide +kernel), by decide +kernel⟩

theorem witness_TearsAndSplicesAreCounted_gathered :
    (let s := withReel running { runningReel with segments := fullMap }
     (s.powered = true ∧ Rested s) ∧ frameOfCount fullMap 99 = some 99 ∧ segmentAt fullMap 99 = some (segment 31 99 .picture)
       ∧ fullMap.length = 32 ∧ s.slotOf 1 99 = none)
    ∧ (let s := spliced .queued [hostMark ⟨1, 2, 3⟩]
       (s.powered = true ∧ Rested s) ∧ s.slotOf 1 5 = some 2
         ∧ s.slot? 2 = some { slotOf .queued with defects := [hostMark ⟨1, 2, 3⟩] }
         ∧ s.reel? 3 = some { runningReel with segments :=
             [segment 0 4 .picture, { segment 5 99 .picture with spliceStart := true }] })
    ∧ (let s := spliced .filling (List.replicate 24 (hostMark ⟨0, 0, 0⟩))
       (s.powered = true ∧ Rested s) ∧ s.slotOf 1 5 = some 2 ∧ (s.order 1).state ≠ .closed
         ∧ (s.order 1).body = active.body) :=
  ⟨⟨at_rest _ (by decide +kernel), by decide +kernel⟩, ⟨at_rest _ (by decide +kernel), by decide +kernel⟩,
    at_rest _ (by decide +kernel), by decide +kernel⟩

theorem witness_FaultsStopTheStation :
    (let s := inChamber .verified .threaded
     (s.powered = true ∧ Rested s) ∧ s.reelAt (.chamber 1) = some 3 ∧ s.reel? 3 = some (mounted .verified) ∧ s.laneOf 1 = none
       ∧ s.lanes.waitList = [] ∧ (s.station 1).inFlight = none ∧ (s.order 1).state = .closed ∧ (s.station 1).faults = []
       ∧ s.lanes.source.assigned ≠ some 1)
    ∧ (∀ l, ((inChamber .verified .threaded).lane l).unmark = (inChamber .verified .threaded).lane l)
    ∧ (let s := inChamber .verified .seized
       (s.powered = true ∧ Rested s) ∧ (s.station 1).state = .seized ∧ (s.station 1).faults = []) :=
  ⟨⟨at_rest _ (by decide +kernel), by decide +kernel⟩, unmarked _ rfl rfl, at_rest _ (by decide +kernel), by decide +kernel⟩

/-- Station 1 captures frame 5, station 3 holds lane B and station 2, which is RUNNING, waits for a lane. -/
def capturingAhead : State :=
  { capturing with
    stations := capturing.stations.set 2 { capturing.station 2 with state := .running }
    lanes := { capturing.lanes with
      laneB := { hold := some { station := 3, tenure := 0, release := .none }, carriage := none }, waitList := [2] } }

theorem witness_FaultsStopTheStation_running :
    ((capturing.powered = true ∧ Rested capturing) ∧ capturing.reelAt (.chamber 1) = some 3
      ∧ capturing.reel? 3 = some runningReel ∧ (capturing.station 1).state = .running
      ∧ (capturing.station 1).inFlight = some 5 ∧ (capturing.order 1).state = .active
      ∧ (capturing.lane .a).carriage = some { station := 1, frame := 5, slot := 0 } ∧ (capturing.lane .b).hold = none
      ∧ capturing.slot? 0 = some (slotOf .filling) ∧ capturing.lanes.waitList = []
      ∧ (∀ u, (capturing.station u).state ≠ .starved ∧ (capturing.station u).state ≠ .loopback)
      ∧ (capturing.station 1).faults = [])
    ∧ ((capturingAhead.powered = true ∧ Rested capturingAhead) ∧ capturingAhead.lanes.waitList = [2]
      ∧ (capturingAhead.lane .b).hold = some { station := 3, tenure := 0, release := .none }
      ∧ (∀ u, (capturingAhead.station u).state ≠ .starved ∧ (capturingAhead.station u).state ≠ .loopback)) :=
  ⟨⟨at_rest _ (by decide +kernel), by decide +kernel⟩, at_rest _ (by decide +kernel), by decide +kernel⟩

theorem witness_FaultsStopTheStation_atSpeed :
    let s := withStation capturing (fun t =>
      { t with filter := { level := some .hole, pendingAt := some 9900, reference := some 500 } })
    (s.powered = true ∧ Rested s) ∧ (s.station 1).state = .running ∧ (s.station 1).motion = .atSpeed
      ∧ (s.station 1).filter ≠ .clear ∧ (s.station 1).inFlight = some 5 ∧ (s.order 1).state = .active
      ∧ s.reelAt (.chamber 1) = some 3 ∧ s.reel? 3 = some runningReel ∧ (s.lane .b).hold = none ∧ s.lanes.waitList = []
      ∧ (∀ u, (s.station u).state ≠ .starved ∧ (s.station u).state ≠ .loopback) :=
  ⟨at_rest _ (by decide +kernel), by decide +kernel⟩

/-! ### Work orders -/

/-- A body of the work order of reel 3 at its first frame. -/
def fresh : OrderBody :=
  { reel := some 3, first := 0, last := 99, nextCapture := 99, nextDeliver := 0, lastCaptured := none }

theorem witness_OpeningWorkOrders :
    (let s := inChamber .verified .threaded
     Calm s ∧ s.reel? 3 = some (mounted .verified) ∧ (mounted .verified).location = .chamber 1 ∧ (s.order 1).state = .closed
       ∧ (∀ x ∈ s.store.slots.toList, x.state = .free) ∧ (mounted .verified).length = 100
       ∧ (mounted .verified).history.length < (mounted .verified).passLimit
       ∧ isSegmentMap (mounted .verified).segments (mounted .verified).length = true
       ∧ segmentAt (mounted .verified).segments 99 = some (segment 0 99 .picture))
    ∧ (let r := { mounted .verified with history := List.replicate 12 pass }
       let s := withReel (inChamber .verified .threaded) r
       Calm s ∧ s.reel? 3 = some r ∧ r.passLimit ≤ r.history.length)
    ∧ (Calm (bare .loopback) ∧ ((bare .loopback).order 1).state = .closed
        ∧ ∀ x ∈ (bare .loopback).store.slots.toList, x.state = .free)
    ∧ (Calm (feeding .feeding none) ∧ ((feeding .feeding none).order 1).state ≠ .closed
        ∧ ((feeding .feeding none).order 1).body.map (fun b => (b.reel, b.first, b.last)) = some (none, 0, 5)) :=
  ⟨⟨calm_of_check _ (by decide +kernel), by decide +kernel⟩, ⟨calm_of_check _ (by decide +kernel), by decide +kernel⟩,
    ⟨calm_of_check _ (by decide +kernel), by decide +kernel⟩, calm_of_check _ (by decide +kernel), by decide +kernel⟩

/-- Cues at frames, all NOTE. -/
def notes (l : List Nat) : List Cue := l.map (fun f => { frame := f, action := .note })

/-- The cue lists that a range from 10 to 17 of PICTURE frames takes, and those it does not take. -/
def cuesFit (l : List Cue) : Bool :=
  decide (l.length ≤ 8 ∧ l.Pairwise (fun x y => x.frame < y.frame) ∧ ∀ c ∈ l, 10 ≤ c.frame ∧ c.frame ≤ 17)

theorem witness_OpeningWorkOrders_cues :
    (let r := { mounted .verified with segments := [segment 0 9 .leader, segment 10 17 .picture, segment 18 99 .gap] }
     let s := withReel (inChamber .verified .threaded) r
     Calm s ∧ s.reel? 3 = some r ∧ r.history.length < r.passLimit ∧ isSegmentMap r.segments r.length = true
       ∧ (segmentAt r.segments 10).any (fun g => g.kind == .picture) = true
       ∧ (segmentAt r.segments 17).any (fun g => g.kind == .picture) = true
       ∧ (segmentAt r.segments 9).any (fun g => g.kind != .leader) = false
       ∧ (segmentAt r.segments 18).any (fun g => g.kind == .picture) = false)
    ∧ (let s := ordered running { active with cues := notes [50] }
       Calm s ∧ (s.order 1).state ≠ .closed ∧ (s.order 1).body = active.body
         ∧ (segmentAt runningReel.segments 99).any (fun g => g.kind == .picture) = true)
    ∧ cuesFit [] = true ∧ cuesFit (notes [10]) = true ∧ cuesFit (notes [17]) = true
    ∧ cuesFit (notes [10, 11, 12, 13, 14, 15, 16, 17]) = true ∧ cuesFit (notes [9]) = false ∧ cuesFit (notes [18]) = false
    ∧ cuesFit (notes [12, 12]) = false ∧ cuesFit (notes [13, 12]) = false
    ∧ cuesFit (notes [10, 11, 12, 13, 14, 15, 16, 17, 18]) = false :=
  ⟨⟨calm_of_check _ (by decide +kernel), by decide +kernel⟩, ⟨calm_of_check _ (by decide +kernel), by decide +kernel⟩,
    by decide +kernel⟩

theorem witness_StartingAWorkOrderPrerolls :
    (let c : Capabilities := { gauges := { g35x4 := true, g35x3 := false, g16x1 := false }, fastest := .fast }
     let s := withStation (ordered (inChamber .verified .threaded)
       { WorkOrder.powerOn with state := .open, body := some fresh }) (fun t => { t with capabilities := some c })
     let s := { s with delivery := { s.delivery with channel := .sending } }
     Calm s ∧ (s.order 1).body = some fresh ∧ fresh.reel = some 3
       ∧ s.reel? 3 = some (mounted .verified) ∧ (s.station 1).capabilities = some c ∧ c.gauges.has (mounted .verified).gauge = true
       ∧ (s.station 1).profile = none ∧ (s.station 1).fallback = none ∧ (s.station 1).inFlight = none)
    ∧ (Calm running ∧ (running.order 1).state = .active) ∧ (Calm ready ∧ (ready.order 1).state = .closed) :=
  ⟨⟨calm_of_check _ (by decide +kernel), by decide +kernel⟩, ⟨running_calm, by decide +kernel⟩, ready_calm, by decide +kernel⟩

/-- Reel 3 VERIFIED in station 1 with a work order and a pending fallback. -/
def startable (w : OrderState) (x : StationState) (b : OrderBody) (f : Option Profile) : State :=
  let c : Capabilities := { gauges := { g35x4 := true, g35x3 := false, g16x1 := false }, fastest := .fast }
  withStation (ordered (inChamber .verified x) { active with state := w, body := some b })
    (fun t => { t with capabilities := some c, fallback := f })

/-- A loopback work order of station 1 with its source assigned and both lanes in a state. -/
def rehearsed (a b : Lane) : State :=
  let body : OrderBody := { reel := none, first := 0, last := 5, nextCapture := 5, nextDeliver := 0, lastCaptured := none }
  let s := ordered (bare .loopback) { active with state := .open, body := some body }
  { s with lanes := { s.lanes with
      laneA := a, laneB := b, source := { assigned := some 1, state := .idle, intervalOver := false } } }

/-- The work order of station 1 has nothing to deliver when it is ACTIVE. -/
def nothingDue (s : State) : Bool :=
  let t : State := { s with orders := s.orders.set 1 { s.order 1 with state := .active } }
  ([0, 1, 2, 3] : List StationId).all (fun u => (t.item u).isNone)

theorem witness_StartingAWorkOrderPrerolls_resumed :
    (let s := startable .paused .halted fresh (some .standard)
     Calm s ∧ nothingDue s = true ∧ (s.station 1).fallback = some .standard ∧ (s.station 1).state = .halted
       ∧ (s.station 1).inFlight = none ∧ fresh.nextCapture ≤ fresh.last)
    ∧ (let b := { fresh with nextCapture := 100 }
       let s := startable .open .threaded b none
       let s := { s with delivery := { s.delivery with channel := .sending } }
       Calm s ∧ s.delivery.channel = .sending ∧ b.last < b.nextCapture ∧ b.lastCaptured = none ∧ b.nextDeliver ≤ b.last)
    ∧ (let s := startable .open .loaded fresh none
       Calm s ∧ s.reel? 3 = some (mounted .verified) ∧ (s.station 1).state = .loaded)
    ∧ (let s := rehearsed .free .free
       Calm s ∧ nothingDue s = true ∧ s.lanes.source.assigned = some 1 ∧ s.lanes.waitList = [] ∧ s.lanes.laneA = .free
         ∧ s.lanes.laneB.heldBy 1 = false ∧ s.freeSlot = some 0 ∧ (s.station 1).inFlight = none)
    ∧ (let hold := fun (st : StationId) => Lane.mk (some { station := st, tenure := 4, release := .none }) none
       let s := rehearsed (hold 2) (hold 3)
       Calm s ∧ nothingDue s = true ∧ (s.lane .a).hold ≠ none ∧ (s.lane .b).hold ≠ none ∧ s.laneOf 1 = none
         ∧ 1 ∉ s.lanes.waitList) :=
  ⟨⟨calm_of_check _ (by decide +kernel), by decide +kernel⟩, ⟨calm_of_check _ (by decide +kernel), by decide +kernel⟩,
    ⟨calm_of_check _ (by decide +kernel), by decide +kernel⟩, ⟨calm_of_check _ (by decide +kernel), by decide +kernel⟩,
    calm_of_check _ (by decide +kernel), by decide +kernel⟩

/-- That work order on a PICTURE frame while the channel is IDLE, with a READY item of station 2 behind the waiting test of the
arbiter. -/
def heldBack : State :=
  let s := startable .paused .halted fresh none
  let w : WorkOrder := { active with body := some { fresh with nextDeliver := 7 } }
  let s := sending { s with orders := s.orders.set 2 w } [.busy aReply, .arbiterTest]
  { s with store := { s.store with slots := s.store.slots.set 9 { slotOf .ready with order := some 2, frame := some 7 } } }

theorem witness_StartingAWorkOrderPrerolls_heldBack :
    Calm heldBack ∧ heldBack.delivery.channel = .idle ∧ heldBack.item 2 = some (.slot 7 9)
      ∧ ({ heldBack with orders := heldBack.orders.set 1 { heldBack.order 1 with state := .active } } : State).item 1 = none
      ∧ (heldBack.station 1).fallback = none ∧ (heldBack.station 1).inFlight = none :=
  ⟨calm_of_check _ (by decide +kernel), by decide +kernel⟩

/-- R169: that START begins no delivery, and the item goes out when the BUSY reply has been sent. -/
theorem test_start_leaves_the_arbiter :
    let s := after (.start 9 1) heldBack
    s.delivery.channel = .idle ∧ (s.order 1).state = .active
      ∧ (after .outboundMessageSent s).delivery.message.map (fun m => (m.station, m.frame)) = some (2, 7) := by
  decide +kernel

theorem witness_WorkOrdersPauseStopAndAbort :
    (Calm (ordered (inChamber .reverify .broken) active) ∧ ((ordered (inChamber .reverify .broken) active).order 1).state = .active)
    ∧ (Calm capturing ∧ (capturing.station 1).runsAtSpeed = true ∧ (capturing.station 1).inFlight ≠ none
        ∧ (capturing.station 1).profile ≠ some .step)
    ∧ (let s := ordered (inChamber .verified .threaded) { active with state := .paused }
       Calm s ∧ (s.order 1).state = .paused)
    ∧ (let s := ordered (inChamber .verified .threaded) { WorkOrder.powerOn with state := .open, body := some fresh }
       Calm s ∧ (s.order 1).state = .open ∧ fresh.lastCaptured = none ∧ (s.station 1).inFlight = none
         ∧ (s.station 1).motion = .stopped)
    ∧ (Calm ready ∧ (ready.order 1).state = .closed)
    ∧ (capturing.slot? 0 = some (slotOf .filling) ∧ capturing.reel? 3 = some runningReel
        ∧ ∀ u : StationId, u ≠ 1 → (capturing.order u).body = none) :=
  ⟨⟨calm_of_check _ (by decide +kernel), by decide +kernel⟩, ⟨capturing_calm, by decide +kernel⟩,
    ⟨calm_of_check _ (by decide +kernel), by decide +kernel⟩, ⟨calm_of_check _ (by decide +kernel), by decide +kernel⟩,
    ⟨ready_calm, by decide +kernel⟩, by decide +kernel⟩

/-- Station 1, which holds lane A with no capture in flight, with station 2 waiting and station 3 on lane B. -/
def resting (u : StationState) (m : Motion) (captured : Option Nat) : State :=
  let body : OrderBody :=
    { reel := some 3, first := 0, last := 99, nextCapture := 50, nextDeliver := 30, lastCaptured := captured }
  let s := ordered running { active with body := some body }
  let s := withSlot (withStation s (fun t => { t with state := u, motion := m }))
    { slotOf .waiting with frame := some 49, successor := some .awaited }
  { s with lanes := { s.lanes with
      laneB := { hold := some { station := 3, tenure := 9, release := .none }, carriage := none }, waitList := [2] } }

theorem witness_WorkOrdersPauseStopAndAbort_betweenCaptures :
    (let s := resting .running .atSpeed (some 49)
     Calm s ∧ LanesExclusive s ∧ (s.order 1).state = .active ∧ (s.station 1).inFlight = none ∧ s.laneOf 1 = some .a
       ∧ (s.order 1).body.map (fun b => (b.nextDeliver, b.lastCaptured)) = some (30, some 49) ∧ s.slotOf 1 49 = some 2
       ∧ (s.slot? 2).map (·.successor) = some (some .awaited)
       ∧ ∀ u ∈ s.lanes.waitList, u ≠ 1 → (s.station u).state ≠ .starved ∧ (s.station u).state ≠ .loopback)
    ∧ Calm (resting .starved .ramping (some 49)) ∧ Calm (resting .threaded .prerolling none)
    ∧ Calm (resting .halted .prerolling (some 30))
    ∧ (let s := resting .running .atSpeed (some 29)
       Calm s ∧ (s.order 1).body.map (fun b => (b.nextDeliver, b.lastCaptured)) = some (30, some 29)) :=
  ⟨⟨calm_of_check _ (by decide +kernel), ⟨by decide +kernel, by decide +kernel, by decide +kernel⟩, by decide +kernel⟩,
    calm_of_check _ (by decide +kernel),
    calm_of_check _ (by decide +kernel), calm_of_check _ (by decide +kernel),
    calm_of_check _ (by decide +kernel), by decide +kernel⟩

theorem witness_QueriesAnswerAndChangeNothing :
    Calm running ∧ running.reel? 3 = some runningReel
      ∧ (Calm (analysing (slotOf .analysing)) ∧ (analysing (slotOf .analysing)).slotOf 1 5 = some 2
        ∧ (analysing (slotOf .analysing)).slot? 2 = some (slotOf .analysing))
      ∧ (Calm (withSlot running (slotOf .ready)) ∧ (withSlot running (slotOf .ready)).slotOf 1 5 = some 2)
      ∧ (Calm (withSlot running (slotOf .queued)) ∧ (withSlot running (slotOf .queued)).slotOf 1 5 = some 2) :=
  ⟨running_calm, by decide +kernel, ⟨calm_of_check _ (by decide +kernel), by decide +kernel⟩,
    ⟨calm_of_check _ (by decide +kernel), by decide +kernel⟩, calm_of_check _ (by decide +kernel), by decide +kernel⟩

/-! ### The frame store, the Repair Engine, grading and delivery -/

theorem witness_StoredCapturesAreHandedOn :
    ((running.powered = true ∧ Rested running) ∧ (running.lane .a).carriage = none)
    ∧ ((capturing.powered = true ∧ Rested capturing)
        ∧ capturing.lane .a = { hold := some { station := 1, tenure := 24, release := .none }
                                carriage := some { station := 1, frame := 5, slot := 0 } }
        ∧ capturing.laneOf 1 = some .a ∧ capturing.slot? 0 = some (slotOf .filling)
        ∧ capturing.slotOf 1 4 = none ∧ (capturing.order 1).state = .active ∧ (capturing.order 1).body = active.body
        ∧ capturing.reel? 3 = some runningReel
        ∧ (segmentAt runningReel.segments 6).any (fun y => y.kind == .picture) = true
        ∧ (active.body.map (fun b => capturing.capturableFrom b 6)) = some 6 ∧ (capturing.order 1).cues = []
        ∧ (capturing.station 1).runsAtSpeed = true ∧ (capturing.station 1).profile ≠ some .step
        ∧ (capturing.station 1).stopPending = .none ∧ (capturing.station 1).fallback = none) :=
  ⟨⟨at_rest _ (by decide +kernel), by decide +kernel⟩, at_rest _ (by decide +kernel), by decide +kernel⟩

/-- The body of the ACTIVE work order of the tests. -/
def activeBody : OrderBody :=
  { reel := some 3, first := 0, last := 99, nextCapture := 5, nextDeliver := 4, lastCaptured := some 4 }

theorem capturing_mid : MidPass capturing .a { station := 1, tenure := 24, release := .none } 1 5 0 3 activeBody runningReel
    (slotOf .filling) := by
  constructor <;> decide +kernel

/-- Station 1 captures with its tenure at its end, station 3 holds the other lane and station 2 waits. -/
def expiring : State := { capturing with lanes := { capturing.lanes with
  laneA := { hold := some { station := 1, tenure := 1, release := .none }
             carriage := some { station := 1, frame := 5, slot := 0 } }
  laneB := { hold := some { station := 3, tenure := 9, release := .none }, carriage := none }
  waitList := [2] } }

theorem witness_StoredCapturesAreHandedOn_yielded : (expiring.powered = true ∧ Rested expiring)
    ∧ MidPass expiring .a { station := 1, tenure := 1, release := .none } 1 5 0 3 activeBody runningReel (slotOf .filling)
    ∧ expiring.lanes.waitList = [2] ∧ 1 ∉ expiring.lanes.waitList ∧ (expiring.lane .b).hold.map (·.station) = some 3
    ∧ 0 < (expiring.station 2).tenure :=
  ⟨at_rest _ (by decide +kernel), by constructor <;> decide +kernel, by decide +kernel⟩

/-- Station 1 captures frame 5 of a work order changed. -/
def captureOf (w : WorkOrder) (f : Station → Station) : State := withStation (ordered capturing w) f

/-- The hold of station 1's lane in those states. -/
def ownHold : Hold := { station := 1, tenure := 24, release := .none }

theorem witness_StoredCapturesAreHandedOn_outcomes :
    (let b := { activeBody with last := 5 }
     let s := captureOf { active with body := some b, cues := [⟨5, .pause⟩] } id
     (s.powered = true ∧ Rested s) ∧ Completing s .a ownHold 1 5 0 b (slotOf .filling) ∧ b.last < s.capturableFrom b 6
       ∧ b.nextDeliver ≤ b.last ∧ (s.station 1).state = .running ∧ s.reel? 3 = some runningReel)
    ∧ (let s := captureOf { active with cues := [⟨5, .pause⟩] } id
       (s.powered = true ∧ Rested s) ∧ Completing s .a ownHold 1 5 0 activeBody (slotOf .filling)
         ∧ s.capturableFrom activeBody 6 ≤ activeBody.last ∧ (s.station 1).stopPending = .none)
    ∧ (let s := captureOf { active with cues := [⟨5, .note⟩] } id
       (s.powered = true ∧ Rested s) ∧ Completing s .a ownHold 1 5 0 activeBody (slotOf .filling)
         ∧ (s.station 1).state = .running ∧ (s.station 1).profile ≠ some .step ∧ (s.station 1).fallback = none)
    ∧ (let s := captureOf active (fun t => { t with fallback := some .standard })
       (s.powered = true ∧ Rested s) ∧ Completing s .a ownHold 1 5 0 activeBody (slotOf .filling)
         ∧ (s.station 1).motion = .atSpeed ∧ (s.station 1).profile ≠ some .step ∧ s.reelAt (.chamber 1) = some 3)
    ∧ (let s := captureOf active (fun t => { t with profile := some .step })
       (s.powered = true ∧ Rested s) ∧ Completing s .a ownHold 1 5 0 activeBody (slotOf .filling)
         ∧ (s.station 1).motion = .atSpeed ∧ (s.station 1).fallback = none) :=
  ⟨⟨at_rest _ (by decide +kernel), by constructor <;> decide +kernel, by decide +kernel⟩,
    ⟨at_rest _ (by decide +kernel), by constructor <;> decide +kernel, by decide +kernel⟩,
    ⟨at_rest _ (by decide +kernel), by constructor <;> decide +kernel, by decide +kernel⟩,
    ⟨at_rest _ (by decide +kernel), by constructor <;> decide +kernel, by decide +kernel⟩,
    ⟨at_rest _ (by decide +kernel), by constructor <;> decide +kernel, by decide +kernel⟩⟩

/-- Station 1 captures pattern frame 5 of a loopback work order with a last frame. -/
def rehearsing (last : Nat) (ticked : Bool) : State :=
  let b : OrderBody := { reel := none, first := 0, last := last, nextCapture := 5, nextDeliver := 4, lastCaptured := some 4 }
  let s := captureOf { active with body := some b } (fun t => { t with state := .loopback, motion := .stopped })
  { s with lanes := { s.lanes with source := { assigned := some 1, state := .feeding, intervalOver := ticked } } }

theorem witness_StoredCapturesAreHandedOn_loopback :
    let body := fun last : Nat => ({ reel := none, first := 0, last := last, nextCapture := 5, nextDeliver := 4
                                     lastCaptured := some 4 } : OrderBody)
    (let s := rehearsing 9 false
     (s.powered = true ∧ Rested s) ∧ Completing s .a ownHold 1 5 0 (body 9) (slotOf .filling)
       ∧ (s.station 1).state = .loopback ∧ s.lanes.source.assigned = some 1 ∧ s.lanes.source.state = .feeding)
    ∧ (let s := rehearsing 6 true
       (s.powered = true ∧ Rested s) ∧ Completing s .a ownHold 1 5 0 (body 6) (slotOf .filling) ∧ s.freeSlot = some 1)
    ∧ (let s := rehearsing 5 true
       (s.powered = true ∧ Rested s) ∧ Completing s .a ownHold 1 5 0 (body 5) (slotOf .filling)) :=
  ⟨⟨at_rest _ (by decide +kernel), by constructor <;> decide +kernel, by decide +kernel⟩,
    ⟨at_rest _ (by decide +kernel), by constructor <;> decide +kernel, by decide +kernel⟩,
    at_rest _ (by decide +kernel), by constructor <;> decide +kernel⟩

/-- Station 1 captures frame 5 behind frame 4 in slot 2, with an analysis in progress or none. -/
def capturingBehind (y : Slot) (a : Option Analysis) : State :=
  let s := withSlot capturing { y with frame := some 4 }
  { s with engine := { s.engine with analysis := a } }

/-- An analysis of another frame. -/
def otherAnalysis : Analysis :=
  { slot := 9, station := 1, frame := 70, detector := .ir, mode := .conceal, settings := .default, predecessor := false
    successor := false }

/-- A WAITING slot with its neighbours. -/
def waitingSlot (p : Predecessor) (u : Successor) : Slot :=
  { slotOf .waiting with predecessor := some p, successor := some u }

theorem witness_EligibleFramesAreRepairedInTurn :
    (let s := capturingBehind (slotOf .kept) none
     (s.powered = true ∧ Rested s)
       ∧ MidPass s .a { station := 1, tenure := 24, release := .none } 1 5 0 3 activeBody runningReel (slotOf .filling)
       ∧ s.slotOf 1 4 = some 2 ∧ s.slot? 2 = some { slotOf .kept with frame := some 4 }
       ∧ segmentAt runningReel.segments 4 = some (segment 0 99 .picture))
    ∧ (let y := waitingSlot .absent .awaited
       let s := capturingBehind y none
       (s.powered = true ∧ Rested s)
         ∧ MidPass s .a { station := 1, tenure := 24, release := .none } 1 5 0 3 activeBody runningReel (slotOf .filling)
         ∧ s.slotOf 1 4 = some 2 ∧ s.engine.analysis = none ∧ s.store.queue = [])
    ∧ (let y := waitingSlot .repaired .awaited
       let s := capturingBehind y (some otherAnalysis)
       (s.powered = true ∧ Rested s)
         ∧ MidPass s .a { station := 1, tenure := 24, release := .none } 1 5 0 3 activeBody runningReel (slotOf .filling)
         ∧ s.slotOf 1 4 = some 2 ∧ s.engine.analysis = some otherAnalysis)
    ∧ (let s := capturingBehind (waitingSlot .pending .captured) none
       (s.powered = true ∧ Rested s)
         ∧ MidPass s .a { station := 1, tenure := 24, release := .none } 1 5 0 3 activeBody runningReel (slotOf .filling)
         ∧ s.slotOf 1 4 = some 2)
    ∧ (let r := { runningReel with segments := [segment 0 5 .picture, segment 6 6 .gap, segment 7 99 .picture] }
       let s := withReel capturing r
       (s.powered = true ∧ Rested s)
         ∧ MidPass s .a { station := 1, tenure := 24, release := .none } 1 5 0 3 activeBody r (slotOf .filling)
         ∧ (segmentAt r.segments 6).any (fun z => z.kind == .picture) = false ∧ s.slotOf 1 4 = none) :=
  ⟨⟨at_rest _ (by decide +kernel), by constructor <;> decide +kernel, by decide +kernel⟩,
    ⟨at_rest _ (by decide +kernel), by constructor <;> decide +kernel, by decide +kernel⟩,
    ⟨at_rest _ (by decide +kernel), by constructor <;> decide +kernel, by decide +kernel⟩,
    ⟨at_rest _ (by decide +kernel), by constructor <;> decide +kernel, by decide +kernel⟩,
    at_rest _ (by decide +kernel), by constructor <;> decide +kernel, by decide +kernel⟩

/-- Station 1 is HALTED with a PAUSED work order and its newest frame WAITING in slot 2. -/
def newest : State :=
  let s := withStation running (fun t => { t with state := .halted, motion := .stopped })
  let s := ordered s { active with state := .paused, body := some activeBody }
  let s := withSlot s { waitingSlot .repaired .awaited with frame := some 4 }
  { s with engine := { s.engine with analysis := some otherAnalysis } }

/-- Frame 5 in analysis in slot 2 with a slot before it or behind it in slot 6, and a repair queue. -/
def repairing (y : Slot) (q : List Nat) : State :=
  let s := analysing (slotOf .analysing)
  { s with store := { s.store with slots := s.store.slots.set 6 y, queue := q } }

theorem witness_EligibleFramesAreRepairedInTurn_settled :
    (Calm newest ∧ (newest.order 1).state = .paused ∧ (newest.order 1).body = some activeBody ∧ newest.slotOf 1 4 = some 2
      ∧ (newest.station 1).inFlight = none ∧ newest.slot? 2 = some { waitingSlot .repaired .awaited with frame := some 4 })
    ∧ (let s := repairing { slotOf .kept with frame := some 4 } []
       (s.powered = true ∧ Rested s) ∧ s.slotOf 1 4 = some 6 ∧ s.slotOf 1 6 = none
         ∧ ∀ st, (s.station st).state ≠ .starved ∧ (s.station st).state ≠ .loopback)
    ∧ (let s := repairing { waitingSlot .pending .captured with frame := some 6 } []
       (s.powered = true ∧ Rested s) ∧ s.slotOf 1 6 = some 6 ∧ s.slotBefore 1 5 = none)
    ∧ (let s := repairing { slotOf .queued with frame := some 30 } [6]
       (s.powered = true ∧ Rested s) ∧ s.store.queue = [6] ∧ s.slotBefore 1 5 ≠ some 6 ∧ s.slotOf 1 6 ≠ some 6
         ∧ (s.order 1).body = some activeBody) :=
  ⟨⟨calm_of_check _ (by decide +kernel), by decide +kernel⟩, ⟨at_rest _ (by decide +kernel), by decide +kernel⟩,
    ⟨at_rest _ (by decide +kernel), by decide +kernel⟩, at_rest _ (by decide +kernel), by decide +kernel⟩

theorem witness_LoopbackRunsThePatternSource_intervals :
    (((feeding .idle none).powered = true ∧ Rested (feeding .idle none)) ∧ (feeding .idle none).lanes.source.state = .idle)
    ∧ (((feeding .feeding (some 4)).powered = true ∧ Rested (feeding .feeding (some 4)))
        ∧ (feeding .feeding (some 4)).lanes.source.assigned = some 1)
    ∧ (let s := feeding .feeding none
       (s.powered = true ∧ Rested s) ∧ (s.station 1).stopPending = .none ∧ (s.station 1).inFlight = none
         ∧ (s.order 1).state = .active ∧ (s.order 1).body.map (fun b => (b.reel, b.nextCapture, b.last)) = some (none, 5, 5)
         ∧ s.laneOf 1 = some .b ∧ (s.lane .b).carriage = none ∧ s.freeSlot = some 0) :=
  ⟨⟨at_rest _ (by decide +kernel), by decide +kernel⟩, ⟨at_rest _ (by decide +kernel), by decide +kernel⟩,
    at_rest _ (by decide +kernel), by decide +kernel⟩

/-- A sample with a code value and an infrared value. -/
def sample (v : CodeValue) (ir : IrValue) : Sample := { colour := { red := v, green := v, blue := v }, ir := ir }

theorem witness_PatternAndRepairedFrames : 3071 < 3072 ∧ 4095 < 4096
    ∧ ({ gradient := false, samples := [(0, sample 7 9), (12582911, sample 0 0)] } : Planes).wf = true
    ∧ ((running.examOf { slot := 2, station := 1, frame := 5, detector := .ir, mode := .conceal, settings := .default
                         predecessor := false, successor := false } (slotOf .analysing)).planes.wf) = true := by
  decide +kernel

/-- An exam of frame 5 in TEMPORAL mode with one neighbour. -/
def exam : Exam :=
  { gauge := .g35x4, detector := .temporal, mode := .conceal, settings := .default
    planes := { gradient := false, samples := [(0, sample 7 9), (64, sample 1 0)] }
    before := some { gradient := false, samples := [(0, sample 4000 255)] }, after := none
    gathered := splices 2 ++ [hostMark ⟨1, 2, 3⟩] }

/-- An exam of frame 5 in IR mode without a neighbour: a spot of two samples, and the records gathered. -/
def lone (l : List Defect) : Exam :=
  { exam with
    detector := .ir, before := none, settings := { t := 16, ithr := 50, nmin := 2, nmax := 8 }, gathered := l
    planes := Planes.captured Gauge.g35x4.samples [(3, sample 7 9), (4, sample 1 0)] }

theorem witness_PatternAndRepairedFrames_filled :
    (exam.planes.wf = true ∧ exam.settings.ithr ≤ 255 ∧ exam.before.map (·.gradient) = some exam.planes.gradient
      ∧ exam.after = none ∧ exam.gathered.all (fun d => d.span.all (fun t => decide
          (t.row < exam.gauge.tileRows ∧ t.firstCol ≤ t.lastCol ∧ t.lastCol < exam.gauge.tileCols))) = true)
    ∧ (let e := lone []
       e.planes.wf = true ∧ e.settings.ithr ≤ 255 ∧ e.before = none ∧ e.after = none ∧ e.mode = .conceal
         ∧ e.candidates = [3, 4] ∧ e.tileRecords.map (·.kind) = [.spot]
         ∧ (e.repaired.read 3).colour = (e.planes.read 2).colour ∧ e.defects.map (·.outcome) = [.concealed])
    ∧ (let d := hostMark ⟨0, 1, 1⟩
       d ∈ (lone [d]).gathered ∧ (⟨0, 1, 1⟩ : TileSpan).hasPos .g35x4 96 = true ∧ (lone [d]).fill 96 = none
         ∧ (lone [d]).fill 64 ≠ none) := by
  decide +kernel

theorem witness_TheDetectorFindsDamage : 1 ≤ exam.settings.nmin ∧ exam.settings.ithr ≤ 255
    ∧ exam.before.map (·.gradient) = some exam.planes.gradient ∧ exam.after = none ∧ exam.candidates ≠ [] := by
  decide +kernel

theorem witness_AnalysesEndWithARepairedFrame :
    (let x := slotOf .analysing
     let s := analysing x
     (s.powered = true ∧ Rested s) ∧ s.slot? 2 = some x ∧ s.store.queue = [] ∧ s.delivery.channel = .sending
       ∧ x.freeAtEnd = false ∧ (s.order 1).body = active.body ∧ s.reel? 3 = some runningReel
       ∧ (s.engine.analysis.map (fun a => (s.examOf a x).dropped)) = some false ∧ s.slotOf 1 6 = none
       ∧ s.slotBefore 1 5 = none)
    ∧ (let x := { slotOf .analysing with freeAtEnd := true }
       let s := { analysing x with stations := ready.stations }
       (s.powered = true ∧ Rested s) ∧ s.slot? 2 = some x ∧ s.engine.analysis.map (·.slot) = some 2
         ∧ ∀ st, (s.station st).state ≠ .starved ∧ (s.station st).state ≠ .loopback) :=
  ⟨⟨at_rest _ (by decide +kernel), by decide +kernel⟩, at_rest _ (by decide +kernel), by decide +kernel⟩

theorem witness_PictureMessagesEnd :
    ((ready.powered = true ∧ Rested ready) ∧ ready.link.outbound.head? ≠ some .picture)
    ∧ (let s := picturing none .free
       (s.powered = true ∧ Rested s) ∧ s.link.outbound = [.picture] ∧ s.delivery.message.map (·.slot) = some none
         ∧ ∀ st, (s.order st).state.offers = false)
    ∧ (let x := { slotOf .sending with successor := some .captured }
       let s := picturing (some 2) x
       (s.powered = true ∧ Rested s) ∧ s.slot? 2 = some x ∧ s.delivery.message.map (·.slot) = some (some 2)
         ∧ x.freeAtEnd = false)
    ∧ (let x := { slotOf .sending with successor := some .absent }
       let s := picturing (some 2) x
       (s.powered = true ∧ Rested s) ∧ s.slot? 2 = some x ∧ (∀ st, (s.order st).state.offers = false)
         ∧ ∀ st, (s.station st).state ≠ .starved ∧ (s.station st).state ≠ .loopback) :=
  ⟨⟨at_rest _ (by decide +kernel), by decide +kernel⟩, ⟨at_rest _ (by decide +kernel), by decide +kernel⟩,
    ⟨at_rest _ (by decide +kernel), by decide +kernel⟩, at_rest _ (by decide +kernel), by decide +kernel⟩

/-- A picture message with the header of a treatment, in transmission. -/
def treated (slot : Option Nat) (x : Slot) (y : Treatment) (p : Option ParamSet) : State :=
  let s := picturing slot x
  { s with delivery := { s.delivery with
      message := s.delivery.message.map (fun m => { m with header := { m.header with treatment := y, params := p } }) } }

theorem witness_PictureMessagesEnd_rendered :
    (let x := slotOf .sending
     let s := treated (some 2) x .graded (some identitySet)
     (s.powered = true ∧ Rested s) ∧ s.link.outbound = [.picture] ∧ s.slot? 2 = some x
       ∧ s.delivery.message.map (fun m => (m.slot, m.header.treatment, m.header.params))
         = some (some 2, .graded, some identitySet))
    ∧ (let x := slotOf .sending
       let s := treated (some 2) x .ungraded none
       (s.powered = true ∧ Rested s) ∧ s.slot? 2 = some x
         ∧ s.delivery.message.map (fun m => (m.slot, m.header.treatment)) = some (some 2, .ungraded))
    ∧ (let s := treated none .free .black none
       (s.powered = true ∧ Rested s)
         ∧ s.delivery.message.map (fun m => (m.slot, m.header.treatment)) = some (none, .black)) :=
  ⟨⟨at_rest _ (by decide +kernel), by decide +kernel⟩, ⟨at_rest _ (by decide +kernel), by decide +kernel⟩,
    at_rest _ (by decide +kernel), by decide +kernel⟩

theorem witness_PictureMessagesEnd_waiting :
    let s := ordered (sending (picturing none .free) [.picture, .reply aReply, .notice .filmBreak]) active
    (s.powered = true ∧ Rested s) ∧ s.link.outbound = .picture :: [.reply aReply, .notice .filmBreak]
      ∧ s.delivery.message.map (·.slot) = some none ∧ (s.order 1).state.offers = true :=
  ⟨at_rest _ (by decide +kernel), by decide +kernel⟩

/-- A picture message without a slot in transmission, last served a station, while station 1 works with a segment of one
kind at its next-deliver frame 4. -/
def delivering (k : SegmentKind) (served : StationId) (w : WorkOrder) : State :=
  let map := [segment 0 3 .picture, segment 4 4 k, segment 5 99 .picture]
  let s := ordered (withReel (sending running [.picture]) { runningReel with segments := map }) w
  let m : PictureMessage := { station := 2, frame := 8, treatment := .black, slot := none, header := aHeader }
  { s with delivery := { s.delivery with channel := .sending, lastServed := served, message := some m } }

/-- The segment of frame 4 in those states. -/
def delivered (k : SegmentKind) : Option Segment :=
  segmentAt [segment 0 3 .picture, segment 4 4 k, segment 5 99 .picture] 4

theorem witness_DeliveriesBeginInTurn :
    (let s := delivering .gap 1 active
     (s.powered = true ∧ Rested s) ∧ s.link.outbound = [.picture] ∧ s.delivery.message.map (·.slot) = some none
       ∧ s.delivery.lastServed = 1 ∧ s.item 2 = none ∧ s.item 3 = none ∧ s.item 0 = none
       ∧ (s.order 1).body = some activeBody ∧ segmentAt (s.mapOf activeBody) 4 = delivered .gap
       ∧ (delivered .gap).map (·.kind) = some .gap)
    ∧ (let s := withSlot (delivering .picture 0 active) { slotOf .ready with frame := some 4 }
       (s.powered = true ∧ Rested s) ∧ s.delivery.lastServed = 0 ∧ s.slotOf 1 4 = some 2
         ∧ s.slot? 2 = some { slotOf .ready with frame := some 4 })
    ∧ (let b := { activeBody with last := 4 }
       let s := delivering .gap 0 { active with state := .draining, ending := .completed, body := some b }
       (s.powered = true ∧ Rested s) ∧ (s.station 1).inFlight = none ∧ b.last < s.deliverableFrom b 5)
    ∧ (let x := { slotOf .analysing with frame := some 4 }
       let a := { otherAnalysis with slot := 2, frame := 4 }
       let s := withSlot (ordered running active) x
       let s := { s with engine := { s.engine with analysis := some a } }
       (s.powered = true ∧ Rested s) ∧ s.slotOf 1 4 = some 2 ∧ s.delivery.channel = .idle ∧ s.slotOf 1 5 ≠ some 2
         ∧ s.slotBefore 1 4 = none ∧ (∀ u : StationId, u ≠ 1 → s.item u = none) ∧ a.slot ∉ s.store.queue)
    ∧ (let map := [segment 0 0 .gap, segment 1 99 .picture]
       let s := withReel (startable .open .threaded fresh none) { mounted .verified with segments := map }
       Calm s ∧ s.delivery.channel = .idle ∧ segmentAt (s.mapOf fresh) 0 = some (segment 0 0 .gap)
         ∧ ∀ u : StationId, u ≠ 1 → s.item u = none) :=
  ⟨⟨at_rest _ (by decide +kernel), by decide +kernel⟩, ⟨at_rest _ (by decide +kernel), by decide +kernel⟩,
    ⟨at_rest _ (by decide +kernel), by decide +kernel⟩, ⟨at_rest _ (by decide +kernel), by decide +kernel⟩,
    calm_of_check _ (by decide +kernel), by decide +kernel⟩

/-- That state when the message has ended and the last control message that waited then is in transmission. -/
def tested (c : Outbound) : State :=
  let s := sending (delivering .gap 1 active) [c, .arbiterTest, .busy aReply]
  { s with snapshot := none, delivery := { s.delivery with channel := .idle, message := none } }

theorem witness_DeliveriesBeginInTurn_behindControl :
    (let s := tested (.reply aReply)
     (s.powered = true ∧ Rested s) ∧ s.link.outbound = [.reply aReply, .arbiterTest, .busy aReply] ∧ s.link.queue = []
       ∧ s.delivery.channel = .idle ∧ s.delivery.lastServed = 1 ∧ s.item 2 = none ∧ s.item 3 = none ∧ s.item 0 = none
       ∧ (s.order 1).body = some activeBody)
    ∧ (let s := tested (.busy aReply)
       (s.powered = true ∧ Rested s) ∧ s.link.outbound = [.busy aReply, .arbiterTest, .busy aReply]) :=
  ⟨⟨at_rest _ (by decide +kernel), by decide +kernel⟩, at_rest _ (by decide +kernel), by decide +kernel⟩

/-- Such a state with a GAP frame next, whose message in transmission comes from slot 2. -/
def deliveringFrom (x : Slot) : State :=
  let s := withSlot (delivering .gap 1 active) x
  let m : PictureMessage := { station := 2, frame := 3, treatment := .graded, slot := some 2, header := aHeader }
  { s with delivery := { s.delivery with message := some m } }

theorem witness_DeliveriesBeginInTurn_endedSlot :
    (let x := { slotOf .sending with order := some 2, frame := some 3, successor := some .captured }
     let s := deliveringFrom x
     (s.powered = true ∧ Rested s) ∧ s.slot? 2 = some x ∧ s.delivery.message.map (·.slot) = some (some 2)
       ∧ x.freeAtEnd = false ∧ s.slotOf 1 4 = none ∧ (∀ u, (s.order u).body ≠ none → u = 1)
       ∧ ∀ e, e = 2 ∨ e = 3 ∨ e = 0 → s.item e = none)
    ∧ (let x := { slotOf .sending with order := some 2, frame := some 3, successor := some .repaired }
       let s := deliveringFrom x
       (s.powered = true ∧ Rested s) ∧ s.slot? 2 = some x ∧ s.slotOf 1 4 = none
         ∧ ∀ u, (s.station u).state ≠ .starved ∧ (s.station u).state ≠ .loopback)
    ∧ (let x := { slotOf .sending with order := some 2, frame := some 3, successor := some .captured, freeAtEnd := true }
       let s := deliveringFrom x
       (s.powered = true ∧ Rested s) ∧ s.slot? 2 = some x) :=
  ⟨⟨at_rest _ (by decide +kernel), by decide +kernel⟩, ⟨at_rest _ (by decide +kernel), by decide +kernel⟩,
    at_rest _ (by decide +kernel), by decide +kernel⟩

/-- R181, worked steps 7 and 8: with a reply and a BUSY reply waiting, no delivery begins at the message end, nor when the
reply has been sent and the next request is taken; the next picture message is placed when the BUSY reply has been sent,
behind the reply to that request. -/
theorem test_arbiter_behind_control :
    let s := sending (delivering .gap 1 active) [.picture, .reply aReply, .busy aReply]
    let ended := after .pictureMessageEnd
      { s with link := { s.link with queue := [{ kind := 40, number := 42, request := some .queryLift }] } }
    let replied := after .outboundMessageSent ended
    let sent := after .outboundMessageSent replied
    ended.link.outbound = [.reply aReply, .busy aReply, .arbiterTest] ∧ ended.delivery.channel = .idle
      ∧ replied.link.outbound.take 2 = [.busy aReply, .arbiterTest] ∧ replied.link.ready = false
      ∧ replied.delivery.channel = .idle
      ∧ sent.link.outbound = replied.link.outbound.drop 2 ++ [.picture] ∧ sent.delivery.channel = .sending := by
  decide +kernel

theorem witness_MarkingDefectsAndSettingTheDetector :
    (let x := { slotOf .filling with defects := splices 23 }
     let s := withSlot running x
     Calm s ∧ (s.order 1).state ≠ .closed ∧ (s.order 1).body = active.body ∧ (active.body.map s.gaugeOf) = some .g35x4
       ∧ Gauge.g35x4.tileRows = 48 ∧ Gauge.g35x4.tileCols = 64 ∧ s.slotOf 1 5 = some 2 ∧ s.slot? 2 = some x
       ∧ x.defects.length = 23 ∧ (∀ d ∈ x.defects, d.kind ≠ .host))
    ∧ (let x := { slotOf .queued with defects := splices 24 }
       Calm (withSlot running x) ∧ (withSlot running x).slotOf 1 5 = some 2 ∧ (withSlot running x).slot? 2 = some x
         ∧ x.defects.length = 24) :=
  ⟨⟨calm_of_check _ (by decide +kernel), by decide +kernel⟩, calm_of_check _ (by decide +kernel), by decide +kernel⟩

theorem witness_MarkingDefectsAndSettingTheDetector_marked :
    (let x := { slotOf .waiting with defects := [hostMark ⟨47, 0, 63⟩] }
     Calm (withSlot running x) ∧ (withSlot running x).slot? 2 = some x ∧ ∃ d ∈ x.defects, d.kind = .host
       ∧ d.span = some ⟨47, 0, 63⟩)
    ∧ (let s := ordered (withSlot running (slotOf .sending)) { active with state := .closed }
       Calm s ∧ s.slotOf 1 5 = some 2 ∧ s.slot? 2 = some (slotOf .sending) ∧ (s.order 1).body = some activeBody)
    ∧ (Calm (withSlot running (slotOf .ready)) ∧ (withSlot running (slotOf .ready)).slot? 2 = some (slotOf .ready)
        ∧ ((withSlot running (slotOf .ready)).order 1).state ≠ .closed)
    ∧ Calm running ∧ running.slotOf 1 7 = none :=
  ⟨⟨calm_of_check _ (by decide +kernel), by decide +kernel⟩, ⟨calm_of_check _ (by decide +kernel), by decide +kernel⟩,
    ⟨calm_of_check _ (by decide +kernel), by decide +kernel⟩, running_calm, by decide +kernel⟩

theorem witness_KeyframesAreSetClamped :
    (let l := (List.range 63).map keyframe
     let s := keyed l
     Calm s ∧ s.reel? 3 = some { shelved with keyframes := l } ∧ (99 : Nat) < shelved.length
       ∧ l.Pairwise (fun x y => x.frame < y.frame) ∧ (¬ ∃ x ∈ l, x.frame = 99) ∧ l.length = 63 ∧ s.keyframesUsed = 63
       ∧ (∃ x ∈ l, x.frame = 62))
    ∧ (let l := (List.range 64).map keyframe
       let s := keyed l
       Calm s ∧ s.reel? 3 = some { shelved with keyframes := l } ∧ (¬ ∃ x ∈ l, x.frame = 99) ∧ l.length = 64) :=
  ⟨⟨calm_of_check _ (by decide +kernel), by decide +kernel⟩, calm_of_check _ (by decide +kernel), by decide +kernel⟩

/-- Reel 3 with a short grade list beside 32 reels that use the whole pool. -/
def pooled : State :=
  (List.range 32).foldl (fun s i => s.setReel (100 + i) (some { shelved with
    tag := BitVec.ofNat 64 (1000 + i), location := .unknown, home := none, keyframes := (List.range 64).map keyframe }))
    (keyed [])

theorem witness_KeyframesAreSetClamped_pool : Calm pooled ∧ pooled.keyframesUsed = 2048
    ∧ pooled.reel? 3 = some { shelved with keyframes := [] } ∧ Calm ready ∧ ready.reel? 3 = none :=
  ⟨calm_of_check _ (by decide +kernel), by decide +kernel, by decide +kernel, ready_calm, by decide +kernel⟩

theorem witness_KeyframesAreDeletedAndCleared : (Calm ready ∧ ready.reel? 3 = none)
    ∧ (let s := keyed ((List.range 64).map keyframe)
       Calm s ∧ s.reel? 3 = some { shelved with keyframes := (List.range 64).map keyframe } ∧ s.keyframesUsed = 64
         ∧ (∃ x ∈ (List.range 64).map keyframe, x.frame = 63) ∧ ¬ ∃ x ∈ (List.range 64).map keyframe, x.frame = 64) :=
  ⟨⟨ready_calm, by decide +kernel⟩, calm_of_check _ (by decide +kernel), by decide +kernel⟩

/-- The RAMP keyframe of a frame with a darker set. -/
def darker (f : Nat) : Keyframe :=
  { keyframe f with transition := .ramp, params := { identitySet with saturation := 0 } }

theorem witness_EvaluatingAGrade :
    (let l := [keyframe 99]
     Calm (keyed l) ∧ (keyed l).reel? 3 = some { shelved with keyframes := l }
       ∧ segmentAt shelved.segments 99 = some (segment 0 99 .picture) ∧ (keyframe 99).frame ≤ 99 ∧ 98 < (keyframe 99).frame
       ∧ 99 < shelved.length)
    ∧ (let l := [keyframe 0] ++ darker 10 :: keyframe 13 :: []
       Calm (keyed l) ∧ (keyed l).reel? 3 = some { shelved with keyframes := l }
         ∧ l.Pairwise (fun y z => y.frame < z.frame) ∧ (darker 10).frame ≤ 10 ∧ 12 < (keyframe 13).frame
         ∧ (darker 10).transition = .ramp ∧ (keyframe 0).transition = .cut) :=
  ⟨⟨calm_of_check _ (by decide +kernel), by decide +kernel⟩, calm_of_check _ (by decide +kernel), by decide +kernel⟩

theorem witness_SuiteResetRestoresTheVolatileBlocks : Calm fetching ∧ fetching.stk.lift = .moving
    ∧ Calm (withLift ready .direct [waiting]) ∧ (withLift ready .direct [waiting]).stk.lift = .direct ∧ Calm running :=
  ⟨calm_of_check _ (by decide +kernel), rfl, calm_of_check _ (by decide +kernel), rfl, running_calm⟩

/-- RESET SUITE waits with three requests behind it for the reply before it to be sent. -/
def resetWaits : State :=
  let s := pressed 3 2
  { s with link := { s.link with
      queue := { kind := Request.resetSuite.kind, number := 9, request := some .resetSuite } :: s.link.queue } }

theorem witness_SuiteResetRestoresTheVolatileBlocks_records :
    ((resetWaits.powered = true ∧ Rested resetWaits) ∧ resetWaits.link.queue.length = 4
      ∧ resetWaits.link.outbound = .reply aReply :: [.busy aReply, .busy aReply])
    ∧ (let p := { pass with frames := 100, peak := some 250 }
       let r := { runningReel with history := [{ pass with outcome := .completed }, p] }
       let s := withReel running r
       Calm s ∧ s.reel? 3 = some r ∧ r.location = .chamber 1 ∧ s.reelAt (.chamber 1) = some 3
         ∧ (s.order 1).state ≠ .closed ∧ (s.order 1).body = some activeBody
         ∧ r.history = [{ pass with outcome := .completed }] ++ p :: [] ∧ p.outcome = .running)
    ∧ (Calm (staged 5) ∧ ((staged 5).reel? 3).map (·.location) = some (.staging 2)) :=
  ⟨⟨at_rest _ (by decide +kernel), by decide +kernel⟩, ⟨calm_of_check _ (by decide +kernel), by decide +kernel⟩,
    calm_of_check _ (by decide +kernel), by decide +kernel⟩

/-- Station 1 captures frame 5 into slot 0, with slot 2 in a state, slot 4 QUEUED for the repair queue, an analysis of slot 2,
a snapshot, and a picture message in transmission. -/
def busyStore (x : SlotState) : State :=
  let s := withSlot capturing { slotOf x with frame := some 3 }
  let m : PictureMessage := { station := 1, frame := 2, treatment := .black, slot := none, header := aHeader }
  { s with
    store := { s.store with
      slots := s.store.slots.set 4 { slotOf .queued with frame := some 4 }, queue := [4] }
    engine := { s.engine with analysis := some { otherAnalysis with slot := 2, frame := 3 } }
    snapshot := some { station := 1, frame := 3, mode := none, treatment := .black, params := none }
    link := { s.link with outbound := [.picture] }
    delivery := { s.delivery with channel := .sending, message := some m } }

theorem witness_SuiteResetRestoresTheVolatileBlocks_store :
    (let s := busyStore .analysing
     Calm s ∧ s.store.queue = [4] ∧ s.slot? 4 = some { slotOf .queued with frame := some 4 } ∧ (s.order 1).state ≠ .closed
       ∧ s.slot? 2 = some { slotOf .analysing with frame := some 3 } ∧ s.slot? 0 = some (slotOf .filling)
       ∧ (s.lane .a).carriage.map (·.slot) = some 0 ∧ (s.lane .b).carriage = none ∧ Outbound.picture ∈ s.link.outbound)
    ∧ (let s := busyStore .sending
       Calm s ∧ s.slot? 2 = some { slotOf .sending with frame := some 3 })
    ∧ Calm (busyStore .ready) :=
  ⟨⟨calm_of_check _ (by decide +kernel), by decide +kernel⟩, ⟨calm_of_check _ (by decide +kernel), by decide +kernel⟩,
    calm_of_check _ (by decide +kernel)⟩

/-! ### The invariants -/

theorem witness_StepsKeepTheLanesExclusive : LanesExclusive capturing
    ∧ ∃ t, step { capturing with pending := [.captureStored .a []] } = .next t :=
  ⟨⟨by decide +kernel, by decide +kernel, by decide +kernel⟩, _, rfl⟩

theorem witness_StepsKeepTheOutboundListInOrder : OutboundInOrder noticed.link
    ∧ ∃ t, step { noticed with pending := [.outboundMessageSent] } = .next t :=
  ⟨⟨(free_of_check noticed (by decide +kernel)).taken, by decide +kernel, by decide +kernel⟩, _, rfl⟩

/-- Reel 4 in its cell, beside reel 3. -/
def neighbour : Reel := { reelOf 2 .acetate (.cell 447) with passLimit := 16 }

/-- Station 1 captures from reel 3, which has a pass record, beside reel 4; a dwell counter stands at its top, and the tenure
of station 1's lane at 255. -/
def brimming : State :=
  let s := (withPosition capturing { state := .unidentified, dwell := 65535, announced := true }).setReel 4 (some neighbour)
  { s with lanes := { s.lanes with laneA :=
    { hold := some { station := 1, tenure := 255, release := .none }, carriage := some { station := 1, frame := 5, slot := 0 } } } }

theorem brimming_reels : ∀ i r, brimming.reel? i = some r → (i = 3 ∧ r = runningReel) ∨ (i = 4 ∧ r = neighbour) := by
  intro i r e
  have h : i ≠ 3 → i ≠ 4 → brimming.reel? i = none := by
    intro h3 h4
    have e' : brimming.retained.reels.toList[i]? = some (some r) := by
      rw [Vector.getElem?_toList]; simpa [State.reel?, Option.join_eq_some_iff] using e
    have m := (List.all_eq_true.mp (by decide +kernel : brimming.retained.reels.toList.zipIdx.all
      (fun x => x.2 == 3 || x.2 == 4 || x.1.isNone) = true)) (some r, i) (by simp [List.mk_mem_zipIdx_iff_getElem?, e'])
    simp [h3, h4] at m
  rcases Decidable.em (i = 3) with rfl | h3
  · exact .inl ⟨rfl, (Option.some.inj ((by decide +kernel : brimming.reel? 3 = some runningReel).symm.trans e)).symm⟩
  rcases Decidable.em (i = 4) with rfl | h4
  · exact .inr ⟨rfl, (Option.some.inj ((by decide +kernel : brimming.reel? 4 = some neighbour).symm.trans e)).symm⟩
  · simp [h h3 h4] at e

theorem brimming_registry : RegistryInRange brimming := by
  have one : ∀ r, r = runningReel ∨ r = neighbour → RecordInRange r := by
    rintro r (rfl | rfl)
    · refine ⟨by decide, by decide, by decide, by decide, fun k p e => ?_⟩
      match k, e with
      | 0, e => cases e; decide
    · exact ⟨by decide, by decide, by decide, by decide, fun k p e => by simp [neighbour, reelOf, newReel] at e⟩
  refine ⟨fun i r e => one r ((brimming_reels i r e).imp (·.2) (·.2)), ?_, ?_⟩
  · intro i j r q e f
    rcases brimming_reels i r e with ⟨rfl, rfl⟩ | ⟨rfl, rfl⟩ <;> rcases brimming_reels j q f with ⟨rfl, rfl⟩ | ⟨rfl, rfl⟩ <;>
      decide
  · intro i j r q c e f
    rcases brimming_reels i r e with ⟨rfl, rfl⟩ | ⟨rfl, rfl⟩ <;> rcases brimming_reels j q f with ⟨rfl, rfl⟩ | ⟨rfl, rfl⟩ <;>
      intro a b <;> first | rfl | (cases a; cases b)

theorem witness_StepsKeepSettingsRegistryAndPlanes : SettingsInRange brimming ∧ PlanesCanonical brimming
    ∧ RegistryInRange brimming ∧ (∃ t, step { brimming with pending := [.dwellMinuteTick 2] } = .next t)
    ∧ ∃ t, step { brimming with pending := [.captureStored .a []] } = .next t :=
  ⟨⟨by decide +kernel, by decide +kernel, by decide +kernel, by decide +kernel, by decide +kernel, by decide +kernel,
      positions_all _ (fun _ x => x.dwell ≤ 65535) (by decide +kernel),
      holds_all _ (fun h => h.tenure ≤ 255) (by decide +kernel)⟩,
    fun k x h => by
      have m : x ∈ brimming.store.slots.toList := by
        obtain ⟨_, e⟩ := Vector.getElem?_eq_some_iff.mp h
        rw [← e]; simp
      exact List.all_eq_true.mp (by decide +kernel : brimming.store.slots.toList.all (·.planes.wf) = true) x m,
    brimming_registry, ⟨_, rfl⟩, _, rfl⟩

end Sys2Proof.Tests
end

section
/-!
PROOFS. The registry as a whole: which reel a search finds, what writing, freeing and filling an entry keep of the
registry's ranges.
-/

-- One proof after another, as in the model's tests: each thread's stack counts against the memory limit.
set_option Elab.async false

namespace Sys2Proof.Machine

/-! ### Searches -/

/-- Membership of a record in the registry's list is registration under an index. -/
theorem State.mem_reels_iff (s : State) (r : Reel) : some r ∈ s.retained.reels.toList ↔ ∃ i, s.reel? i = some r := by
  simp only [List.mem_iff_getElem?, Vector.getElem?_toList, State.reel?, Option.join_eq_some_iff]

/-- A search that finds nothing passes every registered reel over. -/
theorem State.findReel_eq_none_iff (s : State) (p : Reel → Bool) :
    s.findReel p = none ↔ ∀ i r, s.reel? i = some r → p r = false := by
  simp only [State.findReel, List.findIdx?_eq_none_iff]
  constructor
  · exact fun h i r e => by simpa using h _ ((s.mem_reels_iff r).mpr ⟨i, e⟩)
  · intro h o m
    cases o with
    | none => rfl
    | some r =>
      obtain ⟨i, e⟩ := (s.mem_reels_iff r).mp m
      simpa using h i r e

/-- A search that finds an index finds a registered reel that passes its test. -/
theorem State.findReel_registered (s : State) (p : Reel → Bool) (i : Nat) (h : s.findReel p = some i) :
    ∃ r, s.reel? i = some r ∧ p r = true := by
  obtain ⟨hi, ho, -⟩ := List.findIdx?_eq_some_iff_getElem.mp h
  cases e : s.retained.reels.toList[i] with
  | none => simp [e] at ho
  | some r =>
    have : s.retained.reels.toList[i]? = some (some r) := by rw [List.getElem?_eq_getElem hi, e]
    exact ⟨r, by simpa [State.reel?, Option.join_eq_some_iff] using this, by simpa [e] using ho⟩

/-- A FREE cell is no reel's home cell (R29). -/
theorem State.home_ne_of_free (s : State) (c : Nat) (h : s.cellState c = .free) (i : Nat) (r : Reel)
    (e : s.reel? i = some r) : r.home ≠ some c := by
  have n : s.homeReel c = none := by
    unfold State.cellState at h
    split at h
    · assumption
    · split at h <;> simp at h
  simpa using (s.findReel_eq_none_iff _).mp n i r e

/-! ### Entries -/

/-- What stands in an entry after a write: the new record there, and the old record everywhere else. -/
theorem State.reel?_setReel_some (s : State) (i j : Nat) (o : Option Reel) (r : Reel)
    (e : (s.setReel i o).reel? j = some r) : (j = i ∧ o = some r) ∨ (j ≠ i ∧ s.reel? j = some r) := by
  rw [State.reel?_setReel] at e
  split at e
  · next c => exact .inl ⟨c.1.symm, e⟩
  · next c => exact .inr ⟨fun k => c ⟨k.symm, k ▸ s.reel?_lt j r e⟩, e⟩

/-- A record in range, whose can tag and home cell no other reel has, keeps the registry in range (R1, R3, R29). -/
theorem RegistryInRange.write {s : State} (h : RegistryInRange s) {i : Nat} {q : Reel} (range : RecordInRange q)
    (tag : ∀ j r, j ≠ i → s.reel? j = some r → r.tag ≠ q.tag)
    (home : ∀ j r c, j ≠ i → s.reel? j = some r → q.home = some c → r.home ≠ some c) :
    RegistryInRange (s.setReel i (some q)) := by
  refine ⟨fun j r e => ?_, fun j k r x e g t => ?_, fun j k r x c e g a b => ?_⟩
  · rcases s.reel?_setReel_some i j _ r e with ⟨-, e⟩ | ⟨-, e⟩
    · exact Option.some.inj e ▸ range
    · exact h.records j r e
  · rcases s.reel?_setReel_some i j _ r e with ⟨hj, hr⟩ | ⟨hj, hr⟩ <;>
      rcases s.reel?_setReel_some i k _ x g with ⟨hk, hx⟩ | ⟨hk, hx⟩
    · exact hj.trans hk.symm
    · cases hr; exact absurd t.symm (tag k x hk hx)
    · cases hx; exact absurd t (tag j r hj hr)
    · exact h.tags j k r x hr hx t
  · rcases s.reel?_setReel_some i j _ r e with ⟨hj, hr⟩ | ⟨hj, hr⟩ <;>
      rcases s.reel?_setReel_some i k _ x g with ⟨hk, hx⟩ | ⟨hk, hx⟩
    · exact hj.trans hk.symm
    · cases hr; exact absurd b (home k x c hk hx a)
    · cases hx; exact absurd a (home j r c hj hr b)
    · exact h.homes j k r x c hr hx a b

/-- A freed entry keeps the registry in range (R7). -/
theorem RegistryInRange.free {s : State} (h : RegistryInRange s) (i : Nat) : RegistryInRange (s.setReel i none) := by
  have old : ∀ j r, (s.setReel i none).reel? j = some r → s.reel? j = some r := fun j r e =>
    (s.reel?_setReel_some i j none r e).elim (fun c => nomatch c.2) (·.2)
  exact ⟨fun j r e => h.records j r (old j r e), fun j k r q e g => h.tags j k r q (old j r e) (old k q g),
    fun j k r q c e g => h.homes j k r q c (old j r e) (old k q g)⟩

/-- A home cell of its class's zone, given to a reel for which it is FREE or its own, keeps the registry in range. -/
theorem RegistryInRange.rehome {s : State} (h : RegistryInRange s) {i c : Nat} {r q : Reel} (e : s.reel? i = some r)
    (apart : ∀ j x, j ≠ i → s.reel? j = some x → x.home ≠ some c) (range : RecordInRange q) (tag : q.tag = r.tag)
    (home : q.home = some c) : RegistryInRange (s.setReel i (some q)) :=
  h.write range (fun j x n g t => n (h.tags j i x r g e (t.trans tag)))
    (fun j x d n g a => by rw [home] at a; exact Option.some.inj a ▸ apart j x n g)

/-- Power-on leaves every record its ranges, can tag and home cell (R27). -/
theorem RecordInRange.atPowerOn {r : Reel} (h : RecordInRange r) : RecordInRange r.atPowerOn := by
  have passes : ∀ k p, (r.history.map (fun p =>
      if p.outcome = .running then { p with outcome := PassOutcome.aborted } else p))[k]? = some p →
      p.number = k + 1 ∧ p.startTime ≤ 86399 := by
    intro k p e
    obtain ⟨q, hq, rfl⟩ := Option.map_eq_some_iff.mp (List.getElem?_map ▸ e)
    split <;> exact h.passes k q hq
  unfold Reel.atPowerOn
  dsimp only
  split <;> exact ⟨h.length, h.passLimit, h.acid, h.home, passes⟩

@[simp] theorem Reel.atPowerOn_tag (r : Reel) : r.atPowerOn.tag = r.tag := by
  unfold Reel.atPowerOn; dsimp only; split <;> rfl
@[simp] theorem Reel.atPowerOn_home (r : Reel) : r.atPowerOn.home = r.home := by
  unfold Reel.atPowerOn; dsimp only; split <;> rfl

/-- A state with the retained memory of a passed check holds every record as power-on leaves it (R27). -/
theorem State.reel?_atPowerOn {s t : State} (h : t.retained = s.retained.atPowerOn) (i : Nat) :
    t.reel? i = (s.reel? i).map (·.atPowerOn) := by
  simp only [State.reel?, h, Retained.atPowerOn, Vector.getElem?_map]
  cases s.retained.reels[i]? <;> rfl

theorem RegistryInRange.atPowerOn {s t : State} (h : RegistryInRange s) (e : t.retained = s.retained.atPowerOn) :
    RegistryInRange t := by
  have old : ∀ i r, t.reel? i = some r → ∃ q, s.reel? i = some q ∧ q.atPowerOn = r := fun i r g =>
    Option.map_eq_some_iff.mp (State.reel?_atPowerOn e i ▸ g)
  refine ⟨fun i r g => ?_, fun i j r q g k x => ?_, fun i j r q c g k x y => ?_⟩
  · obtain ⟨q, hq, rfl⟩ := old i r g
    exact (h.records i q hq).atPowerOn
  · obtain ⟨r, hr, rfl⟩ := old i r g
    obtain ⟨q, hq, rfl⟩ := old j q k
    exact h.tags i j r q hr hq (by simpa using x)
  · obtain ⟨r, hr, rfl⟩ := old i r g
    obtain ⟨q, hq, rfl⟩ := old j q k
    exact h.homes i j r q c hr hq (by simpa using x) (by simpa using y)

/-- With every entry free there is nothing to be out of range. -/
theorem RegistryInRange.of_empty {t : State} (e : t.retained.reels = Vector.replicate 512 none) : RegistryInRange t := by
  have none' : ∀ i, t.reel? i = none := fun i => by
    simp only [State.reel?, e, Vector.getElem?_replicate]
    split <;> rfl
  exact ⟨fun i r g => by simp [none'] at g, fun i j r q g => by simp [none'] at g, fun i j r q c g => by simp [none'] at g⟩

end Sys2Proof.Machine
end

section
/-!
PROOFS. What is in range stays in range under the shared operations: records, ports, alerts, the registry's own operations,
custody and the lift.
-/

-- One proof after another, as in the model's tests: each thread's stack counts against the memory limit.
set_option Elab.async false

namespace Sys2Proof.Machine

/-- The part stands in its ranges: its settings and counters, the planes of its slots and, where `p` holds, its registry. In
the use of this `p` says that the registry stood in its ranges before the step. -/
structure InRange (p : Prop) (s : State) : Prop where
  settings : SettingsInRange s
  planes : PlanesCanonical s
  registry : p → RegistryInRange s

variable {p : Prop} {s t : State} {st : StationId}

/-! ### Writing records -/

/-- A change of the reels alone, besides what no range speaks of. -/
theorem InRange.of_registry (h : InRange p s) (registry : RegistryInRange s → RegistryInRange t)
    (threshold : t.retained.threshold = s.retained.threshold := by rfl)
    (dwell : t.retained.dwell = s.retained.dwell := by rfl) (stations : t.stations = s.stations := by rfl)
    (detector : t.engine.settings = s.engine.settings := by rfl) (clock : t.link.clock = s.link.clock := by rfl)
    (counter : t.stk.counter = s.stk.counter := by rfl) (positions : t.stk.positions = s.stk.positions := by rfl)
    (holds : ∀ l, (t.lane l).hold = (s.lane l).hold := by exact fun _ => rfl)
    (slots : t.store.slots = s.store.slots := by rfl) : InRange p t where
  settings := by
    obtain ⟨a, b, c, d, e, f, g, i⟩ := h.settings
    refine ⟨threshold ▸ a, dwell ▸ b, fun st => ?_, detector ▸ d, clock ▸ e, counter ▸ f, fun p x k => ?_, fun l x k => ?_⟩
    · have := c st
      unfold State.station at this ⊢
      rwa [stations]
    · exact g p x (by unfold State.position? at k ⊢; rwa [← positions])
    · exact i l x (holds l ▸ k)
  planes k x e := h.planes k x (by unfold State.slot? at e ⊢; rwa [← slots])
  registry x := registry (h.registry x)

/-- A change of what no range speaks of. -/
theorem InRange.congr (h : InRange p s) (retained : t.retained = s.retained := by rfl)
    (stations : t.stations = s.stations := by rfl) (detector : t.engine.settings = s.engine.settings := by rfl)
    (clock : t.link.clock = s.link.clock := by rfl) (counter : t.stk.counter = s.stk.counter := by rfl)
    (positions : t.stk.positions = s.stk.positions := by rfl)
    (holds : ∀ l, (t.lane l).hold = (s.lane l).hold := by exact fun _ => rfl)
    (slots : t.store.slots = s.store.slots := by rfl) : InRange p t :=
  h.of_registry (fun r => r.of_reels (by rw [retained])) (by rw [retained]) (by rw [retained]) stations detector clock
    counter positions holds slots

theorem InRange.setReel {i : Nat} {r q : Reel} (h : InRange p s) (e : s.reel? i = some r)
    (range : RecordInRange r → RecordInRange q := by exact fun h => ⟨h.length, h.passLimit, h.acid, h.home, h.passes⟩)
    (tag : q.tag = r.tag := by rfl) (home : q.home = r.home ∨ q.home = none := by exact .inl rfl) :
    InRange p (s.setReel i (some q)) := by
  refine h.of_registry fun g => ?_
  rw [← s.updReel_some i (fun _ => q) r e]
  refine g.updReel (fun x hx => ?_) (fun x hx => ?_) (fun x hx => ?_) <;> cases e.symm.trans hx
  · exact range (g.records i r e)
  · exact tag
  · exact home

theorem InRange.updReel {i : Nat} {f : Reel → Reel} (h : InRange p s)
    (range : ∀ r, s.reel? i = some r → RecordInRange r → RecordInRange (f r) := by
      exact fun _ _ h => ⟨h.length, h.passLimit, h.acid, h.home, h.passes⟩)
    (tag : ∀ r, (f r).tag = r.tag := by exact fun _ => rfl)
    (home : ∀ r, (f r).home = r.home ∨ (f r).home = none := by exact fun _ => .inl rfl) : InRange p (s.updReel i f) := by
  cases e : s.reel? i with
  | none => rw [s.updReel_none i f e]; exact h
  | some r => rw [s.updReel_some i f r e]; exact h.setReel e (range r e) (tag r) (home r)

theorem InRange.freeReel {i : Nat} (h : InRange p s) : InRange p (s.setReel i none) := h.of_registry (·.free i)

theorem InRange.setRetained {d : DwellSettings} {v : Nat} (h : InRange p s)
    (dwell : d.n ≤ 1440 ∧ d.a ≤ 1440 ∧ d.q ≤ 1440 ∧ d.p ≤ 1440) (threshold : 5 ≤ v ∧ v ≤ 30) :
    InRange p (s.setRetained d v) where
  settings := { h.settings with threshold := threshold, dwell := dwell }
  planes := h.planes
  registry x := (h.registry x).of_reels rfl

/-- A station's filter and tenure settings stand in their ranges (R62). -/
def Station.SettingsFit (t : Station) : Prop :=
  1 ≤ t.filterSetting ∧ t.filterSetting ≤ 15 ∧ 1 ≤ t.tenure ∧ t.tenure ≤ 255

theorem InRange.updStationSettings {f : Station → Station} (h : InRange p s)
    (range : ∀ t : Station, t.SettingsFit → (f t).SettingsFit) : InRange p (s.updStation st f) where
  settings := { h.settings with
    stations := fun u => by
      have := range _ (h.settings.stations st)
      rw [State.station_updStation]
      split
      · split <;> exact this
      · exact h.settings.stations u }
  planes := h.planes
  registry x := (h.registry x).of_reels rfl

theorem InRange.updStation {f : Station → Station} (h : InRange p s)
    (keeps : ∀ t, (f t).filterSetting = t.filterSetting ∧ (f t).tenure = t.tenure := by exact fun _ => ⟨rfl, rfl⟩) :
    InRange p (s.updStation st f) :=
  h.updStationSettings fun t k => by
    unfold Station.SettingsFit at k ⊢
    rwa [(keeps t).1, (keeps t).2]

theorem InRange.updOrder {f : WorkOrder → WorkOrder} (h : InRange p s) : InRange p (s.updOrder st f) := h.congr
theorem InRange.updBody {f : OrderBody → OrderBody} (h : InRange p s) : InRange p (s.updBody st f) := h.congr
theorem InRange.updSource {f : PatternSource → PatternSource} (h : InRange p s) : InRange p (s.updSource f) := h.congr
theorem InRange.toStation {c : StationCommand} (h : InRange p s) : InRange p (s.toStation st c) := h.congr
theorem InRange.toLift {c : LiftCommand} (h : InRange p s) : InRange p (s.toLift c) := h.congr
theorem InRange.emit {e : Emission} (h : InRange p s) : InRange p (s.emit e) := h.congr
theorem InRange.updMove {f : MoveRecord → MoveRecord} (h : InRange p s) : InRange p (s.updMove f) := h.congr
theorem InRange.endForwarded (h : InRange p s) : InRange p s.endForwarded := h.congr
theorem InRange.setCarriage {c : Carriage} (h : InRange p s) : InRange p (s.setCarriage c) := h.congr
theorem InRange.liftIdle (h : InRange p s) : InRange p s.liftIdle := h.congr

theorem InRange.updSlot {k : Nat} {f : Slot → Slot} (h : InRange p s)
    (planes : ∀ x, x.planes.wf = true → (f x).planes.wf = true := by exact fun _ h => h) : InRange p (s.updSlot k f) where
  settings := by
    obtain ⟨a, b, c, d, e, f, g, i⟩ := h.settings
    exact ⟨by simpa using a, by simpa using b, fun st => by simpa [State.station] using c st, by simpa using d,
      by simpa using e, by simpa using f, fun p x => by simpa [State.position?] using g p x,
      fun l x => by simpa [State.lane] using i l x⟩
  planes j x e := by
    rw [State.slot?_updSlot] at e
    split at e
    · obtain ⟨y, hy, rfl⟩ := Option.map_eq_some_iff.mp e
      exact planes y (h.planes k y hy)
    · exact h.planes j x e
  registry x := (h.registry x).of_reels (by simp)

theorem InRange.setLane {l : LaneId} {v : Lane} (h : InRange p s) (tenure : ∀ x, v.hold = some x → x.tenure ≤ 255) :
    InRange p (s.setLane l v) where
  settings := by
    obtain ⟨a, b, c, d, e, f, g, i⟩ := h.settings
    refine ⟨by simpa using a, by simpa using b, fun st => by simpa [State.station] using c st, by simpa using d,
      by simpa using e, by simpa using f, fun p x => by simpa [State.position?] using g p x, fun m x k => ?_⟩
    rw [State.lane_setLane] at k
    split at k
    · exact tenure x k
    · exact i m x k
  planes k x e := h.planes k x (by simpa [State.slot?] using e)
  registry x := (h.registry x).of_reels (by simp)

/-- A lane whose carriage alone changes. -/
theorem InRange.setCarry {l : LaneId} {c : Option Capture} (h : InRange p s) :
    InRange p (s.setLane l { s.lane l with carriage := c }) := h.setLane (h.settings.tenures l)

theorem InRange.freeLane {l : LaneId} (h : InRange p s) : InRange p (s.setLane l .free) := h.setLane (by simp [Lane.free])

theorem InRange.updPosition {k : Nat} {f : Staging → Staging} (h : InRange p s)
    (dwell : ∀ x, x.dwell ≤ 65535 → (f x).dwell ≤ 65535 := by exact fun _ h => h) : InRange p (s.updPosition k f) where
  settings := by
    obtain ⟨a, b, c, d, e, g, i, j⟩ := h.settings
    obtain ⟨v, hv⟩ := s.updPosition_stk k f
    refine ⟨by simpa using a, by simpa using b, fun st => by simpa [State.station] using c st, by simpa using d,
      by simpa using e, by rw [hv]; exact g, fun q x hx => ?_, fun l x => by simpa [State.lane] using j l x⟩
    rw [State.position?_updPosition] at hx
    split at hx
    · obtain ⟨y, hy, rfl⟩ := Option.map_eq_some_iff.mp hx
      exact dwell y (i k y hy)
    · exact i q x hx
  planes k x e := h.planes k x (by simpa [State.slot?] using e)
  registry x := (h.registry x).of_reels (by simp)

theorem InRange.updLink {f : Link → Link} (h : InRange p s) (clock : (f s.link).clock ≤ 86399) :
    InRange p (s.updLink f) where
  settings := { h.settings with clock := clock }
  planes := h.planes
  registry x := (h.registry x).of_reels rfl

/-! ### Alerts and the outbound list -/

@[simp] theorem Link.transmit_clock (l : Link) : l.transmit.clock = l.clock := by
  obtain ⟨_, _, e⟩ := l.transmit_frame
  rw [e]

@[simp] theorem Link.place_clock (l : Link) (e : Outbound) : (l.place e).clock = l.clock := by simp [Link.place]

@[simp] theorem Link.placeNotice_clock (l : Link) (f : AlertFlag) : (l.placeNotice f).clock = l.clock := by
  obtain ⟨_, _, e⟩ := l.placeNotice_frame f
  rw [e]

@[simp] theorem Link.headSent_clock (l : Link) : l.headSent.clock = l.clock := by simp [Link.headSent]

@[simp] theorem State.raise_clock (s : State) (f : AlertFlag) (n : Names) : (s.raise f n).link.clock = s.link.clock := by
  obtain ⟨_, _, _, e⟩ := s.raise_settings f n
  rw [e]

theorem InRange.raise {f : AlertFlag} {n : Names} (h : InRange p s) : InRange p (s.raise f n) :=
  h.congr (clock := s.raise_clock f n)

theorem InRange.reply {r : RequestHeader} {b : ReplyBody} (h : InRange p s) : InRange p (s.reply r b) :=
  h.congr (clock := Link.place_clock s.link _)

/-! ### The registry's own operations -/

theorem InRange.moveReel {i : Nat} {l : Location} (h : InRange p s) : InRange p (s.moveReel i l) :=
  h.updReel fun _ _ r => r.moved l

theorem InRange.enterChamber {i : Nat} (h : InRange p s) : InRange p (s.enterChamber i st) := h.updReel

theorem InRange.loseReel {i : Nat} (h : InRange p s) : InRange p (s.loseReel i) := h.moveReel.raise

theorem InRange.setCustody {i : Nat} {c : Custody} (h : InRange p s) : InRange p (s.setCustody i c) := h.updReel

theorem InRange.updRunning {i : Nat} {f : PassRecord → PassRecord} (h : InRange p s)
    (number : ∀ p, (f p).number = p.number := by exact fun _ => rfl)
    (time : ∀ p, (f p).startTime = p.startTime := by exact fun _ => rfl) : InRange p (s.updRunning i f) :=
  h.updReel fun _ _ r => r.updRunning number time

/-- A release of a home cell outside the zone leaves the home cell or none (R19). -/
theorem Reel.rehomed_home (r : Reel) (c : ReelClass) : (r.rehomed c).home = r.home ∨ (r.rehomed c).home = none := by
  unfold Reel.rehomed
  split
  · exact .inl rfl
  · rcases h : r.home.filter (fun c => zoneOfCell c == r.cls) with _ | d
    · exact .inr rfl
    · exact .inl (Option.filter_eq_some_iff.mp h).1.symm

@[simp] theorem Reel.rehomed_tag (r : Reel) (c : ReelClass) : (r.rehomed c).tag = r.tag := by
  unfold Reel.rehomed; split <;> rfl

/-- A record rewritten with its class judged anew (R19): the ranges ask for its pass limit and its reading only. -/
theorem InRange.rehome {i : Nat} {r q : Reel} (h : InRange p s) (e : s.reel? i = some r)
    (limit : 1 ≤ r.passLimit ∧ r.passLimit ≤ 16 → 1 ≤ q.passLimit ∧ q.passLimit ≤ 16)
    (acid : (∀ v, r.acid = some v → v ≤ 30) → ∀ v, q.acid = some v → v ≤ 30) (tag : q.tag = r.tag := by rfl)
    (length : q.length = r.length := by rfl) (home : q.home = r.home := by rfl)
    (history : q.history = r.history := by rfl) : InRange p (s.setReel i (some (q.rehomed r.cls))) :=
  h.setReel e (fun x => x.rehomed length (limit x.passLimit) (acid x.acid) home history) (by simp [tag])
    (home ▸ q.rehomed_home r.cls)

theorem clampInt_reading (v : Int) : (clampInt 0 30 v).toNat ≤ 30 := by
  unfold clampInt
  split
  · decide
  · split <;> omega

theorem InRange.recordReading {i : Nat} {v : Int} (h : InRange p s) : InRange p (s.recordReading st i v) := by
  unfold State.recordReading
  split
  · exact h
  · next r e =>
    have k : InRange p (s.setReel i (some ((r.withReading s.retained.threshold (clampInt 0 30 v).toNat).rehomed r.cls))) :=
      h.rehome e id fun _ x hx => Option.some.inj hx ▸ clampInt_reading v
    dsimp only
    split
    · exact k.raise
    · exact k

theorem InRange.applySplice {i n : Nat} (h : InRange p s) : InRange p (s.applySplice st i n) := by
  unfold State.applySplice
  split
  · exact h
  · next r e =>
    split
    · exact h
    · refine h.setReel e fun x => RecordInRange.updRunning ?_ (fun _ => rfl) (fun _ => rfl)
      exact ⟨x.length, x.passLimit, x.acid, x.home, x.passes⟩
    · refine InRange.raise ?_
      refine h.setReel e fun x => x.updRunning (fun _ => rfl) (fun _ => rfl)

/-- A pass begins at a suite time (R22). -/
theorem InRange.beginPass {i : Nat} (h : InRange p s) : InRange p (s.beginPass st i) :=
  h.updReel fun _ _ x => x.appended rfl h.settings.clock

/-- Completing a pass leaves can tag and home cell. -/
@[simp] theorem Reel.completePass_tag (r : Reel) (o : PassOutcome) : (r.completePass o).tag = r.tag := by
  unfold Reel.completePass; split
  · rfl
  · dsimp only
    split <;> rfl
@[simp] theorem Reel.completePass_home (r : Reel) (o : PassOutcome) : (r.completePass o).home = r.home := by
  unfold Reel.completePass; split
  · rfl
  · dsimp only
    split <;> rfl

theorem InRange.completePass {i : Nat} {o : PassOutcome} (h : InRange p s) : InRange p (s.updReel i (·.completePass o)) :=
  h.updReel (fun _ _ x => x.completePass o) (by simp) (by simp)

/-! ### Custody -/

theorem InRange.pauseOrder (h : InRange p s) : InRange p (s.pauseOrder st) := h.updOrder

theorem InRange.stationMismatch (h : InRange p s) : InRange p (s.stationMismatch st) := by
  unfold State.stationMismatch
  dsimp only
  split
  · exact h.toStation.updStation.pauseOrder
  · split
    · exact h.updStation
    · exact h

theorem InRange.stationVerified (h : InRange p s) : InRange p (s.stationVerified st) :=
  h.updStation fun t => by split <;> exact ⟨rfl, rfl⟩

theorem InRange.evaluateCustody (h : InRange p s) : InRange p (s.evaluateCustody st) := by
  unfold State.evaluateCustody
  split
  · exact h
  · next i _ =>
    split
    · exact h
    · next r e =>
      dsimp only
      split
      · exact h
      · have k : InRange p (s.setReel i (some (r.judged (judgeCustody r (s.station st).tagRead (s.station st).markRead)
            (s.station st).markRead))) := h.setReel e
        split
        · exact k.raise.stationMismatch
        · split
          · exact k.stationVerified
          · exact k

theorem InRange.canArrived (h : InRange p s) : InRange p (s.canArrived st) :=
  InRange.evaluateCustody (h.updStation fun t => by unfold Station.withCan; split <;> exact ⟨rfl, rfl⟩)

/-! ### The lift -/

theorem InRange.followDwell (h : InRange p s) : InRange p s.followDwell := h.congr

theorem InRange.announce {k : Nat} (h : InRange p s) : InRange p (s.announce k) := by
  unfold State.announce
  split
  · split
    · exact h
    · split
      · exact h.updPosition.raise
      · exact h
  · exact h

/-- What a fold's step keeps, the fold keeps. -/
theorem InRange.foldl {α : Type} {f : State → α → State} (step : ∀ {s a}, InRange p s → InRange p (f s a)) (l : List α)
    (h : InRange p s) : InRange p (l.foldl f s) := by
  induction l generalizing s with
  | nil => exact h
  | cons a l ih => exact ih (step h)

theorem InRange.announceAll (h : InRange p s) : InRange p s.announceAll := h.foldl .announce _

theorem InRange.reservePlace {l : Location} (h : InRange p s) : InRange p (s.reservePlace l) := by
  unfold State.reservePlace
  split
  · exact h.updPosition fun _ _ => Nat.zero_le _
  · exact h

theorem InRange.freePlace {l : Location} (h : InRange p s) : InRange p (s.freePlace l) := by
  unfold State.freePlace
  split
  · exact h.updPosition fun _ _ => Nat.zero_le _
  · exact h

theorem InRange.placeAt {l : Location} {x : StagingState} (h : InRange p s) : InRange p (s.placeAt l x) := by
  unfold State.placeAt
  split
  · exact h.updPosition fun _ _ => Nat.zero_le _
  · exact h

theorem InRange.tellStart {m : MoveRecord} (h : InRange p s) : InRange p (s.tellStart m) := by
  unfold State.tellStart
  split
  · exact h.updStation
  · exact h.updStation
  · exact h

theorem InRange.endReservation {m : MoveRecord} (h : InRange p s) : InRange p (s.endReservation m) := by
  unfold State.endReservation
  split
  · exact h.updStation
  · exact h

theorem nextMoveNumber_range (n : Nat) : 1 ≤ nextMoveNumber n ∧ nextMoveNumber n ≤ 255 := by
  unfold nextMoveNumber
  split <;> omega

/-- The destination is where a RESHELVE may set its reel down: the home cell where there is one, and else a FREE cell of
the class's zone (R45). -/
def ShelfChosen (s : State) (m : MoveRecord) (dest : Location) : Prop :=
  m.kind = .reshelve → ∀ i r c, m.reel = some i → s.reel? i = some r → r.home = none → dest = .cell c →
    c ∈ r.cls.cells ∧ s.cellState c = .free

/-- A cell of a zone's list lies in that zone (R29). -/
theorem zoneOfCell_of_mem (z : ReelClass) (c : Nat) (h : c ∈ z.cells) : c < 640 ∧ zoneOfCell c = z := by
  cases z <;> simp only [ReelClass.cells, List.mem_range'_1] at h <;> unfold zoneOfCell <;>
    refine ⟨by omega, ?_⟩
  · rw [if_pos (by omega)]
  · rw [if_neg (by omega), if_pos (by omega)]
  · rw [if_neg (by omega), if_neg (by omega), if_pos (by omega)]
  · rw [if_neg (by omega), if_neg (by omega), if_neg (by omega)]

theorem State.shelfChosen_of_resolve (s : State) (m : MoveRecord) (dest : Location) (h : s.resolve m = .at dest) :
    ShelfChosen s m dest := by
  intro k i r c hi hr hn hd
  simp only [State.resolve, k, hi, Option.bind_some, hr, hn] at h
  split at h
  · next d e =>
    cases h; cases hd
    exact ⟨List.mem_of_find?_eq_some e, by simpa using List.find?_some e⟩
  · cases h

theorem State.cellState_congr (h : t.retained = s.retained) (c : Nat) : t.cellState c = s.cellState c := by
  unfold State.cellState State.homeReel
  simp only [State.findReel_congr h, State.reel?_congr h]

theorem InRange.takeLoad {m : MoveRecord} {dest : Location} (h : InRange p s) (c : ShelfChosen s m dest) :
    InRange p (s.takeLoad m dest) := by
  unfold State.takeLoad
  split
  · exact h.congr
  · next i e =>
    dsimp only
    refine InRange.congr (s := s.updReel i _) ?_
    cases hr : s.reel? i with
    | none => rw [s.updReel_none i _ hr]; exact h
    | some r =>
      rw [s.updReel_some i _ r hr]
      split
      · next d hk hn =>
        obtain ⟨hd, hf⟩ := c hk i r d e hr hn rfl
        obtain ⟨lt, z⟩ := zoneOfCell_of_mem _ _ hd
        refine h.of_registry fun g => g.rehome hr (fun j x _ hx => s.home_ne_of_free d hf j x hx) ?_ rfl rfl
        have x := (g.records i r hr).moved .carriage
        exact ⟨x.length, x.passLimit, x.acid, fun a ha => Option.some.inj ha ▸ ⟨lt, z⟩, x.passes⟩
      · exact h.setReel hr

theorem InRange.startMove {before after : List MoveRecord} {m : MoveRecord} {dest : Location} (h : InRange p s)
    (c : ShelfChosen s m dest) : InRange p (s.startMove before after m dest) := by
  unfold State.startMove
  refine InRange.toLift (InRange.takeLoad (InRange.tellStart (InRange.reservePlace (InRange.reservePlace ?_))) ?_)
  · exact ⟨{ h.settings with counter := nextMoveNumber_range _ }, h.planes, fun x => (h.registry x).of_reels rfl⟩
  · intro k i r d hi hr hn hd
    have same : ∀ x : State, (((x.reservePlace m.source).reservePlace dest).tellStart m).retained = x.retained := by
      intro x
      unfold State.tellStart State.reservePlace
      split <;> split <;> split <;> simp
    rw [State.reel?_congr (same _)] at hr
    rw [State.cellState_congr (same _)]
    exact c k i r d hi hr hn hd

theorem InRange.arbitrate {before l : List MoveRecord} (h : InRange p s) : InRange p (s.arbitrate before l) := by
  induction l generalizing s before with
  | nil => exact h.congr
  | cons m l ih =>
    unfold State.arbitrate
    split
    · split
      · next e => exact h.startMove (s.shelfChosen_of_resolve m _ e)
      · exact ih h
      · exact ih h.raise
    · exact ih h

theorem InRange.liftArbiter (h : InRange p s) : InRange p s.liftArbiter := by
  unfold State.liftArbiter
  split
  · exact h.arbitrate
  · exact h

theorem InRange.settle (h : InRange p s) : InRange p s.settle := h.followDwell.announceAll.liftArbiter

theorem InRange.endAtDestination {m : MoveRecord} {dest : Location} (h : InRange p s) :
    InRange p (s.endAtDestination m dest) := by
  unfold State.endAtDestination
  split
  · exact h.updReel.placeAt
  · exact h.placeAt
  · dsimp only
    split
    · exact h.freePlace
    · split
      · exact h.freePlace.enterChamber.canArrived
      · exact h.freePlace.canArrived
  · exact h.updReel.placeAt.endReservation
  · exact h.placeAt.endReservation
  · exact h.moveReel.freePlace
  · exact h.freePlace

theorem InRange.endAtSource {m : MoveRecord} {dest : Location} (h : InRange p s) : InRange p (s.endAtSource m dest) := by
  unfold State.endAtSource
  split
  · exact h.moveReel.freePlace
  · exact h.freePlace
  · exact h.moveReel.placeAt.endReservation
  · exact h.placeAt.endReservation
  · dsimp only
    split
    · exact h.freePlace
    · split
      · exact h.freePlace.enterChamber.canArrived
      · exact h.freePlace.canArrived
  · exact h.moveReel.placeAt
  · exact h.placeAt

theorem InRange.completeMove {m : MoveRecord} (h : InRange p s) : InRange p (s.completeMove m) := by
  unfold State.completeMove
  dsimp only
  split
  · exact InRange.raise (InRange.congr h.endAtSource)
  · exact InRange.raise (InRange.congr h.endAtDestination)

theorem InRange.haltMove {c : HaltCause} (h : InRange p s) : InRange p (s.haltMove c) :=
  InRange.raise h.congr

theorem InRange.haltIdle {c : HaltCause} (h : InRange p s) : InRange p (s.haltIdle c) := InRange.raise (InRange.congr h)

theorem InRange.redirect {m : MoveRecord} {x : MoveTarget} (h : InRange p s) : InRange p (s.redirect m x) :=
  InRange.toLift h.congr

theorem InRange.loseCarried (h : InRange p s) : InRange p s.loseCarried := by
  unfold State.loseCarried
  split
  · exact h.loseReel
  · exact h

end Sys2Proof.Machine
end

section
/-!
PROOFS. What is in range stays in range under captures and lanes, the frame store, the work orders and the delivery unit.
-/

-- One proof after another, as in the model's tests: each thread's stack counts against the memory limit.
set_option Elab.async false

namespace Sys2Proof.Machine

variable {p : Prop} {s t : State} {st : StationId}

/-! ### Captures, prerolls and recovery -/

theorem InRange.beginPassIfFirst (h : InRange p s) : InRange p (s.beginPassIfFirst st) := by
  unfold State.beginPassIfFirst
  split
  · exact h
  · split
    · exact h
    · exact InRange.beginPass h.updOrder

theorem InRange.beginCapture {f : Nat} (h : InRange p s) : InRange p (s.beginCapture st f) := by
  unfold State.beginCapture
  split
  · exact h.updSlot.setCarry.updStation.beginPassIfFirst
  · exact h

theorem InRange.preroll (h : InRange p s) : InRange p (s.preroll st) := by
  unfold State.preroll
  split
  · exact h.toStation.updStation
  · exact h

theorem InRange.takeFallback (h : InRange p s) : InRange p (s.takeFallback st) := by
  unfold State.takeFallback
  split
  · exact h
  · dsimp only
    split
    · exact h.updStation.updRunning.raise
    · exact h.updStation.raise

theorem InRange.offerFrame (h : InRange p s) : InRange p (s.offerFrame st) := by
  unfold State.offerFrame
  split
  · exact h
  · split
    · exact h.updSource.beginCapture
    · exact h.updSource.raise

theorem InRange.recover (h : InRange p s) : InRange p (s.recover st) := by
  unfold State.recover
  dsimp only
  split
  · exact h
  · split
    · split
      · exact h
      · split
        · split
          · exact h.beginCapture.updStation
          · exact h.preroll
        · exact h.takeFallback.preroll
    · split
      · exact h.offerFrame
      · exact h

theorem InRange.offerSlots (h : InRange p s) : InRange p s.offerSlots := h.foldl .recover _

/-! ### Lanes -/

theorem Lane.unmark_tenure (l : Lane) (hl : ∀ x, l.hold = some x → x.tenure ≤ 255) :
    ∀ x, l.unmark.hold = some x → x.tenure ≤ 255 := by
  intro x e
  obtain ⟨y, hy, rfl⟩ := Option.map_eq_some_iff.mp e
  split <;> exact hl y hy

theorem Lane.mark_tenure (l : Lane) (hl : ∀ x, l.hold = some x → x.tenure ≤ 255) :
    ∀ x, l.mark.hold = some x → x.tenure ≤ 255 := by
  intro x e
  obtain ⟨y, hy, rfl⟩ := Option.map_eq_some_iff.mp e
  exact hl y hy

theorem InRange.withdrawMarks (h : InRange p s) : InRange p s.withdrawMarks := by
  unfold State.withdrawMarks
  split
  · exact (h.setLane (l := .a) (Lane.unmark_tenure _ (h.settings.tenures .a))).setLane (l := .b)
      (Lane.unmark_tenure _ (h.settings.tenures .b))
  · exact h

theorem InRange.markExpired (h : InRange p s) : InRange p s.markExpired := by
  unfold State.markExpired
  split
  · exact h.setLane (l := .a) (Lane.mark_tenure _ (h.settings.tenures .a))
  · split
    · exact h.setLane (l := .b) (Lane.mark_tenure _ (h.settings.tenures .b))
    · exact h

/-- A change of the wait list alone. -/
theorem InRange.setWaitList {l : List StationId} (h : InRange p s) :
    InRange p { s with lanes := { s.lanes with waitList := l } } := h.congr

/-- A lane is granted with its station's tenure setting (R90). -/
theorem InRange.grantLane (h : InRange p s) : InRange p s.grantLane := by
  unfold State.grantLane
  split
  · next l st rest _ _ =>
    refine InRange.recover (InRange.withdrawMarks (InRange.setWaitList (h.setLane fun x e => ?_)))
    cases e
    exact (h.settings.stations st).2.2.2
  · exact h

theorem InRange.grantLanes (h : InRange p s) : InRange p s.grantLanes := h.grantLane.grantLane

theorem InRange.joinWaitList (h : InRange p s) : InRange p (s.joinWaitList st) := by
  unfold State.joinWaitList
  split
  · exact h.setWaitList.markExpired.grantLanes
  · exact h

theorem InRange.leaveWaitList (h : InRange p s) : InRange p (s.leaveWaitList st) := h.setWaitList.withdrawMarks

theorem InRange.releaseLane {l : LaneId} (h : InRange p s) : InRange p (s.releaseLane l) := h.freeLane.grantLanes

theorem InRange.leaveLanes (h : InRange p s) : InRange p (s.leaveLanes st) := by
  unfold State.leaveLanes
  dsimp only
  split
  · exact h.leaveWaitList.releaseLane
  · exact h.leaveWaitList

theorem InRange.abandonQuietly (h : InRange p s) : InRange p (s.abandonQuietly st) := by
  unfold State.abandonQuietly
  refine InRange.updStation ?_
  split
  · exact h
  · split
    · exact h
    · exact h.setCarry.updSlot

theorem InRange.abandon (h : InRange p s) : InRange p (s.abandon st) := by
  unfold State.abandon
  split
  · exact h.abandonQuietly.offerSlots
  · exact h

theorem InRange.markStop {x : StopPending} (h : InRange p s) : InRange p (s.markStop st x) := by
  unfold State.markStop
  dsimp only
  split
  · exact h
  · split
    · exact h.updStation.toStation.updStation.leaveWaitList
    · exact h.updStation.leaveWaitList

theorem InRange.feed (h : InRange p s) : InRange p (s.feed st) := by
  have k : InRange p ((s.updSource fun p => { p with state := .feeding }).joinWaitList st) := h.updSource.joinWaitList
  unfold State.feed
  dsimp only
  split
  · exact k.offerFrame
  · exact k

theorem InRange.haltIfDone (h : InRange p s) : InRange p (s.haltIfDone st) := by
  unfold State.haltIfDone
  dsimp only
  split
  · exact h
  · split
    · split
      · exact h.updStation.updSource.leaveLanes.feed
      · exact h.updStation.updSource.leaveLanes
    · exact h.updStation.leaveLanes

theorem InRange.giveStop {x : StopPending} (h : InRange p s) : InRange p (s.giveStop st x) := by
  unfold State.giveStop
  split
  · exact h.markStop.haltIfDone
  · exact h

theorem InRange.starve {f : Nat} (h : InRange p s) : InRange p (s.starve st f) := by
  unfold State.starve
  dsimp only
  split
  · exact h.updStation.raise.joinWaitList
  · exact h.updStation.toStation.updStation.raise.joinWaitList

/-! ### The frame store -/

theorem InRange.setStore {v : FrameStore} (h : InRange p s) (slots : v.slots = s.store.slots := by rfl) :
    InRange p { s with store := v } := h.congr (slots := slots)

theorem InRange.setEngine {e : RepairEngine} (h : InRange p s) (settings : e.settings = s.engine.settings := by rfl) :
    InRange p { s with engine := e } := h.congr (detector := settings)

theorem InRange.setDelivery {d : Delivery} (h : InRange p s) : InRange p { s with delivery := d } := h.congr

theorem InRange.startAnalysis (h : InRange p s) : InRange p s.startAnalysis := by
  unfold State.startAnalysis
  split
  · dsimp only
    split
    · exact h.setStore
    · split
      · split
        · exact h.setStore
        · exact h.setStore.updSlot.setEngine
      · exact h.setStore
  · exact h

theorem InRange.testEligible {k : Nat} (h : InRange p s) : InRange p (s.testEligible k) := by
  unfold State.testEligible
  split
  · exact h
  · split
    · exact h.updSlot.setStore.startAnalysis
    · exact h

theorem InRange.storeCapture {c : Capture} {x : Planes} (h : InRange p s) (wf : x.wf = true) :
    InRange p (s.storeCapture c x) := by
  unfold State.storeCapture
  dsimp only
  refine InRange.testEligible ?_
  split
  · refine InRange.testEligible (InRange.updSlot (h.updSlot fun _ _ => wf) fun x hx => ?_)
    split <;> exact hx
  · exact h.updSlot fun _ _ => wf

theorem InRange.endOfCapture (h : InRange p s) : InRange p (s.endOfCapture st) := by
  unfold State.endOfCapture
  split
  · exact h
  · split
    · exact h
    · split
      · exact h.updSlot.testEligible
      · exact h

theorem InRange.sensorRecord {f : Nat} {k : DefectKind} (h : InRange p s) : InRange p (s.sensorRecord st f k) := by
  unfold State.sensorRecord
  split
  · exact h
  · split
    · exact h
    · split
      · exact h
      · split
        · exact h.updSlot.raise
        · exact h.updSlot

@[simp] theorem Slot.closed_planes (x : Slot) : x.closed.planes = x.planes := by unfold Slot.closed; split <;> rfl

theorem InRange.closeSlots {freed : Bool} (h : InRange p s) : InRange p (s.closeSlots st freed) := by
  have k : ∀ q, InRange p { s with store :=
      { slots := s.store.slots.map (fun x => if x.order = some st then x.closed else x), queue := q } } := fun q =>
    { settings := { h.settings with }
      planes := fun k x e => by
        simp only [State.slot?, Vector.getElem?_map, Option.map_eq_some_iff] at e
        obtain ⟨y, hy, rfl⟩ := e
        split <;> simpa using h.planes k y hy
      registry := fun x => (h.registry x).of_reels rfl }
  unfold State.closeSlots
  dsimp only
  split
  · exact (k _).offerSlots
  · exact k _

/-! ### Work orders -/

theorem InRange.closeStation (h : InRange p s) : InRange p (s.closeStation st) := by
  unfold State.closeStation
  dsimp only
  split
  · exact h.updStation.toStation.updStation.leaveLanes
  · split
    · exact h.updStation.updStation.updSource.leaveLanes
    · exact h.updStation

theorem InRange.closeOrder {e : OrderEnd} {quiet freed : Bool} (h : InRange p s) :
    InRange p (s.closeOrder st e quiet freed) := by
  have k : InRange p ((s.updOrder st fun w => { w with state := .closed, ending := e }).closeSlots st freed) :=
    h.updOrder.closeSlots
  unfold State.closeOrder
  dsimp only
  split <;> split
  · exact k.completePass.closeStation
  · exact k.closeStation
  · exact k.completePass.closeStation.raise
  · exact k.closeStation.raise

theorem InRange.abortOrder {quiet : Bool} (h : InRange p s) : InRange p (s.abortOrder st quiet) := by
  unfold State.abortOrder
  split
  · exact h.abandonQuietly.closeOrder
  · exact h

theorem InRange.closingTest (h : InRange p s) : InRange p (s.closingTest st) := by
  unfold State.closingTest
  dsimp only
  split
  · exact h
  · split
    · exact h.closeOrder
    · exact h

theorem InRange.afterCapture (h : InRange p s) : InRange p (s.afterCapture st) := by
  unfold State.afterCapture
  split
  · exact h.endOfCapture.closingTest
  · exact h

theorem InRange.drain {e : OrderEnd} (h : InRange p s) : InRange p (s.drain st e) := h.updOrder

theorem InRange.captureProgress {f : Nat} (h : InRange p s) : InRange p (s.captureProgress st f) := by
  unfold State.captureProgress
  split
  · exact h
  · next b _ =>
    dsimp only
    split <;> split
    · exact h.updBody.drain.markStop
    · exact h.updBody
    · split
      · exact h.updBody.drain.markStop.raise.updOrder.markStop
      · exact h.updBody.drain.markStop.raise
    · split
      · exact h.updBody.raise.updOrder.markStop
      · exact h.updBody.raise

theorem InRange.stationAction (h : InRange p s) : InRange p (s.stationAction st) := by
  unfold State.stationAction
  dsimp only
  split
  · exact h.haltIfDone
  · split
    · exact h.recover
    · split
      · split
        · exact h.takeFallback.preroll
        · exact h.takeFallback.toStation.preroll
      · split
        · exact h.toStation
        · split
          · exact h.offerFrame
          · exact h

theorem InRange.advanceDeliver {f : Nat} (h : InRange p s) : InRange p (s.advanceDeliver st f) := h.updBody

/-! ### Deliveries -/

theorem InRange.setSnapshot {n : Option Snapshot} {d : Delivery} (h : InRange p s) :
    InRange p { s with snapshot := n, delivery := d } := h.congr

/-- The picture message joins the outbound list, and the delivery's own record and snapshot are written. -/
theorem InRange.sendPicture {n : Option Snapshot} {d : Delivery} (h : InRange p s) :
    InRange p (({ s with snapshot := n, delivery := d } : State).updLink (fun l => l.place .picture)) :=
  h.setSnapshot.updLink (by rw [Link.place_clock]; exact h.settings.clock)

theorem InRange.startDelivery {b : OrderBody} {i : Item} (h : InRange p s) : InRange p (s.startDelivery st b i) := by
  unfold State.startDelivery
  dsimp only
  split <;> split
  · exact InRange.setDelivery h.updSlot.sendPicture.advanceDeliver.closingTest
  · exact h.updSlot.sendPicture.advanceDeliver.closingTest
  · exact InRange.setDelivery h.sendPicture.advanceDeliver.closingTest
  · exact h.sendPicture.advanceDeliver.closingTest

theorem InRange.deliveryArbiter (h : InRange p s) : InRange p s.deliveryArbiter := by
  unfold State.deliveryArbiter
  split
  · split
    · exact h
    · split
      · exact h.startDelivery
      · exact h
  · exact h

theorem InRange.arbiterAtStart (h : InRange p s) : InRange p (s.arbiterAtStart st) := by
  unfold State.arbiterAtStart
  split
  · exact h.deliveryArbiter
  · exact h

theorem InRange.headLeaves {next : State → State} (h : InRange p s) (k : ∀ {t}, InRange p t → InRange p (next t)) :
    InRange p (s.headLeaves next) := by
  have m : InRange p (next (s.updLink (·.headSent))) := k (h.updLink (by rw [Link.headSent_clock]; exact h.settings.clock))
  unfold State.headLeaves
  dsimp only
  split
  · exact m.deliveryArbiter
  · exact m

end Sys2Proof.Machine
end

section
/-!
PROOFS. What is in range stays in range under the reports of the stations and the requests to the stations, the work orders
and the picture blocks.
-/

-- One proof after another, as in the model's tests: each thread's stack counts against the memory limit.
set_option Elab.async false

namespace Sys2Proof.Machine

variable {p : Prop} {s t : State} {st : StationId}

/-! ### Station requests -/

/-- The state of an answer with a reply is the state the reply is given in. -/
theorem InRange.answered {b : ReplyBody} (h : InRange p s) : InRange p ((s, b) : Answered).1 := h

theorem InRange.doneEmpty (h : InRange p s) : InRange p s.doneEmpty.1 := h

theorem clampNat_range {lo hi v : Nat} (h : lo ≤ hi) : lo ≤ clampNat lo hi v ∧ clampNat lo hi v ≤ hi := by
  unfold clampNat
  split
  · exact ⟨Nat.le_refl _, h⟩
  · split <;> omega

/-- A field that a request names is clamped into its range, and one that it does not name stays. -/
theorem clamped_range {lo hi old : Nat} (o : Option Nat) (h : lo ≤ hi) (k : lo ≤ old ∧ old ≤ hi) :
    lo ≤ (o.map (clampNat lo hi)).getD old ∧ (o.map (clampNat lo hi)).getD old ≤ hi := by
  cases o with
  | none => exact k
  | some v => exact clampNat_range h

theorem InRange.setStation {n : Nat} {filter tenure : Option Nat} (h : InRange p s) :
    InRange p (s.setStation n filter tenure).1 := by
  unfold State.setStation
  split
  · exact h
  · refine InRange.answered (h.updStationSettings fun t k => ?_)
    obtain ⟨f1, f2, t1, t2⟩ := k
    have f := clamped_range filter (lo := 1) (hi := 15) (by decide) ⟨f1, f2⟩
    have t := clamped_range tenure (lo := 1) (hi := 255) (by decide) ⟨t1, t2⟩
    exact ⟨f.1, f.2, t.1, t.2⟩

theorem InRange.freeSource (h : InRange p s) : InRange p (s.freeSource st) := h.updSource

theorem InRange.reverifyIn (h : InRange p s) : InRange p (s.reverifyIn st) := by
  unfold State.reverifyIn
  split
  · exact h.setCustody
  · exact h

theorem InRange.rediscover (h : InRange p s) : InRange p (s.rediscover st) :=
  InRange.reverifyIn (InRange.freeSource (InRange.updStation h.toStation.toStation))

theorem InRange.stationReset {n : Nat} (h : InRange p s) : InRange p (s.stationReset n).1 := by
  unfold State.stationReset
  split
  · exact h
  · exact h.abortOrder.leaveLanes.rediscover

theorem InRange.loopbackOn {n : Nat} (h : InRange p s) : InRange p (s.loopbackOn n).1 := by
  unfold State.loopbackOn
  split
  · exact h
  · split
    · exact h
    · exact h.toStation.updStation.updSource.doneEmpty

theorem InRange.loopbackOff {n : Nat} (h : InRange p s) : InRange p (s.loopbackOff n).1 := by
  unfold State.loopbackOff
  split
  · exact h
  · split
    · exact h
    · exact h.freeSource.updStation.doneEmpty

theorem InRange.releaseNow {l : LaneId} (h : InRange p s) : InRange p (s.releaseNow l st) := by
  unfold State.releaseNow
  split
  · exact h
  · exact h.releaseLane.joinWaitList

theorem InRange.forceRelease {n : Nat} (h : InRange p s) : InRange p (s.forceRelease n).1 := by
  unfold State.forceRelease
  split
  · exact h
  · next l _ =>
    split
    · exact h
    · next x e =>
      split
      · exact h
      · exact InRange.releaseNow (h.setLane fun y k => Option.some.inj k ▸ h.settings.tenures l x e)

/-! ### Heartbeat and discovery -/

theorem InRange.raiseLost (h : InRange p s) : InRange p (s.raiseLost st) := h.raise

theorem InRange.heartbeatFailed (h : InRange p s) : InRange p (s.heartbeatFailed st) := by
  unfold State.heartbeatFailed
  split
  · exact h.updStation
  · exact InRange.raiseLost (InRange.updStation h.abortOrder.freeSource.leaveLanes)
  · exact InRange.afterCapture (InRange.pauseOrder (InRange.leaveLanes (InRange.abandon (InRange.raiseLost h.updStation))))

theorem InRange.discover (h : InRange p s) : InRange p (s.discover st) := h.toStation.updStation

theorem InRange.attached (h : InRange p s) : InRange p (s.attached st) := by
  unfold State.attached
  split
  · exact h
  · exact h.discover
  · exact h.discover
  · exact h.discover
  · exact h.heartbeatFailed.discover

theorem InRange.discoveryExpired (h : InRange p s) : InRange p (s.discoveryExpired st) :=
  h.updStation fun t => by split <;> exact ⟨rfl, rfl⟩

theorem InRange.heartbeatTaken (h : InRange p s) : InRange p (s.heartbeatTaken st) :=
  h.updStation fun t => by split <;> exact ⟨rfl, rfl⟩

theorem InRange.heartbeatExpired (h : InRange p s) : InRange p (s.heartbeatExpired st) := by
  unfold State.heartbeatExpired
  dsimp only
  split
  · exact h.heartbeatFailed
  · exact h

theorem InRange.foundCan {threaded : Bool} (h : InRange p s) : InRange p (s.foundCan st threaded) :=
  InRange.reverifyIn h.updStation

theorem InRange.foundEmpty (h : InRange p s) : InRange p (s.foundEmpty st) := by
  unfold State.foundEmpty
  split
  · exact h.abortOrder.loseReel.updStation
  · exact h.updStation

theorem InRange.identTaken {f : IdentFields} (h : InRange p s) : InRange p (s.identTaken st f) := by
  unfold State.identTaken
  split
  · exact h
  · dsimp only
    split
    · exact InRange.foundCan (InRange.raise h.updStation)
    · exact InRange.foundEmpty (InRange.raise h.updStation)

/-! ### Chamber, film and custody -/

theorem InRange.canGone (h : InRange p s) : InRange p (s.canGone st) := by
  unfold State.canGone
  dsimp only
  split
  · exact h.toStation.abortOrder.loseReel.updStation.leaveLanes
  · exact h.toStation.abortOrder.updStation.leaveLanes

theorem InRange.canSensed {present : Bool} (h : InRange p s) : InRange p (s.canSensed st present) := by
  unfold State.canSensed
  dsimp only
  split
  · exact h
  · split
    · exact h.updStation
    · split
      · exact h.updStation.canGone
      · exact h.updStation

theorem InRange.readTaken {f : Station → Station} (h : InRange p s)
    (keeps : ∀ t, (f t).filterSetting = t.filterSetting ∧ (f t).tenure = t.tenure := by exact fun _ => ⟨rfl, rfl⟩) :
    InRange p (s.readTaken st f) := by
  unfold State.readTaken
  dsimp only
  split
  · exact h
  · split
    · exact h.updStation keeps
    · exact (h.updStation keeps).evaluateCustody

theorem InRange.tagTaken {tag : CanTag} (h : InRange p s) : InRange p (s.tagTaken st tag) := h.readTaken

theorem InRange.markTaken {mark : HeadMark} (h : InRange p s) : InRange p (s.markTaken st mark) := h.readTaken

theorem InRange.threadedTaken (h : InRange p s) : InRange p (s.threadedTaken st) := by
  unfold State.threadedTaken
  dsimp only
  refine h.updStation fun t => ?_
  split
  · exact ⟨rfl, rfl⟩
  · split <;> exact ⟨rfl, rfl⟩

theorem InRange.doubt (h : InRange p s) : InRange p (s.doubt st) := by
  unfold State.doubt
  split
  · exact h.reverifyIn
  · exact h

theorem InRange.filmOut (h : InRange p s) : InRange p (s.filmOut st) := by
  unfold State.filmOut
  dsimp only
  split
  · exact h.toStation.pauseOrder.updStation.doubt
  · exact h.updStation.doubt

theorem InRange.unthreadedTaken (h : InRange p s) : InRange p (s.unthreadedTaken st) := by
  unfold State.unthreadedTaken
  split
  · exact h.updStation
  · exact h.filmOut
  · exact h.filmOut
  · exact h.filmOut
  · exact h.filmOut
  · exact h

theorem InRange.acidTaken {v : Int} (h : InRange p s) : InRange p (s.acidTaken st v) := by
  unfold State.acidTaken
  dsimp only
  split
  · exact h
  · split
    · exact h.recordReading
    · exact h

/-! ### The running pass -/

theorem InRange.atSpeedTaken {n : Nat} (h : InRange p s) : InRange p (s.atSpeedTaken st n) := by
  unfold State.atSpeedTaken
  split
  · exact h
  · exact h.updStation.joinWaitList

theorem InRange.reposition (h : InRange p s) : InRange p (s.reposition st) := by
  unfold State.reposition
  split
  · exact h.preroll
  · exact h.toStation.preroll

theorem InRange.judgeGate {f : Nat} (h : InRange p s) : InRange p (s.judgeGate st f) := by
  unfold State.judgeGate
  dsimp only
  split
  · exact h
  · split
    · exact h
    · split
      · split
        · exact h.toStation
        · exact h
      · split
        · split
          · exact h.beginCapture
          · exact h.starve
        · exact h.reposition

theorem InRange.gateTaken {n : Nat} (h : InRange p s) : InRange p (s.gateTaken st n) := by
  unfold State.gateTaken
  split
  · exact h
  · split
    · exact h
    · exact h.updStation.judgeGate

theorem InRange.rewoundTaken (h : InRange p s) : InRange p (s.rewoundTaken st) :=
  h.updStation fun t => by split <;> exact ⟨rfl, rfl⟩

theorem InRange.addTear (h : InRange p s) : InRange p (s.addTear st) := by
  unfold State.addTear
  split
  · exact h.updRunning
  · exact h

theorem InRange.tearFound {f : Option Nat} (h : InRange p s) : InRange p (s.tearFound st f) := by
  unfold State.tearFound
  split
  · exact h.addTear
  · split
    · exact h
    · exact h.updStation.addTear.sensorRecord

theorem InRange.tearTaken {n : Nat} (h : InRange p s) : InRange p (s.tearTaken st n) := by
  unfold State.tearTaken
  dsimp only
  split
  · split
    · exact h
    · exact h.tearFound
  · exact h

theorem InRange.spliceTaken {n : Nat} (h : InRange p s) : InRange p (s.spliceTaken st n) := by
  unfold State.spliceTaken
  split
  · exact h
  · split
    · exact h.applySplice.sensorRecord
    · exact h

theorem Station.fallBack_settings (t : Station) (v : Int) :
    (t.fallBack v).filterSetting = t.filterSetting ∧ (t.fallBack v).tenure = t.tenure := by
  unfold Station.fallBack
  split
  · exact ⟨rfl, rfl⟩
  · split <;> exact ⟨rfl, rfl⟩

theorem InRange.intervalAccepted {i : Nat} {v : Int} (h : InRange p s) : InRange p (s.intervalAccepted st i v) := by
  unfold State.intervalAccepted
  dsimp only
  split
  · exact h.updStation
  · exact InRange.updStation (InRange.updRunning h.updStation) fun t => t.fallBack_settings _

theorem InRange.leadingEdge {i pitch x : Nat} (h : InRange p s) : InRange p (s.leadingEdge st i pitch x) := by
  unfold State.leadingEdge
  dsimp only
  split
  · exact h.updStation
  · split
    · exact h
    · exact h.updStation.intervalAccepted
    · exact h.updStation.tearFound

theorem InRange.perfTaken {f : PerfFields} (h : InRange p s) : InRange p (s.perfTaken st f) := by
  unfold State.perfTaken
  dsimp only
  split
  · exact h
  · split
    · exact h.updStation
    · split
      · exact h.updStation
      · exact h.updStation.foldl .leadingEdge _

theorem InRange.breakTaken (h : InRange p s) : InRange p (s.breakTaken st) := by
  unfold State.breakTaken
  dsimp only
  split
  · exact h
  · exact h.toStation.updStation.abandon.leaveLanes.pauseOrder.reverifyIn.updStation.raise.afterCapture

theorem InRange.seizeTaken {names : List Byte} (h : InRange p s) : InRange p (s.seizeTaken st names) := by
  unfold State.seizeTaken
  dsimp only
  split
  · exact h
  · split
    · exact h.updStation
    · exact h.updStation.toStation.updStation.updSource.abandon.leaveLanes.pauseOrder.raise.afterCapture

/-! ### Work order requests -/

theorem InRange.fillOrder {b : OrderBody} {q : Profile} {l : List Cue} (h : InRange p s) :
    InRange p (s.fillOrder st b q l) := h.updOrder.updStation

theorem InRange.openReel {i first asked : Nat} {q : Profile} {l : List Cue} (h : InRange p s) :
    InRange p (s.openReel st i first asked q l).1 := by
  unfold State.openReel
  split
  · exact h
  · dsimp only
    repeat' split
    iterate 6 exact h
    · exact h.raise
    · exact h.fillOrder.updReel

theorem InRange.openLoopback {n : Nat} {q : Profile} {l : List Cue} (h : InRange p s) :
    InRange p (s.openLoopback st n q l).1 := by
  unfold State.openLoopback
  dsimp only
  repeat' split
  iterate 3 exact h
  exact h.fillOrder

theorem InRange.openOrder {f : OpenFields} (h : InRange p s) : InRange p (s.openOrder f).1 := by
  unfold State.openOrder
  dsimp only
  split
  · exact h
  · split
    · exact h
    · split
      · exact h.openReel
      · exact h.openLoopback

theorem InRange.setCues {n : Nat} {l : List Cue} (h : InRange p s) : InRange p (s.setCues n l).1 := by
  unfold State.setCues
  split
  · exact h
  · split
    · exact h
    · split
      · exact h
      · split
        · exact h
        · exact h.updOrder.doneEmpty

theorem InRange.activate (h : InRange p s) : InRange p (s.activate st) := h.updOrder

theorem InRange.startEmpty (h : InRange p s) : InRange p (s.startEmpty st).1 :=
  h.activate.drain.afterCapture.arbiterAtStart

theorem InRange.startLoopback (h : InRange p s) : InRange p (s.startLoopback st).1 := h.activate.feed

theorem InRange.startReel {r : Reel} (h : InRange p s) : InRange p (s.startReel st r).1 :=
  InRange.arbiterAtStart (InRange.preroll h.activate.takeFallback.updStation)

theorem InRange.start {n : Nat} (h : InRange p s) : InRange p (s.start n).1 := by
  unfold State.start
  split
  · exact h
  · dsimp only
    split
    · exact h
    · split
      · exact h
      · split
        · split
          · exact h
          · split
            · exact h.startEmpty
            · exact h.startLoopback
        · split
          · exact h
          · split
            · exact h
            · split
              · exact h.startEmpty
              · exact h.startReel

theorem InRange.pause {n : Nat} (h : InRange p s) : InRange p (s.pause n).1 := by
  unfold State.pause
  split
  · exact h
  · split
    · exact h.updOrder.giveStop
    · exact h
    · exact h

theorem InRange.stop {n : Nat} (h : InRange p s) : InRange p (s.stop n).1 := by
  unfold State.stop
  split
  · exact h
  · split
    · exact h.drain.giveStop.afterCapture
    · exact h

theorem InRange.abort {n : Nat} (h : InRange p s) : InRange p (s.abort n).1 := by
  unfold State.abort
  split
  · exact h
  · split
    · exact h.abortOrder
    · exact h

/-! ### Requests to the picture blocks -/

theorem InRange.markDefect {n f : Nat} {x : TileSpan} (h : InRange p s) : InRange p (s.markDefect n f x).1 := by
  unfold State.markDefect
  split
  · exact h
  · split
    · exact h
    · split
      · exact h
      · dsimp only
        split
        · exact h
        · split
          · exact h
          · exact h.updSlot

/-- SET DETECTOR clamps what it names, and raises N_max to N_min (R133). -/
theorem InRange.setDetector {f : DetectorFields} (h : InRange p s) : InRange p (s.setDetector f).1 where
  settings := { h.settings with
    detector := by
      obtain ⟨t1, t2, i1, i2, n1, n2, m1, m2⟩ := h.settings.detector
      have t := clamped_range f.t (lo := 16) (hi := 1023) (by decide) ⟨t1, t2⟩
      have i := clamped_range f.ithr (lo := 1) (hi := 255) (by decide) ⟨i1, i2⟩
      have n := clamped_range f.nmin (lo := 1) (hi := 255) (by decide) ⟨n1, n2⟩
      refine ⟨t.1, t.2, i.1, i.2, n.1, n.2, ?_⟩
      have top : (f.nmin.map clampNmin).getD s.engine.settings.nmin ≤ 4096 := Nat.le_trans n.2 (by decide)
      simp only [State.setDetector, Detector.put]
      split
      · exact clampNat_range top
      · exact ⟨Nat.le_max_left _ _, Nat.max_le.mpr ⟨top, m2⟩⟩ }
  planes := h.planes
  registry x := (h.registry x).of_reels rfl

theorem InRange.setKeyframe {f : KeyframeFields} (h : InRange p s) : InRange p (s.setKeyframe f).1 := by
  unfold State.setKeyframe
  split
  · exact h
  · next r e =>
    split
    · exact h
    · split
      · exact h
      · exact h.setReel e

theorem InRange.deleteKeyframe {i k : Nat} (h : InRange p s) : InRange p (s.deleteKeyframe i k).1 := by
  unfold State.deleteKeyframe
  split
  · exact h
  · next r e =>
    split
    · exact h
    · split
      · exact h
      · exact h.setReel e

theorem InRange.clearGradeList {i : Nat} (h : InRange p s) : InRange p (s.clearGradeList i).1 := by
  unfold State.clearGradeList
  split
  · exact h
  · next r e => exact h.setReel e

end Sys2Proof.Machine
end

section
/-!
PROOFS. What is in range stays in range under the requests to the registry, the stacks and the link controller, under the
reports of the lift, and at power-on and power loss.
-/

-- One proof after another, as in the model's tests: each thread's stack counts against the memory limit.
set_option Elab.async false

namespace Sys2Proof.Machine

variable {p : Prop} {s t : State} {st : StationId}

/-! ### Registry requests -/

theorem InRange.identifyAt {l : Location} (h : InRange p s) : InRange p (s.identifyAt l) := by
  unfold State.identifyAt
  split
  · exact h.updPosition
  · exact h

/-- The record that an enrolment fills stands in its ranges: the place it names passed the checks (R3, R4, R29). -/
theorem newReel_inRange (v : Nat) (f : EnrollFields) (enrollable : f.location.enrollable = true)
    (place : s.placeForNew (newReel v f).cls f.location = true) : RecordInRange (newReel v f) where
  length := clampNat_range (by decide)
  passLimit := clamped_range f.passLimit (lo := 1) (hi := 16) (old := 12) (by decide) (by decide)
  acid a e := by
    obtain ⟨x, -, rfl⟩ := Option.map_eq_some_iff.mp e
    exact (clampNat_range (by decide)).2
  home c e := by
    simp only [newReel] at e
    split at e
    · next d hd =>
      cases e
      rw [hd] at enrollable place
      simp only [State.placeForNew, Bool.and_eq_true, beq_iff_eq] at place
      exact ⟨of_decide_eq_true enrollable, place.2⟩
    · cases e
  passes k q e := by simp [newReel] at e

theorem InRange.enrollReel {f : EnrollFields} (h : InRange p s) : InRange p (s.enrollReel f).1 := by
  unfold State.enrollReel
  split
  · exact h
  · next enrollable =>
    split
    · exact h
    · next tag =>
      split
      · exact h
      · next i _ =>
        dsimp only
        split
        · exact h
        · next place =>
          simp only [Bool.not_eq_false] at enrollable place
          have k : InRange p (s.setReel i (some (newReel s.retained.threshold f))) := by
            refine h.of_registry fun g => g.write (newReel_inRange _ f enrollable place) (fun j r _ e => ?_)
              (fun j r c _ e hc => ?_)
            · simp only [Bool.not_eq_true, Option.isSome_eq_false_iff, Option.isNone_iff_eq_none] at tag
              have other : r.tag ≠ f.tag := by simpa using (s.findReel_eq_none_iff _).mp tag j r e
              exact other
            · simp only [newReel] at hc
              split at hc
              · next d hd =>
                cases hc
                rw [hd] at place
                simp only [State.placeForNew, Bool.and_eq_true, beq_iff_eq] at place
                exact s.home_ne_of_free c place.1 j r e
              · cases hc
          split
          · exact k.identifyAt.raise
          · exact k.identifyAt

theorem InRange.amendReel {i : Nat} {f : AmendFields} (h : InRange p s) : InRange p (s.amendReel i f).1 := by
  unfold State.amendReel
  split
  · exact h
  · next r e =>
    dsimp only
    split
    · exact h
    · split
      · exact h
      · have limit : 1 ≤ r.passLimit ∧ r.passLimit ≤ 16 → 1 ≤ (f.passLimit.map clampLimit).getD r.passLimit
            ∧ (f.passLimit.map clampLimit).getD r.passLimit ≤ 16 := clamped_range f.passLimit (by decide)
        have k : InRange p (s.setReel i (some (r.amended s.retained.threshold f))) := by
          unfold Reel.amended
          dsimp only
          split
          · refine h.rehome e limit fun _ x hx => ?_
            cases hx
            exact (clampNat_range (by decide)).2
          · exact h.rehome e limit fun a => a
        split
        · exact k.raise
        · exact k

theorem InRange.locateReel {i : Nat} {l : Location} (h : InRange p s) : InRange p (s.locateReel i l).1 := by
  unfold State.locateReel
  split
  · next c =>
    split
    · exact h
    · next lt =>
      split
      · exact h
      · next r e =>
        split
        · exact h
        · split
          · next ok =>
            obtain ⟨zone, ok⟩ := ok
            refine InRange.doneEmpty (h.of_registry fun g => g.rehome e (fun j x n hx hc => ?_) ?_ rfl rfl)
            · rcases ok with free | own
              · exact s.home_ne_of_free c free j x hx hc
              · exact n (g.homes j i x r c hx e hc own)
            · have k := (g.records i r e).moved (.cell c)
              exact ⟨k.length, k.passLimit, k.acid, fun d hd => Option.some.inj hd ▸ ⟨Nat.lt_of_not_le lt, zone⟩, k.passes⟩
          · exact h
  · next q =>
    split
    · exact h
    · split
      · exact h
      · next r e =>
        split
        · exact h
        · split
          · exact h
          · refine InRange.doneEmpty (InRange.identifyAt (h.setReel e fun x => ?_))
            have k := x.moved (.staging q)
            exact ⟨k.length, k.passLimit, k.acid, k.home, k.passes⟩
  · exact h

theorem InRange.retireReel {i : Nat} (h : InRange p s) : InRange p (s.retireReel i).1 := by
  unfold State.retireReel
  split
  · exact h
  · split
    · exact h
    · split
      · exact InRange.answered h.freeReel
      · exact h

theorem InRange.setSegments {i : Nat} {l : List Segment} (h : InRange p s) : InRange p (s.setSegments i l).1 := by
  unfold State.setSegments
  split
  · exact h
  · next r e =>
    split
    · exact h
    · split
      · exact h
      · exact h.setReel e

theorem InRange.setSegmentMode {i f : Nat} {a : Option RepairMode} {g : Option GradeMode} (h : InRange p s) :
    InRange p (s.setSegmentMode i f a g).1 := by
  unfold State.setSegmentMode
  split
  · exact h
  · next r e =>
    split
    · exact h
    · exact h.setReel e

theorem InRange.setQuarantineThreshold {v : Nat} (h : InRange p s) : InRange p (s.setQuarantineThreshold v).1 :=
  h.setRetained h.settings.dwell (clampNat_range (by decide))

theorem InRange.releaseQuarantine {i : Nat} (h : InRange p s) : InRange p (s.releaseQuarantine i).1 := by
  unfold State.releaseQuarantine
  split
  · exact h
  · next r e =>
    split
    · exact h
    · split
      · exact h
      · split
        · exact h
        · exact h.rehome e id fun a => a

theorem InRange.releaseHold {i : Nat} (h : InRange p s) : InRange p (s.releaseHold i).1 := by
  unfold State.releaseHold
  split
  · exact h
  · next r e => exact h.setReel e

/-! ### Stack requests -/

theorem InRange.setDwell {z : Zone} {v : Nat} (h : InRange p s) : InRange p (s.setDwell z v).1 := by
  unfold State.setDwell
  split
  · exact h
  · next k _ =>
    have v : clampDwell v ≤ 1440 := (clampNat_range (by decide)).2
    obtain ⟨n, a, q, x⟩ := h.settings.dwell
    refine InRange.answered (h.setRetained ?_ h.settings.threshold)
    cases k
    · exact ⟨v, a, q, x⟩
    · exact ⟨n, v, q, x⟩
    · exact ⟨n, a, v, x⟩
    · exact ⟨n, a, q, v⟩

theorem InRange.enqueueMove {m : MoveRecord} (h : InRange p s) : InRange p (s.enqueueMove m).1 := by
  unfold State.enqueueMove
  split
  · exact h.congr
  · exact h

theorem InRange.fetch {i : Nat} (h : InRange p s) : InRange p (s.fetch i).1 := by
  unfold State.fetch
  split
  · exact h
  · split
    · exact h
    · split
      · exact h
      · exact h.enqueueMove

theorem InRange.mount {i n : Nat} {wait : Bool} (h : InRange p s) : InRange p (s.mount i n wait).1 := by
  unfold State.mount
  split
  · exact h
  · split
    · exact h
    · split
      · exact h
      · split
        · split
          · exact h
          · split
            · exact h
            · split
              · exact h.enqueueMove
              · split
                · exact h.enqueueMove
                · exact h
        · exact h

theorem InRange.unmount {n : Nat} (h : InRange p s) : InRange p (s.unmount n).1 := by
  unfold State.unmount
  split
  · exact h
  · split
    · exact h
    · split
      · exact h
      · exact h.enqueueMove

theorem InRange.reshelve {i : Nat} (h : InRange p s) : InRange p (s.reshelve i).1 := by
  unfold State.reshelve
  split
  · exact h
  · split
    · exact h
    · split
      · split
        · exact h
        · exact h.enqueueMove
      · exact h

theorem InRange.cancelMove {n : MoveName} (h : InRange p s) : InRange p (s.cancelMove n).1 := by
  unfold State.cancelMove
  split
  · exact h
  · split
    · exact h
    · exact h.congr

theorem InRange.stopLift (h : InRange p s) : InRange p s.stopLift.1 := by
  unfold State.stopLift
  split
  · exact h.toLift.haltMove
  · exact h.toLift.haltIdle
  · exact h
  · exact h.toLift.endForwarded

theorem InRange.resumeLift (h : InRange p s) : InRange p s.resumeLift.1 := by
  unfold State.resumeLift
  split
  · exact h
  · split
    · exact h.redirect
    · split
      · exact h.liftIdle
      · exact h

theorem InRange.returnLift (h : InRange p s) : InRange p s.returnLift.1 := by
  unfold State.returnLift
  split
  · exact h
  · split
    · exact h.redirect
    · exact h

theorem InRange.liftDirect (h : InRange p s) : InRange p s.liftDirect.1 := by
  unfold State.liftDirect
  split
  · exact InRange.doneEmpty (InRange.raise h.congr)
  · exact h

theorem InRange.liftRelease (h : InRange p s) : InRange p s.liftRelease.1 := by
  unfold State.liftRelease
  split
  · exact h
  · exact h.liftIdle

theorem InRange.pass {c : ForwardedCommand} {r : Option Reason} (h : InRange p s) : InRange p (s.pass c r).1 := by
  unfold State.pass
  split
  · exact h
  · exact h.congr

/-! ### Reports of the lift -/

theorem InRange.liftArrived {n : Nat} (h : InRange p s) : InRange p (s.liftArrived n) := by
  unfold State.liftArrived
  split
  · exact h.completeMove
  · exact h

theorem InRange.moveTimeout (h : InRange p s) : InRange p s.moveTimeout := by
  unfold State.moveTimeout
  split
  · exact h.toLift.haltMove
  · exact h

theorem InRange.liftFaulted (h : InRange p s) : InRange p s.liftFaulted := by
  unfold State.liftFaulted
  split
  · exact h.haltMove
  · exact h.haltIdle
  · exact h
  · exact h.endForwarded.raise

theorem InRange.endForwardedIf {f : ForwardedCommand → Bool} (h : InRange p s) : InRange p (s.endForwardedIf f) := by
  unfold State.endForwardedIf
  split
  · exact h.endForwarded
  · exact h

theorem InRange.pickAt {l : Location} (h : InRange p s) : InRange p (s.pickAt l) := by
  unfold State.pickAt
  dsimp only
  split
  · refine InRange.setCarriage (InRange.freePlace (h.loseCarried.updReel fun _ _ x => ?_))
    have k := x.moved .carriage
    exact ⟨k.length, k.passLimit, k.acid, k.home, k.passes⟩
  · split
    · split
      · exact h.loseCarried.freePlace.setCarriage
      · exact h.loseCarried.setCarriage
    · exact h.loseCarried.setCarriage

theorem InRange.liftPicked {l : Location} (h : InRange p s) : InRange p (s.liftPicked l) := by
  unfold State.liftPicked
  split
  · exact h
  · exact h.endForwardedIf.pickAt

/-- A reel set down at a cell that takes it makes the cell its home: the cell lies in its class's zone and is no other
reel's home (R55). -/
theorem InRange.placeReel {i : Nat} {l : Location} (h : InRange p s) : InRange p (s.placeReel i l) := by
  unfold State.placeReel
  split
  · split
    · exact h.moveReel.placeAt
    · exact h.loseReel
  · next c =>
    split
    · next takes =>
      unfold State.cellTakes at takes
      obtain ⟨r, e, ok⟩ := (Option.any_eq_true _ _).mp takes
      simp only [Bool.and_eq_true, decide_eq_true_eq, beq_iff_eq] at ok
      obtain ⟨⟨⟨lt, zone⟩, -⟩, own⟩ := ok
      rw [s.updReel_some i _ r e]
      refine h.of_registry fun g => g.rehome e (fun j x n hx hc => ?_) ?_ rfl rfl
      · cases hf : s.homeReel c with
        | none => simpa [hc] using (s.findReel_eq_none_iff _).mp hf j x hx
        | some k =>
          simp only [hf, Option.all_some, beq_iff_eq] at own
          obtain ⟨y, hy, home⟩ := s.findReel_registered _ k hf
          exact n ((g.homes j k x y c hx hy hc (by simpa using home)).trans own)
      · have k := (g.records i r e).moved (.cell c)
        exact ⟨k.length, k.passLimit, k.acid, fun d hd => Option.some.inj hd ▸ ⟨lt, zone⟩, k.passes⟩
    · exact h.loseReel
  · exact h.loseReel

theorem InRange.placeUnidentified {l : Location} (h : InRange p s) : InRange p (s.placeUnidentified l) := by
  unfold State.placeUnidentified
  split
  · split
    · exact h.placeAt
    · exact h
  · exact h

theorem InRange.liftPlaced {l : Location} (h : InRange p s) : InRange p (s.liftPlaced l) := by
  unfold State.liftPlaced
  split
  · exact h
  · split
    · exact h
    · exact h.endForwardedIf.placeReel.setCarriage
    · exact h.endForwardedIf.placeUnidentified.setCarriage
    · exact h.endForwardedIf.placeUnidentified.setCarriage

theorem InRange.carriageHalted {b : Bool} (h : InRange p s) : InRange p (s.carriageHalted b) := by
  unfold State.carriageHalted
  split
  · split
    · exact h
    · exact h
    · exact h.setCarriage.raise
  · exact h.loseCarried.setCarriage.liftIdle

theorem InRange.carriageIdle {b : Bool} (h : InRange p s) : InRange p (s.carriageIdle b) := by
  unfold State.carriageIdle
  split
  · exact h.setCarriage.haltIdle
  · exact h

theorem InRange.carriageDirect {b : Bool} (h : InRange p s) : InRange p (s.carriageDirect b) := by
  unfold State.carriageDirect
  dsimp only
  split
  · split
    · exact h.endForwarded
    · exact h.endForwarded.setCarriage
  · exact h.endForwarded.loseCarried.setCarriage

theorem InRange.carriageReport {b : Bool} (h : InRange p s) : InRange p (s.carriageReport b) := by
  have k : InRange p { s with stk := { s.stk with reported := true } } := h.congr
  unfold State.carriageReport
  dsimp only
  split
  · split
    · exact k
    · exact k.carriageHalted
  · exact k.carriageIdle
  · exact k.haltMove
  · exact k.carriageDirect

theorem InRange.dwellMinute {k : Nat} (h : InRange p s) : InRange p (s.dwellMinute k) :=
  h.updPosition fun x hx => by
    split
    · exact Nat.min_le_left _ _
    · exact hx

theorem InRange.resetLift (h : InRange p s) : InRange p s.resetLift := by
  unfold State.resetLift
  split
  · exact h.toLift.haltMove
  · dsimp only
    split
    · exact h.toLift.endForwarded.liftIdle
    · exact h.toLift.endForwarded
  · exact h

theorem InRange.resetStacks (h : InRange p s) : InRange p s.resetStacks := InRange.resetLift h.congr

/-! ### The link controller -/

/-- A fold whose steps leave the clock leaves the clock. -/
theorem Link.foldl_clock {α : Type} (f : Link → α → Link) (step : ∀ l a, (f l a).clock = l.clock) (as : List α) (l : Link) :
    (as.foldl f l).clock = l.clock := by
  induction as generalizing l with
  | nil => rfl
  | cons a as ih => rw [List.foldl_cons, ih, step]

@[simp] theorem Link.withdrawUnreported_clock (l : Link) : l.withdrawUnreported.clock = l.clock :=
  Link.foldl_clock _ (fun l f => by split <;> rfl) _ l

@[simp] theorem Link.placeDue_clock (l : Link) : l.placeDue.clock = l.clock := Link.foldl_clock _ Link.placeNotice_clock _ l

theorem InRange.putMask {m : BitVec 32} (h : InRange p s) : InRange p (s.putMask m) :=
  h.updLink (by rw [Link.withdrawUnreported_clock]; exact h.settings.clock)

theorem InRange.putEnable {b : Bool} (h : InRange p s) : InRange p (s.putEnable b) :=
  h.updLink (by rw [Link.withdrawUnreported_clock]; exact h.settings.clock)

theorem InRange.placeDue (h : InRange p s) : InRange p (s.updLink (·.placeDue)) :=
  h.updLink (by rw [Link.placeDue_clock]; exact h.settings.clock)

theorem InRange.clearAlerts {m : BitVec 32} (h : InRange p s) : InRange p (s.clearAlerts m).1 := by
  refine InRange.answered (h.updLink ?_)
  rw [Link.foldl_clock _ (fun l f => by split <;> rfl)]
  exact h.settings.clock

theorem InRange.setClock {v : Nat} (h : InRange p s) : InRange p (s.setClock v).1 :=
  InRange.answered (h.updLink (clampNat_range (Nat.zero_le 86399)).2)

theorem nextSecond_range (c : Nat) : nextSecond c ≤ 86399 := by
  unfold nextSecond
  split <;> omega

theorem InRange.secondEnds (h : InRange p s) : InRange p s.secondEnds :=
  h.updLink (nextSecond_range _)

/-! ### The suite reset -/

theorem InRange.clearLanes (h : InRange p s) : InRange p s.clearLanes := by
  have k := h.foldl (f := State.abandonQuietly) .abandonQuietly [0, 1, 2, 3]
  exact ⟨{ k.settings with tenures := fun l x e => by cases l <;> cases e }, k.planes, fun x => (k.registry x).of_reels rfl⟩

theorem InRange.resetStation (h : InRange p s) : InRange p (s.resetStation st) := h.abortOrder.toStation.rediscover

theorem InRange.resetSuite {r : RequestHeader} (h : InRange p s) : InRange p (s.resetSuite r) := by
  have k : InRange p ((s.reply r (.done .empty)).updLink (·.afterReset)) := h.reply.updLink h.reply.settings.clock
  unfold State.resetSuite
  dsimp only
  have m := k.clearLanes.foldl (f := State.resetStation) .resetStation [0, 1, 2, 3]
  generalize List.foldl State.resetStation _ _ = x at m ⊢
  exact m.setDelivery.resetStacks

/-! ### Power -/

/-- The part without power stands in its ranges when its retained memory does. -/
theorem InRange.unpowered {m : Retained} {l : List Instr} (threshold : 5 ≤ m.threshold ∧ m.threshold ≤ 30)
    (dwell : m.dwell.n ≤ 1440 ∧ m.dwell.a ≤ 1440 ∧ m.dwell.q ≤ 1440 ∧ m.dwell.p ≤ 1440)
    (registry : p → RegistryInRange (State.unpowered m l)) : InRange p (State.unpowered m l) where
  settings :=
    { threshold := threshold
      dwell := dwell
      stations := fun st => by
        have : (State.unpowered m l).station st = .powerOn := by simp [State.station, State.unpowered]
        rw [this]; decide
      detector := by simp [State.unpowered, RepairEngine.powerOn, Detector.default]
      clock := Nat.zero_le _
      counter := by simp [State.unpowered, Stacks.powerOn]
      staging := fun k x e => by
        simp only [State.position?, State.unpowered, Stacks.powerOn, Vector.getElem?_replicate, Option.ite_none_right_eq_some] at e
        obtain ⟨-, e⟩ := e
        cases e
        exact Nat.zero_le _
      tenures := fun x y e => by cases x <;> cases e }
  planes k x e := by
    simp only [State.slot?, State.unpowered, FrameStore.powerOn, Vector.getElem?_replicate, Option.ite_none_right_eq_some] at e
    obtain ⟨-, e⟩ := e
    cases e
    rfl
  registry := registry

theorem InRange.occupyAt {k : Nat} (h : InRange p s) : InRange p (s.occupyAt k) := by
  unfold State.occupyAt
  split
  · exact h.updPosition
  · exact h

theorem InRange.powerOnPassed (h : InRange p s) : InRange p s.powerOnPassed := by
  have k : InRange p { State.unpowered s.retained.atPowerOn s.pending with powered := true } :=
    InRange.congr (s := State.unpowered s.retained.atPowerOn s.pending)
      (.unpowered h.settings.threshold h.settings.dwell fun x => (h.registry x).atPowerOn rfl)
  have m := k.foldl (f := State.occupyAt) .occupyAt (List.range 8)
  unfold State.powerOnPassed
  dsimp only at m ⊢
  generalize List.foldl State.occupyAt _ _ = x at m ⊢
  split <;> split
  · exact m.raise.setCarriage.raise
  · exact m.setCarriage.raise
  · exact m.raise
  · exact m

theorem InRange.powerOnFailed : InRange p s.powerOnFailed := by
  have k : InRange p { State.unpowered .default s.pending with powered := true } :=
    InRange.congr (s := State.unpowered .default s.pending) (.unpowered (by decide) (by decide) fun _ => .of_empty rfl)
  exact InRange.raise (k.updLink (Nat.zero_le _))

theorem InRange.applyPower (h : InRange p s) : InRange p s.applyPower := by
  unfold State.applyPower
  split
  · exact h.powerOnPassed.settle
  · exact InRange.powerOnFailed.settle

theorem InRange.removePower {b : Bool} (h : InRange p s) : InRange p (s.removePower b) :=
  InRange.unpowered h.settings.threshold h.settings.dwell fun x => (h.registry x).of_reels rfl

end Sys2Proof.Machine
end

section
/-!
PROOFS. What is in range stays in range when LNK takes a request and when something that runs inside the part ends, and so
under every step.
-/

-- One proof after another, as in the model's tests: each thread's stack counts against the memory limit.
set_option Elab.async false

namespace Sys2Proof.Machine

variable {p : Prop} {s t : State} {st : StationId}

/-! ### What only answers -/

@[simp] theorem State.queryShelf_fst (s : State) (n : ShelfName) : (s.queryShelf n).1 = s := by
  unfold State.queryShelf
  split <;> split <;> rfl

@[simp] theorem State.queryOf_fst (s : State) (i : Nat) (f : Reel → Answer) : (s.queryOf i f).1 = s := by
  unfold State.queryOf
  split <;> rfl

@[simp] theorem State.findReelByTag_fst (s : State) (tag : CanTag) : (s.findReelByTag tag).1 = s := by
  unfold State.findReelByTag
  split <;> rfl

@[simp] theorem State.queryStation_fst (s : State) (n : Nat) : (s.queryStation n).1 = s := by
  unfold State.queryStation
  split <;> rfl

@[simp] theorem State.queryOrder_fst (s : State) (n : Nat) : (s.queryOrder n).1 = s := by
  unfold State.queryOrder
  split <;> rfl

@[simp] theorem State.queryStore_fst (s : State) (o : Option Nat) : (s.queryStore o).1 = s := by
  unfold State.queryStore
  split
  · rfl
  · split <;> rfl

@[simp] theorem State.defectAnswer_fst (s : State) (st : StationId) (x : Slot) : (s.defectAnswer st x).1 = s := by
  unfold State.defectAnswer
  split <;> rfl

@[simp] theorem State.queryDefects_fst (s : State) (n f : Nat) : (s.queryDefects n f).1 = s := by
  unfold State.queryDefects
  split
  · rfl
  · split
    · rfl
    · simp

@[simp] theorem State.queryGradeList_fst (s : State) (i : Nat) : (s.queryGradeList i).1 = s := by
  unfold State.queryGradeList
  split <;> rfl

@[simp] theorem State.evaluateGrade_fst (s : State) (i f : Nat) (x : Option (Rgb Nat)) :
    (s.evaluateGrade i f x).1 = s := by
  unfold State.evaluateGrade
  split
  · rfl
  · split <;> rfl

/-! ### Requests at LNK -/

theorem InRange.serve {r : Request} (h : InRange p s) : InRange p (s.serve r).1 := by
  cases r with
  | enrollReel f => exact h.enrollReel
  | amendReel i f => exact h.amendReel
  | locateReel i l => exact h.locateReel
  | retireReel i => exact h.retireReel
  | setSegments i l => exact h.setSegments
  | setSegmentMode i f a g => exact h.setSegmentMode
  | setQuarantineThreshold v => exact h.setQuarantineThreshold
  | releaseQuarantine i => exact h.releaseQuarantine
  | releaseHold i => exact h.releaseHold
  | setDwell z v => exact h.setDwell
  | fetch i => exact h.fetch
  | mount i n wait => exact h.mount
  | unmount n => exact h.unmount
  | reshelve i => exact h.reshelve
  | cancelMove n => exact h.cancelMove
  | stopLift => exact h.stopLift
  | resumeLift => exact h.resumeLift
  | returnLift => exact h.returnLift
  | liftDirect => exact h.liftDirect
  | liftPassGoTo l => exact h.pass
  | liftPassPick l => exact h.pass
  | liftPassPlace l => exact h.pass
  | liftPassPark => exact h.pass
  | liftRelease => exact h.liftRelease
  | setStation n a b => exact h.setStation
  | stationReset n => exact h.stationReset
  | loopbackOn n => exact h.loopbackOn
  | loopbackOff n => exact h.loopbackOff
  | forceRelease n => exact h.forceRelease
  | openWorkOrder f => exact h.openOrder
  | setCues n l => exact h.setCues
  | start n => exact h.start
  | pause n => exact h.pause
  | stop n => exact h.stop
  | abort n => exact h.abort
  | markDefect n f x => exact h.markDefect
  | setDetector f => exact h.setDetector
  | setKeyframe f => exact h.setKeyframe
  | deleteKeyframe i k => exact h.deleteKeyframe
  | clearGradeList i => exact h.clearGradeList
  | setAlertMask m => exact h.putMask
  | setAlertEnable b => exact h.putEnable
  | clearAlerts m => exact h.clearAlerts
  | setClock v => exact h.setClock
  | queryShelf n => exact (s.queryShelf_fst n).symm ▸ h
  | queryReel i => exact (s.queryOf_fst i _).symm ▸ h
  | findReel tag => exact (s.findReelByTag_fst tag).symm ▸ h
  | querySegments i => exact (s.queryOf_fst i _).symm ▸ h
  | queryPassHistory i => exact (s.queryOf_fst i _).symm ▸ h
  | queryStation n => exact (s.queryStation_fst n).symm ▸ h
  | queryWorkOrder n => exact (s.queryOrder_fst n).symm ▸ h
  | queryStore o => exact (s.queryStore_fst o).symm ▸ h
  | queryDefects n f => exact (s.queryDefects_fst n f).symm ▸ h
  | queryGradeList i => exact (s.queryGradeList_fst i).symm ▸ h
  | evaluateGrade i f x => exact (s.evaluateGrade_fst i f x).symm ▸ h
  | listReels => exact h
  | queryStaging => exact h
  | queryLift => exact h
  | queryLanes => exact h
  | queryDetector => exact h
  | queryDelivery => exact h
  | queryAlerts => exact h
  | identify => exact h
  | resetSuite => exact h

/-! The three requests that place their reply themselves (R183, R187). -/

theorem State.takeRequest_resetSuite (s : State) (q : RequestHeader) : s.takeRequest q .resetSuite = s.resetSuite q := rfl

theorem State.takeRequest_setAlertMask (s : State) (q : RequestHeader) (m : BitVec 32) :
    s.takeRequest q (.setAlertMask m) = ((s.putMask m).reply q (.done .empty)).updLink (·.placeDue) := rfl

theorem State.takeRequest_setAlertEnable (s : State) (q : RequestHeader) (b : Bool) :
    s.takeRequest q (.setAlertEnable b) = ((s.putEnable b).reply q (.done .empty)).updLink (·.placeDue) := rfl

theorem InRange.takeRequest {q : RequestHeader} {r : Request} (h : InRange p s) : InRange p (s.takeRequest q r) := by
  by_cases special : Request.special r = true
  · cases r with
    | resetSuite => rw [State.takeRequest_resetSuite]; exact h.resetSuite
    | setAlertMask m => rw [State.takeRequest_setAlertMask]; exact h.putMask.reply.placeDue
    | setAlertEnable b => rw [State.takeRequest_setAlertEnable]; exact h.putEnable.reply.placeDue
    | _ => cases special
  · rw [State.takeRequest_plain s q r (by simpa using special)]
    exact h.serve.settle.reply

theorem InRange.takeOne {q : QueuedRequest} (h : InRange p s) : InRange p (s.takeOne q) := by
  unfold State.takeOne
  split
  · exact h.reply
  · exact h.takeRequest

theorem InRange.takeNext (h : InRange p s) : InRange p s.takeNext := by
  unfold State.takeNext
  split
  · split
    · exact h
    · exact InRange.takeOne (h.updLink h.settings.clock)
  · exact h

theorem InRange.reject {r : Rejection} (h : InRange p s) : InRange p (s.reject r) :=
  InRange.raise (h.updLink h.settings.clock)

theorem InRange.arrive {q : QueuedRequest} (h : InRange p s) : InRange p (s.arrive q) := by
  unfold State.arrive
  split
  · exact InRange.takeNext (h.updLink h.settings.clock)
  · split
    · exact InRange.raise (h.updLink (by rw [Link.place_clock]; exact h.settings.clock))
    · exact h.reject

theorem InRange.request {n : RequestNumber} {r : Request} (h : InRange p s) : InRange p (s.request n r) := h.arrive

theorem InRange.frameArrives {l : List Byte} (h : InRange p s) : InRange p (s.frameArrives l) := by
  unfold State.frameArrives
  split
  · exact h.reject
  · exact h.arrive

theorem InRange.messageSent (h : InRange p s) : InRange p s.messageSent := by
  unfold State.messageSent
  split
  · exact h.emit.headLeaves .takeNext
  · exact h.emit.headLeaves id
  · exact h.emit.headLeaves fun k => k.updLink (by rw [Link.placeNotice_clock]; exact k.settings.clock)
  · exact h.updLink (by rw [Link.transmit_clock]; exact h.settings.clock)
  · exact InRange.deliveryArbiter (h.updLink (by rw [Link.headSent_clock]; exact h.settings.clock))
  · exact h
  · exact h

/-! ### A stored capture and the pattern source -/

theorem State.planesOf_wf (s : State) (c : Capture) (l : List (Nat × Sample)) : (s.planesOf c l).wf = true := by
  unfold State.planesOf
  split
  · exact Planes.blank_wf
  · split
    · exact patternPlanes_wf _
    · exact Planes.captured_wf _ _

/-- A completion takes one from the tenure count (R92, R93). -/
theorem InRange.laneCompletes {l : LaneId} (h : InRange p s) : InRange p (s.laneCompletes l) := by
  unfold State.laneCompletes
  dsimp only
  split
  · exact h.releaseLane
  · refine h.setLane fun x e => ?_
    obtain ⟨y, hy, rfl⟩ := Option.map_eq_some_iff.mp e
    exact Nat.le_trans (Nat.sub_le _ _) (h.settings.tenures l y hy)

theorem InRange.countFrame (h : InRange p s) : InRange p (s.countFrame st) := by
  unfold State.countFrame
  split
  · exact h.updRunning
  · exact h

theorem InRange.captureStored {l : LaneId} {samples : List (Nat × Sample)} (h : InRange p s) :
    InRange p (s.captureStored l samples) := by
  unfold State.captureStored
  split
  · exact h
  · next c _ =>
    have k := (h.storeCapture (c := c) (s.planesOf_wf c samples)).laneCompletes (l := l)
    exact InRange.afterCapture (InRange.joinWaitList (InRange.stationAction (InRange.countFrame (InRange.captureProgress
      k.updStation))))

theorem InRange.intervalEnds (h : InRange p s) : InRange p s.intervalEnds := by
  unfold State.intervalEnds
  split
  · exact h
  · split
    · exact h
    · dsimp only
      split
      · exact h.updSource.offerFrame
      · exact h.updSource

/-! ### The end of an analysis -/

theorem Exam.repaired_wf (e : Exam) (h : e.planes.wf = true) : e.repaired.wf = true := by
  refine Planes.foldl_wf _ (fun x q hx => ?_) _ _ h
  split
  · exact x.write_wf _ _ hx
  · exact hx

theorem InRange.handTiles {n : Nat} (h : InRange p s) : InRange p (s.handTiles st n) := by
  unfold State.handTiles
  split
  · exact h.updRunning
  · exact h

theorem InRange.tellBefore {f : Nat} (h : InRange p s) : InRange p (s.tellBefore st f) := by
  unfold State.tellBefore
  split
  · exact h
  · split
    · exact h.updSlot.offerSlots
    · exact h.updSlot

theorem InRange.tellAfter {f : Nat} (h : InRange p s) : InRange p (s.tellAfter st f) := by
  unfold State.tellAfter
  split
  · exact h
  · exact h.updSlot.testEligible

theorem InRange.raiseDropped {a : Analysis} {x : Slot} {e : Exam} (h : InRange p s) : InRange p (s.raiseDropped a x e) := by
  unfold State.raiseDropped
  split
  · exact h.raise
  · exact h

theorem InRange.analysisReady {a : Analysis} {x : Slot} (h : InRange p s) (wf : x.planes.wf = true) :
    InRange p (s.analysisReady a x) := by
  have k : InRange p ((s.raiseDropped a x (s.examOf a x)).updSlot a.slot (·.repaired (s.examOf a x))) :=
    h.raiseDropped.updSlot fun _ _ => (s.examOf a x).repaired_wf wf
  exact k.handTiles.tellBefore.tellAfter.deliveryArbiter

theorem InRange.analysisEnds (h : InRange p s) : InRange p s.analysisEnds := by
  unfold State.analysisEnds
  split
  · exact h
  · split
    · exact h
    · next x e =>
      dsimp only
      split
      · exact InRange.startAnalysis (InRange.setEngine h.updSlot.offerSlots)
      · exact InRange.startAnalysis (InRange.setEngine (h.analysisReady (h.planes _ x e)))

/-! ### The end of a picture message -/

theorem InRange.endSlot {k : Nat} (h : InRange p s) : InRange p (s.endSlot k) := by
  have m : InRange p (s.updSlot k (·.sent)) := h.updSlot fun x hx => by
    unfold Slot.sent
    split <;> exact hx
  unfold State.endSlot
  dsimp only
  split
  · exact m.offerSlots
  · exact m

theorem InRange.pictureEnds (h : InRange p s) : InRange p s.pictureEnds := by
  have test : ∀ {t : State}, InRange p t →
      InRange p (t.updLink (fun l => { l with outbound := l.outbound ++ [.arbiterTest] })) :=
    fun k => k.updLink k.settings.clock
  unfold State.pictureEnds
  split
  · dsimp only
    split
    · exact (test h.emit.endSlot.setSnapshot).headLeaves id
    · exact (test h.emit.setSnapshot).headLeaves id
  · exact h

/-! ### Every step -/

/-- What a state's update keeps, its event keeps. -/
theorem InRange.event {f : State → State} (h : InRange p s) (k : ∀ {t}, InRange p t → InRange p (f t))
    (e : event f s = .next t) : InRange p t := by
  have quiet : InRange p { s with sent := [] } := h.congr
  have ends : t = if s.powered then (f { s with sent := [] }).settle else s := (Host.Outcome.next.inj e).symm
  rw [ends]
  split
  · exact (k quiet).settle
  · exact h

/-- A command leaves the part in its ranges: power comes or goes, a request arrives at LNK, or something is reported. -/
theorem InRange.exec {c : Instr} (h : InRange p s) (e : exec c s = .next t) : InRange p t := by
  cases c with
  | powerOn => exact Host.Outcome.next.inj e ▸ h.applyPower
  | powerLoss b =>
    have ends : t = if s.powered then s.removePower b else s := (Host.Outcome.next.inj e).symm
    rw [ends]
    split
    · exact h.removePower
    · exact h
  | frameReceived l => exact h.event InRange.frameArrives e
  | outboundMessageSent => exact h.event InRange.messageSent e
  | clockSecondTick => exact h.event InRange.secondEnds e
  | attach st => exact h.event InRange.attached e
  | identReply st f => exact h.event InRange.identTaken e
  | heartbeat st => exact h.event InRange.heartbeatTaken e
  | discoveryTimerExpiry st => exact h.event InRange.discoveryExpired e
  | heartbeatTimerExpiry st => exact h.event InRange.heartbeatExpired e
  | canPresent st b => exact h.event InRange.canSensed e
  | tagRead st tag => exact h.event InRange.tagTaken e
  | headMarkRead st mark => exact h.event InRange.markTaken e
  | acidReading st v => exact h.event InRange.acidTaken e
  | threaded st => exact h.event InRange.threadedTaken e
  | unthreaded st => exact h.event InRange.unthreadedTaken e
  | atSpeed st n => exact h.event InRange.atSpeedTaken e
  | frameAtGate st n => exact h.event InRange.gateTaken e
  | perfInterval st f => exact h.event InRange.perfTaken e
  | tearSense st n => exact h.event InRange.tearTaken e
  | splice st n => exact h.event InRange.spliceTaken e
  | filmBreak st => exact h.event InRange.breakTaken e
  | seize st l => exact h.event InRange.seizeTaken e
  | rewound st => exact h.event InRange.rewoundTaken e
  | captureStored l samples => exact h.event InRange.captureStored e
  | loopbackFrameInterval => exact h.event InRange.intervalEnds e
  | analysisEnd => exact h.event InRange.analysisEnds e
  | pictureMessageEnd => exact h.event InRange.pictureEnds e
  | arrived n => exact h.event InRange.liftArrived e
  | moveTimerExpiry => exact h.event InRange.moveTimeout e
  | liftFault => exact h.event InRange.liftFaulted e
  | picked l => exact h.event InRange.liftPicked e
  | placed l => exact h.event InRange.liftPlaced e
  | positioned => exact h.event InRange.endForwardedIf e
  | carriage b => exact h.event InRange.carriageReport e
  | dwellMinuteTick k => exact h.event InRange.dwellMinute e
  | _ => exact h.event InRange.request e

theorem InRange.step (h : InRange p s) (e : step s = .next t) : InRange p t := by
  unfold Machine.step at e
  split at e
  · exact Host.Outcome.next.inj e ▸ h
  · exact InRange.exec h.congr e

/-- Settles O59: one predicate, in which the registry stands under the condition that it stood in its ranges before the
step, is kept by every update of the model, and so by every command. -/
theorem stepsKeepSettingsRegistryAndPlanes : Obligations.StepsKeepSettingsRegistryAndPlanes := by
  unfold Obligations.StepsKeepSettingsRegistryAndPlanes
  intro s t h e
  obtain ⟨settings, planes⟩ := h
  have k : InRange (RegistryInRange s) t := InRange.step ⟨settings, planes, id⟩ e
  exact ⟨k.settings, k.planes, k.registry⟩

end Sys2Proof.Machine
end

section
/-!
PROOFS. What raising a flag does to the alert word and to the replies that wait, and what the part does by itself at the end
of an event while the lift has nothing to start.
-/

-- One proof after another, as in the model's tests: each thread's stack counts against the memory limit.
set_option Elab.async false

namespace Sys2Proof.Machine

variable {s t u : State}

/-! ### Alert flags -/

/-- Raising a flag sets that flag and leaves every other one (R182). -/
theorem State.flag_raise (s : State) (f g : AlertFlag) (n : Names) :
    (s.raise f n).flag g = (s.flag g || decide (g = f)) := by
  unfold State.flag
  rw [s.raise_word f n, BitVec.getLsbD_or, BitVec.getLsbD_twoPow]
  congr 1
  have lt := g.number.isLt
  by_cases e : g = f
  · simp [e]
  · have : f.number.val ≠ g.number.val := fun k => e (AlertFlag.number_inj g f (Fin.ext k.symm))
    simp [e, this]

/-! ### Replies that wait -/

/-- Taking the head leaves the replies that wait. -/
theorem Link.transmit_replies (l : Link) :
    l.transmit.outbound.filter (·.isReply) = l.outbound.filter (·.isReply) := by
  unfold Link.transmit
  split
  · next f rest e =>
    split <;> simp [e, Outbound.isReply]
  · rfl

theorem Link.place_replies (l : Link) (x : Outbound) :
    (l.place x).outbound.filter (·.isReply) = l.outbound.filter (·.isReply) ++ [x].filter (·.isReply) := by
  unfold Link.place
  rw [Link.transmit_replies, List.filter_append]

theorem Link.placeNotice_replies (l : Link) (f : AlertFlag) :
    (l.placeNotice f).outbound.filter (·.isReply) = l.outbound.filter (·.isReply) := by
  unfold Link.placeNotice
  split
  · rw [Link.place_replies]
    exact List.append_nil _
  · rfl

/-- Raising a flag places no reply. -/
theorem State.raise_replies (s : State) (f : AlertFlag) (n : Names) :
    (s.raise f n).link.outbound.filter (·.isReply) = s.link.outbound.filter (·.isReply) :=
  Link.placeNotice_replies _ f

/-- A link that is ready has no reply waiting (R178). -/
theorem Link.replies_of_ready (l : Link) (h : l.ready = true) : l.outbound.filter (·.isReply) = [] := by
  simpa [Link.ready, List.filter_eq_nil_iff] using h

/-! ### What an event ends with -/

theorem SameWork.refl (s : State) : SameWork s s := ⟨rfl, rfl, rfl, rfl, rfl, rfl, rfl⟩

theorem SameWork.trans (h : SameWork s t) (k : SameWork t u) : SameWork s u :=
  ⟨k.stations.trans h.stations, k.lanes.trans h.lanes, k.orders.trans h.orders, k.store.trans h.store,
    k.engine.trans h.engine, k.snapshot.trans h.snapshot, k.delivery.trans h.delivery⟩

theorem SameSettings.refl (s : State) : SameSettings s s := ⟨rfl, rfl, rfl, rfl, rfl, rfl⟩

theorem SameSettings.trans (h : SameSettings s t) (k : SameSettings t u) : SameSettings s u :=
  ⟨k.queue.trans h.queue, k.mask.trans h.mask, k.enable.trans h.enable, k.rejection.trans h.rejection,
    k.clock.trans h.clock, k.retainedPassed.trans h.retainedPassed⟩

theorem SameSettings.raise (s : State) (f : AlertFlag) (n : Names) : SameSettings s (s.raise f n) := by
  obtain ⟨w, p, o, e⟩ := s.raise_settings f n
  constructor <;> rw [e]

theorem SameStacks.refl (s : State) : SameStacks s s :=
  ⟨fun _ x e => ⟨x, e, rfl, rfl⟩, rfl, rfl, rfl, rfl, rfl, rfl, rfl, rfl⟩

theorem SameStacks.trans (h : SameStacks s t) (k : SameStacks t u) : SameStacks s u where
  positions p x e := by
    obtain ⟨y, hy, ys, yd⟩ := h.positions p x e
    obtain ⟨z, hz, zs, zd⟩ := k.positions p y hy
    exact ⟨z, hz, zs.trans ys, zd.trans yd⟩
  queue := k.queue.trans h.queue
  lift := k.lift.trans h.lift
  carriage := k.carriage.trans h.carriage
  cause := k.cause.trans h.cause
  counter := k.counter.trans h.counter
  timer := k.timer.trans h.timer
  forwarded := k.forwarded.trans h.forwarded
  reported := k.reported.trans h.reported

theorem SameStacks.of_eq (h : t.stk = s.stk) : SameStacks s t := by
  constructor <;> intros <;> simp_all [State.position?]

/-- The part has done by itself what R34 and R41 ask: the announced marks and the states of waiting MOUNT records follow the
dwell counters, and ACCLIMATIZED has been raised where it was due. -/
structure Followed (s t : State) : Prop where
  powered : t.powered = s.powered
  retained : t.retained = s.retained
  pending : t.pending = s.pending
  sent : t.sent = s.sent
  stk : SameStacks s t
  work : SameWork s t
  settings : SameSettings s t
  replies : t.link.outbound.filter (·.isReply) = s.link.outbound.filter (·.isReply)
  flags : ∀ f, f ≠ .acclimatized → t.flag f = s.flag f
  kept : FlagsKept s t

theorem Followed.refl (s : State) : Followed s s :=
  ⟨rfl, rfl, rfl, rfl, .refl s, .refl s, .refl s, rfl, fun _ _ => rfl, fun _ h => h⟩

theorem Followed.trans (h : Followed s t) (k : Followed t u) : Followed s u where
  powered := k.powered.trans h.powered
  retained := k.retained.trans h.retained
  pending := k.pending.trans h.pending
  sent := k.sent.trans h.sent
  stk := h.stk.trans k.stk
  work := h.work.trans k.work
  settings := h.settings.trans k.settings
  replies := k.replies.trans h.replies
  flags f n := (k.flags f n).trans (h.flags f n)
  kept f x := k.kept f (h.kept f x)

theorem State.followDwell_followed (s : State) : Followed s s.followDwell where
  powered := rfl
  retained := rfl
  pending := rfl
  sent := rfl
  stk := by
    refine ⟨fun _ x e => ⟨x, e, rfl, rfl⟩, ?_, rfl, rfl, rfl, rfl, rfl, rfl, rfl⟩
    simp only [State.followDwell, List.map_map]
    refine List.map_congr_left fun m _ => ?_
    simp only [Function.comp]
    split <;> rfl
  work := ⟨rfl, rfl, rfl, rfl, rfl, rfl, rfl⟩
  settings := ⟨rfl, rfl, rfl, rfl, rfl, rfl⟩
  replies := rfl
  flags _ _ := rfl
  kept _ h := h

theorem State.updPosition_followed (s : State) (p : Nat) (f : Staging → Staging)
    (keeps : ∀ x, (f x).state = x.state ∧ (f x).dwell = x.dwell) : Followed s (s.updPosition p f) := by
  obtain ⟨v, hv⟩ := s.updPosition_stk p f
  refine ⟨by simp, by simp, by simp, by simp, ⟨fun q y e => ?_, ?_, ?_, ?_, ?_, ?_, ?_, ?_, ?_⟩,
    ⟨by simp, by simp, by simp, by simp, by simp, by simp, by simp⟩,
    ⟨by simp, by simp, by simp, by simp, by simp, by simp⟩, by simp, fun f n => by simp [State.flag], fun f k => ?_⟩
  · rw [State.position?_updPosition]
    split
    · next hq => subst hq; rw [e]; exact ⟨_, rfl, keeps y⟩
    · exact ⟨y, e, rfl, rfl⟩
  iterate 8 rw [hv]
  simpa [State.flag] using k

theorem State.raise_followed (s : State) (n : Names) : Followed s (s.raise .acclimatized n) := by
  refine ⟨by simp, by simp, by simp, by simp, .of_eq (by simp),
    ⟨by simp, by simp, by simp, by simp, by simp, by simp, by simp⟩, .raise s _ n, s.raise_replies _ n, fun f k => ?_,
    fun f k => ?_⟩
  · simp [State.flag_raise, k]
  · simp [State.flag_raise, k]

theorem State.announce_followed (s : State) (p : Nat) : Followed s (s.announce p) := by
  unfold State.announce
  split
  · split
    · exact .refl s
    · split
      · refine Followed.trans (t := s.updPosition p _) ?_ (State.raise_followed _ _)
        exact s.updPosition_followed p _ fun _ => ⟨rfl, rfl⟩
      · exact .refl s
  · exact .refl s

theorem State.announceAll_followed (s : State) : Followed s s.announceAll := by
  have all : ∀ (l : List Nat) (t : State), Followed s t → Followed s (l.foldl State.announce t) := by
    intro l
    induction l with
    | nil => exact fun _ h => h
    | cons p l ih => exact fun t h => ih _ (h.trans (t.announce_followed p))
  exact all _ s (.refl s)

/-- Where the lift has nothing to start, it has nothing to start once R34 and R41 have been followed. -/
theorem NoStart.followed (h : NoStart s) (k : Followed s t) : NoStart t := by
  intro idle
  have q := k.stk.queue
  rw [h (k.stk.lift ▸ idle)] at q
  simpa using q

theorem State.liftArbiter_noStart (s : State) (h : NoStart s) : s.liftArbiter = s := by
  unfold State.liftArbiter
  split
  · next c => rw [h c]; simp only [State.arbitrate]; rw [← h c]
  · rfl

/-- While the lift has nothing to start, an event ends with what R34 and R41 ask (R44). -/
theorem State.settle_followed (s : State) (h : NoStart s) : Followed s s.settle := by
  have k := s.followDwell_followed.trans s.followDwell.announceAll_followed
  unfold State.settle
  rw [State.liftArbiter_noStart _ (h.followed k)]
  exact k

end Sys2Proof.Machine
end

section
/-!
PROOFS. Reset, power loss and power-on (R26, R27, R31, R57).
-/

-- One proof after another, as in the model's tests: each thread's stack counts against the memory limit.
set_option Elab.async false

namespace Sys2Proof.Machine

variable {s t : State}

/-! ### Reset and the failed check -/

/-- The reset state stands in its ranges: its registry is free and its blocks have their power-on values (R27). -/
theorem reset_inRange : InRange True State.reset :=
  InRange.congr (s := State.unpowered .default [])
    (.unpowered (by decide) (by decide) fun _ => .of_empty rfl)

theorem reset_lanesExclusive : LanesExclusive State.reset where
  holders st h := by cases h.1
  apart st h := by cases h
  once := List.nodup_nil

theorem reset_outboundInOrder : OutboundInOrder State.reset.link where
  taken f h := by cases h
  pending f h := by cases h
  once := List.nodup_nil

/-- Settles O60: the lanes and the outbound list are empty, and the rest is at its power-on values. -/
theorem resetMeetsTheInvariants : Obligations.ResetMeetsTheInvariants :=
  ⟨reset_lanesExclusive, reset_outboundInOrder, reset_inRange.settings, reset_inRange.planes, reset_inRange.registry trivial⟩

theorem Link.placeNotice_disabled (l : Link) (f : AlertFlag) (h : l.enable = false) : l.placeNotice f = l := by
  unfold Link.placeNotice
  rw [if_neg (by simp [Link.reported, h])]

/-- With the master enable off a flag is raised without a notice (R182, R183). -/
theorem State.raise_disabled (s : State) (f : AlertFlag) (n : Names) (h : s.link.enable = false) :
    s.raise f n = s.updLink (fun l =>
      { l with word := l.word ||| BitVec.twoPow 22 f.number
               pending := l.pending.set f.number (some (n.context l.clock)) }) := by
  unfold State.raise State.updLink
  dsimp only
  rw [Link.placeNotice_disabled]
  exact h

/-- Power-on after a failed check gives the reset state, with what waits for the part (R27, log entry 1). -/
theorem State.powerOnFailed_eq (s : State) : s.powerOnFailed = { State.reset with pending := s.pending } := by
  have word : (0 : AlertWord) ||| BitVec.twoPow 22 18 = 0x40000 := by decide
  unfold State.powerOnFailed
  rw [State.raise_disabled _ _ _ rfl]
  simp only [State.updLink, State.unpowered, State.reset, Link.reset, AlertFlag.number, Names.context, Link.powerOn]
  rw [← word]
  rfl

/-- With no record in its queue, a HALTED lift and no can at a staging position, nothing of chapter 2 is due. -/
theorem reset_rested (l : List Instr) : Rested { State.reset with pending := l } where
  lift h := by cases h
  announced p i x r hx occupied _ _ := by
    have : x = .powerOn := by
      simp only [State.position?, State.reset, State.unpowered, Stacks.powerOn, Vector.getElem?_replicate,
        Option.ite_none_right_eq_some] at hx
      exact (Option.some.inj hx.2).symm
    rw [this] at occupied
    cases occupied
  waits m h := by cases h

theorem exec_powerOn_failed (h : s.retained.checkAgrees = false) :
    exec .powerOn s = .next { State.reset with pending := s.pending } := by
  have e : s.applyPower = { State.reset with pending := s.pending } := by
    rw [State.applyPower, h, if_neg Bool.false_ne_true, s.powerOnFailed_eq, State.settle_rested _ (reset_rested _)]
  exact congrArg Host.Outcome.next e

theorem exec_powerLoss (b : Bool) (h : s.powered = true) : exec (.powerLoss b) s = .next (s.removePower b) :=
  congrArg Host.Outcome.next (if_pos h)

/-- A part without power has every block at its power-on value (R26). -/
theorem State.unpowered_station (m : Retained) (l : List Instr) (st : StationId) :
    (State.unpowered m l).station st = .powerOn := by simp [State.station, State.unpowered]
theorem State.unpowered_order (m : Retained) (l : List Instr) (st : StationId) :
    (State.unpowered m l).order st = .powerOn := by simp [State.order, State.unpowered]

/-- Settles O3: power-on after a failed check ends in the reset state, in which nothing more is due, and a power loss leaves
the retained memory alone, its check word apart. -/
theorem powerLossAndTheFailedCheck : Obligations.PowerLossAndTheFailedCheck := by
  unfold Obligations.PowerLossAndTheFailedCheck
  refine ⟨fun s => exec_powerOn_failed, fun s h => ⟨⟨_, exec_powerLoss false h, ?_⟩, _, exec_powerLoss true h, ?_⟩⟩
  · refine ⟨rfl, ?_, rfl, fun st => ⟨State.unpowered_station _ _ st, State.unpowered_order _ _ st⟩, rfl, rfl, rfl, rfl, rfl,
      rfl, rfl⟩
    simp [State.removePower, State.unpowered]
  · refine ⟨rfl, rfl, rfl, rfl, exec_powerOn_failed ?_⟩
    simp [State.removePower, State.unpowered]

/-! ### The passed check -/

theorem State.mem_registered (s : State) (i : Nat) (r : Reel) : (i, r) ∈ s.registered ↔ s.reel? i = some r := by
  simp only [State.registered, List.mem_filterMap, Prod.exists, List.mem_zipIdx_iff_getElem?, Option.map_eq_some_iff,
    Prod.mk.injEq, Vector.getElem?_toList, State.reel?, Option.join_eq_some_iff]
  constructor
  · rintro ⟨o, j, hj, q, ho, rfl, rfl⟩
    rw [hj, ho]
  · exact fun h => ⟨some r, i, h, r, rfl, rfl, rfl⟩

theorem Reel.atPowerOn_location (r : Reel) :
    r.atPowerOn.location = if r.location.isChamber then .unknown else r.location := by
  unfold Reel.atPowerOn
  dsimp only
  split <;> rfl

/-- Power-on finds at a place what stood there: only the chambers are emptied, and their reels are UNKNOWN (R27). -/
theorem State.reelAt_atPowerOn (h : t.retained = s.retained.atPowerOn) (l : Location) (known : l ≠ .unknown)
    (place : l.isChamber = false) : t.reelAt l = s.reelAt l := by
  have test : ∀ o : Option Reel, (o.map (·.atPowerOn)).any (fun r => r.location == l) = o.any (fun r => r.location == l) := by
    intro o
    cases o with
    | none => rfl
    | some r =>
      simp only [Option.map_some, Option.any_some, r.atPowerOn_location]
      split
      · next c =>
        have : r.location ≠ l := fun e => by rw [e, place] at c; cases c
        simp [this, known.symm]
      · rfl
  simp only [State.reelAt, State.findReel, h, Retained.atPowerOn, Vector.toList_map, List.findIdx?_map]
  exact congrArg (fun p => List.findIdx? p s.retained.reels.toList) (funext test)

theorem State.occupyAt_frame (s : State) (p : Nat) :
    ∃ v, s.occupyAt p = { s with stk := { s.stk with positions := v } } := by
  unfold State.occupyAt State.updPosition
  split
  · split
    · exact ⟨_, rfl⟩
    · exact ⟨s.stk.positions, rfl⟩
  · exact ⟨s.stk.positions, rfl⟩

theorem State.position?_occupyAt (s : State) (p q : Nat) : (s.occupyAt p).position? q =
    if p = q ∧ (s.reelAt (.staging p)).isSome = true then (s.position? q).map (fun x => { x with state := .occupied })
    else s.position? q := by
  unfold State.occupyAt
  split
  · next h =>
    rw [State.position?_updPosition]
    by_cases e : p = q
    · subst e; simp [h]
    · simp [e]
  · next h => simp [h]

/-- The staging positions below `n` that are a reel's location are OCCUPIED, and nothing else has changed (R31). -/
theorem State.occupyAt_range (s : State) (n : Nat) :
    (∃ v, (List.range n).foldl State.occupyAt s = { s with stk := { s.stk with positions := v } })
    ∧ ∀ p, ((List.range n).foldl State.occupyAt s).position? p = (s.position? p).map (fun x =>
        if p < n ∧ (s.reelAt (.staging p)).isSome = true then { x with state := .occupied } else x) := by
  induction n with
  | zero =>
    refine ⟨⟨s.stk.positions, rfl⟩, fun p => ?_⟩
    simp
  | succ n ih =>
    obtain ⟨⟨v, hv⟩, pos⟩ := ih
    rw [List.range_succ, List.foldl_append]
    simp only [List.foldl_cons, List.foldl_nil]
    have found : ((List.range n).foldl State.occupyAt s).reelAt (.staging n) = s.reelAt (.staging n) :=
      State.reelAt_congr (by rw [hv]) _
    refine ⟨?_, fun p => ?_⟩
    · obtain ⟨w, hw⟩ := ((List.range n).foldl State.occupyAt s).occupyAt_frame n
      refine ⟨w, ?_⟩
      rw [hw, hv]
    · rw [State.position?_occupyAt, found, pos]
      by_cases here : n = p
      · subst here
        by_cases reel : (s.reelAt (.staging n)).isSome = true <;> simp [reel]
      · have lt : p < n + 1 ↔ p < n := by omega
        rw [if_neg fun e => here e.1]
        simp only [lt]

/-- Raising a flag changes the flags, their pending marks and the outbound list only. -/
theorem State.raise_frame (s : State) (f : AlertFlag) (n : Names) : ∃ w q o,
    s.raise f n = { s with link := { s.link with word := w, pending := q, outbound := o } } := by
  obtain ⟨w, q, o, h⟩ := s.raise_settings f n
  refine ⟨w, q, o, ?_⟩
  rw [← h]
  rfl

/-- The part just powered after a passed check, before its staging, its carriage and its findings (R27). -/
def State.started (s : State) : State := { State.unpowered s.retained.atPowerOn s.pending with powered := true }

/-- A reel stood in a chamber when power went (R27). -/
def State.lostReels (s : State) : Bool := s.registered.any (fun x => x.2.location.isChamber)

theorem State.lostReels_iff (s : State) :
    s.lostReels = true ↔ ∃ i r k, s.reel? i = some r ∧ r.location = .chamber k := by
  simp only [State.lostReels, List.any_eq_true, Prod.exists, State.mem_registered]
  constructor
  · rintro ⟨i, r, hr, c⟩
    cases hl : r.location with
    | chamber k => exact ⟨i, r, k, hr, hl⟩
    | _ => rw [hl] at c; cases c
  · rintro ⟨i, r, k, hr, hl⟩
    exact ⟨i, r, hr, by rw [hl]; rfl⟩

/-- The part just powered, its staging positions rebuilt (R31). -/
def State.restaged (s : State) : State := (List.range 8).foldl State.occupyAt s.started

/-- The part just powered, its staging rebuilt and the lost reels found (R27, R31). -/
def State.found (s : State) : State := if s.lostReels then s.restaged.raise .locationUnknown {} else s.restaged

theorem State.powerOnPassed_def (s : State) : s.powerOnPassed = match s.found.reelAt .carriage with
    | some i => (s.found.setCarriage (.reel i)).raise .liftHalted { reel := some i }
    | none => s.found := rfl

theorem State.restaged_frame (s : State) :
    ∃ v, s.restaged = { s.started with stk := { Stacks.powerOn with positions := v } } := (s.started.occupyAt_range 8).1

theorem State.position?_restaged (s : State) (p : Nat) : s.restaged.position? p = (s.started.position? p).map (fun x =>
    if p < 8 ∧ (s.reelAt (.staging p)).isSome = true then { x with state := .occupied } else x) := by
  have place : s.started.reelAt (.staging p) = s.reelAt (.staging p) := State.reelAt_atPowerOn rfl _ nofun rfl
  rw [← place]
  exact (s.started.occupyAt_range 8).2 p

theorem State.found_frame (s : State) : ∃ v w q o, s.found = { s.started with
    stk := { Stacks.powerOn with positions := v }
    link := { Link.powerOn with word := w, pending := q, outbound := o } } := by
  obtain ⟨v, hv⟩ := s.restaged_frame
  unfold State.found
  split
  · obtain ⟨w, q, o, h⟩ := s.restaged.raise_frame .locationUnknown {}
    exact ⟨v, w, q, o, by rw [h, hv]; rfl⟩
  · exact ⟨v, _, _, _, hv⟩

theorem State.flag_found (s : State) (f : AlertFlag) :
    s.found.flag f = (s.lostReels && decide (f = .locationUnknown)) := by
  obtain ⟨v, hv⟩ := s.restaged_frame
  have before : s.restaged.flag f = false := by simp [hv, State.flag, State.started, State.unpowered, Link.powerOn]
  unfold State.found
  split
  · next h => rw [State.flag_raise, before, h]; rfl
  · next h => rw [before]; simp [h]

theorem State.position?_found (s : State) (p : Nat) : s.found.position? p = s.restaged.position? p := by
  unfold State.found
  split
  · simp [State.position?]
  · rfl

/-- What power-on with a passed check leaves, before R34 is followed: the retained memory adjusted, staging and carriage
rebuilt from the locations, and LOCATION UNKNOWN raised when a reel was in a chamber (R27, R31, R57). -/
theorem State.powerOnPassed_frame (s : State) :
    (∃ v w q o, s.powerOnPassed = { s.started with
      stk := { Stacks.powerOn with
        positions := v
        carriage := (s.reelAt .carriage).elim .unreported .reel }
      link := { Link.powerOn with word := w, pending := q, outbound := o } })
    ∧ (∀ p, s.powerOnPassed.position? p = s.restaged.position? p)
    ∧ ∀ f, f ≠ .liftHalted → s.powerOnPassed.flag f = (s.lostReels && decide (f = .locationUnknown)) := by
  obtain ⟨v, w, q, o, h⟩ := s.found_frame
  have carried : s.found.reelAt .carriage = s.reelAt .carriage := State.reelAt_atPowerOn (by rw [h]; rfl) _ nofun rfl
  rw [s.powerOnPassed_def, carried]
  cases s.reelAt .carriage with
  | none => exact ⟨⟨v, w, q, o, h⟩, s.position?_found, fun f _ => s.flag_found f⟩
  | some i =>
    refine ⟨?_, fun p => ?_, fun f n => ?_⟩
    · obtain ⟨w', q', o', k⟩ := (s.found.setCarriage (.reel i)).raise_frame .liftHalted { reel := some i }
      exact ⟨v, w', q', o', k.trans (by rw [h]; rfl)⟩
    · rw [← s.position?_found p]
      simp [State.position?, State.setCarriage]
    · rw [State.flag_raise, ← s.flag_found f]
      simp [n, State.flag, State.setCarriage]

/-- Before any can is placed, every staging position has its power-on value (R31). -/
theorem State.position?_started (s : State) (p : Nat) (x : Staging) (h : s.started.position? p = some x) :
    p < 8 ∧ x = .powerOn := by
  simp only [State.position?, State.started, State.unpowered, Stacks.powerOn, Vector.getElem?_replicate,
    Option.ite_none_right_eq_some, Option.some.injEq] at h
  exact ⟨h.1, h.2.symm⟩

theorem State.position?_powerOnPassed (s : State) (p : Nat) (x : Staging) (h : s.powerOnPassed.position? p = some x) :
    x.dwell = 0 ∧ x.state = if (s.reelAt (.staging p)).isSome then StagingState.occupied else .empty := by
  obtain ⟨-, positions, -⟩ := s.powerOnPassed_frame
  rw [positions, s.position?_restaged] at h
  obtain ⟨y, hy, rfl⟩ := Option.map_eq_some_iff.mp h
  obtain ⟨lt, rfl⟩ := s.position?_started p y hy
  by_cases reel : (s.reelAt (.staging p)).isSome = true
  · simp [lt, reel, Staging.powerOn]
  · simp [reel, Staging.powerOn]

/-- A position that stands after the part has followed R34 stood before it, in the same state. -/
theorem SameStacks.position {p : Nat} {y : Staging} (h : SameStacks s t) (k : t.position? p = some y) :
    ∃ x, s.position? p = some x ∧ y.state = x.state ∧ y.dwell = x.dwell := by
  have lt : p < 8 := by
    by_contra hn
    simp [State.position?, Vector.getElem?_eq_none (Nat.le_of_not_lt hn)] at k
  obtain ⟨z, hz, same⟩ := h.positions p s.stk.positions[p] (by simp [State.position?, lt])
  obtain rfl : z = y := Option.some.inj (hz.symm.trans k)
  exact ⟨_, by simp [State.position?, lt], same⟩

theorem Reel.atPowerOn_elsewhere (r : Reel) (h : r.location.isChamber = false) : r.atPowerOn = { r with
    order := none
    history := r.history.map (fun p => if p.outcome = .running then { p with outcome := .aborted } else p) } := by
  simp [Reel.atPowerOn, h]

theorem Reel.atPowerOn_chamber (r : Reel) (h : r.location.isChamber = true) : r.atPowerOn = { r with
    location := .unknown, custody := .none, order := none
    history := r.history.map (fun p => if p.outcome = .running then { p with outcome := .aborted } else p) } := by
  simp only [Reel.atPowerOn, if_pos h]
  rfl

/-- Settles O4: what power-on leaves is followed by nothing but announcements, since the lift is HALTED (R57). -/
theorem powerOnKeepsTheRegistry : Obligations.PowerOnKeepsTheRegistry := by
  unfold Obligations.PowerOnKeepsTheRegistry
  intro s agrees
  obtain ⟨⟨v, w, q, o, frame⟩, -, flags⟩ := s.powerOnPassed_frame
  have idle : NoStart s.powerOnPassed := by
    intro h
    rw [frame] at h
    cases h
  have k := s.powerOnPassed.settle_followed idle
  have ends : exec .powerOn s = .next s.powerOnPassed.settle := by
    have : s.applyPower = s.powerOnPassed.settle := by rw [State.applyPower, agrees]; rfl
    exact congrArg Host.Outcome.next this
  generalize s.powerOnPassed.settle = t at k ends
  have retained : t.retained = s.retained.atPowerOn := k.retained.trans (by rw [frame]; rfl)
  have stations : t.stations = s.started.stations := k.work.stations.trans (by rw [frame])
  have orders : t.orders = s.started.orders := k.work.orders.trans (by rw [frame])
  have registry : ∀ i, t.reel? i = (s.reel? i).map (·.atPowerOn) := State.reel?_atPowerOn retained
  refine ⟨t, ends, ?_⟩
  refine ⟨?_, ?_, ?_, ?_, ?_, fun i h => ?_, fun i r h away => ?_, fun i r c h inside => ?_, fun st => ⟨?_, ?_⟩, ?_⟩
  · exact k.powered.trans (by rw [frame]; rfl)
  · exact k.pending.trans (by rw [frame]; rfl)
  · rw [retained]; rfl
  · rw [retained]; rfl
  · rw [retained]; rfl
  · rw [registry, h]; rfl
  · rw [registry, h, Option.map_some, r.atPowerOn_elsewhere]
    cases e : r.location with
    | chamber k => exact absurd e (away k)
    | _ => rfl
  · rw [registry, h, Option.map_some, r.atPowerOn_chamber]
    rw [inside]; rfl
  · simp only [State.station, stations]
    exact State.unpowered_station s.retained.atPowerOn s.pending st
  · simp only [State.order, orders]
    exact State.unpowered_order s.retained.atPowerOn s.pending st
  refine ⟨?_, ?_, ?_, ?_, ?_, ?_, ?_, ?_, ?_, ?_, ?_, ?_, ?_, fun p x h => ?_, ?_, ?_, ?_, ?_, ?_, ?_, ?_, ?_⟩
  · exact k.work.lanes.trans (by rw [frame]; rfl)
  · exact k.work.store.trans (by rw [frame]; rfl)
  · exact k.work.engine.trans (by rw [frame]; rfl)
  · exact k.work.snapshot.trans (by rw [frame]; rfl)
  · exact k.work.delivery.trans (by rw [frame]; rfl)
  · exact k.stk.lift.trans (by rw [frame]; rfl)
  · have empty := k.stk.queue
    rw [frame] at empty
    simpa [Stacks.powerOn] using empty
  · exact k.stk.cause.trans (by rw [frame]; rfl)
  · exact k.stk.counter.trans (by rw [frame]; rfl)
  · exact k.stk.timer.trans (by rw [frame]; rfl)
  · exact k.stk.forwarded.trans (by rw [frame]; rfl)
  · exact k.stk.reported.trans (by rw [frame]; rfl)
  · rw [k.stk.carriage, frame]
    cases s.reelAt .carriage <;> rfl
  · obtain ⟨y, hy, state, dwell⟩ := k.stk.position h
    rw [state, dwell]
    exact s.position?_powerOnPassed p y hy
  · exact k.settings.queue.trans (by rw [frame]; rfl)
  · exact k.settings.mask.trans (by rw [frame]; rfl)
  · exact k.settings.enable.trans (by rw [frame]; rfl)
  · exact k.settings.clock.trans (by rw [frame]; rfl)
  · exact k.settings.rejection.trans (by rw [frame]; rfl)
  · exact k.settings.retainedPassed.trans (by rw [frame]; rfl)
  · rw [k.flags .retainedLost nofun, flags .retainedLost nofun]
    simp
  · rw [k.flags .locationUnknown nofun, flags .locationUnknown nofun]
    simp [s.lostReels_iff]

end Sys2Proof.Machine
end

section
/-!
PROOFS. The requests of the registry, taken at once: segment maps, quarantine and hold, amendment, location, retirement and
the queries (R5 to R12, R17 to R21).
-/

-- One proof after another, as in the model's tests: each thread's stack counts against the memory limit.
set_option Elab.async false

namespace Sys2Proof.Machine

variable {s t : State} {n : RequestNumber} {i : Nat} {r : Reel}

/-! ### A request taken at once -/

/-- A command whose request its owner answers without a change. -/
theorem exec_unchanged (q : Request) (b : ReplyBody) (h : Calm s) (serve : s.silent.serve q = (s.silent, b))
    (decodes : q.decodes = true := by rfl) (plain : Request.special q = false := by rfl) :
    exec (q.command n) s = .next (s.silent.answered q n b) := by
  rw [exec_command]
  exact event_query s n q b h decodes plain serve

/-- A command whose request leaves nothing of chapter 2 due. -/
theorem exec_changed (q : Request) (b : ReplyBody) (h : Calm s) (serve : s.silent.serve q = (t, b)) (rested : Rested t)
    (taken : t.link.headTaken) (decodes : q.decodes = true := by rfl) (plain : Request.special q = false := by rfl) :
    exec (q.command n) s = .next (t.answered q n b) := by
  rw [exec_command]
  exact event_request_rested s n q t b h.toFree decodes plain serve rested taken

/-- A record rewritten where nothing depends on it: the reel comes to no staging position, and came from where it came from
(R34, R41). -/
theorem Rested.setReel {q : Reel} (h : Rested s) (e : s.reel? i = some r)
    (place : ∀ p, q.location = .staging p → r.location = .staging p := by exact fun _ h => h)
    (zone : q.cameFrom = r.cameFrom := by rfl) : Rested (s.setReel i (some q)) where
  lift := h.lift
  announced p j x y hx occupied hy located := by
    rcases s.reel?_setReel_some i j _ y hy with ⟨-, hq⟩ | ⟨-, hy⟩
    · obtain rfl := Option.some.inj hq
      have := h.announced p i x r hx occupied e (place p located)
      rwa [← zone] at this
    · exact h.announced p j x y hx occupied hy located
  waits m hm kind waiting := by
    rw [← h.waits m hm kind waiting]
    unfold State.mountState
    cases hr : m.reel with
    | none => rfl
    | some j =>
      have lt := s.reel?_lt i r e
      simp only [Option.bind_some, State.reel?_setReel, lt, and_true]
      by_cases same : i = j
      · subst same
        simp only [if_true, e]
        cases m.source with
        | staging p => simp only [State.requiredDwell, State.dwellAt, zone]; rfl
        | _ => rfl
      · simp only [same, if_false]
        rfl

/-- A command whose request rewrites a record where nothing depends on it. -/
theorem exec_written {q : Reel} (req : Request) (b : ReplyBody) (h : Calm s) (e : s.reel? i = some r)
    (serve : s.silent.serve req = (s.silent.setReel i (some q), b))
    (place : ∀ p, q.location = .staging p → r.location = .staging p := by exact fun _ h => h)
    (zone : q.cameFrom = r.cameFrom := by rfl)
    (decodes : req.decodes = true := by rfl) (plain : Request.special req = false := by rfl) :
    exec (req.command n) s = .next ((s.silent.setReel i (some q)).answered req n b) :=
  exec_changed req b h serve (h.toRested.silent.setReel e place zone) h.taken decodes plain

/-- A request whose body does not decode is refused MALFORMED, and nothing changes (R178, R191). -/
theorem exec_undecoded (q : Request) (h : Calm s) (undecoded : q.decodes = false) :
    exec (q.command n) s = .next (s.silent.answered q n (.refused .malformed)) := by
  have room : s.silent.link.queue.length < Config.requestQueueLimit := by
    rw [show s.silent.link.queue = [] from h.queue]; decide
  have back : ((s.silent.updLink (fun l =>
      { l with queue := l.queue ++ [{ kind := q.kind, number := n, request := none }] })).updLink
      (fun l => { l with queue := [] })) = s.silent := by
    simp only [State.updLink, State.silent, ← h.queue]
  have e : s.silent.request n q = s.silent.answered q n (.refused .malformed) := by
    unfold State.request State.arrive
    simp only [undecoded, Bool.false_eq_true, if_false]
    rw [if_pos room, State.takeNext_cons _ { kind := q.kind, number := n, request := none } [], back]
    · exact State.reply_taken _ _ _ h.taken
    · exact h.ready
    · simp [State.updLink, State.silent, h.queue]
  rw [exec_command]
  have rested : Rested (s.silent.request n q) := by rw [e]; exact h.toRested.congr rfl rfl
  rw [event_rested _ s h.powered rested, e]

/-! ### Segment maps -/

/-- A list that covers the frames from `start` to `last`: it begins and ends there, no segment is empty, and each begins
behind the one before (R10, R11). -/
theorem segmentsCover_iff (l : List Segment) (start last : Nat) : segmentsCover l start last = true ↔
    l.head?.map (·.first) = some start ∧ l.getLast?.map (·.last) = some last ∧ (∀ g ∈ l, g.first ≤ g.last)
      ∧ l.IsChain (fun g h => h.first = g.last + 1) := by
  induction l generalizing start with
  | nil => simp [segmentsCover]
  | cons g l ih =>
    cases l with
    | nil =>
      simp only [segmentsCover, Bool.and_eq_true, beq_iff_eq, decide_eq_true_eq]
      simp
      tauto
    | cons h l =>
      simp only [segmentsCover, Bool.and_eq_true, beq_iff_eq, decide_eq_true_eq, ih]
      simp
      tauto

theorem isSegmentMap_iff (l : List Segment) (length : Nat) : isSegmentMap l length = true ↔
    l.length ≤ 32 ∧ l.head?.map (·.first) = some 0 ∧ l.getLast?.map (·.last) = some (length - 1)
      ∧ (∀ g ∈ l, g.first ≤ g.last) ∧ l.IsChain (fun g h => h.first = g.last + 1) := by
  unfold isSegmentMap
  simp only [Bool.and_eq_true, decide_eq_true_eq, segmentsCover_iff]
  rw [show Config.segmentLimit = 32 from rfl]
  cases l with
  | nil => simp
  | cons g l => simp

/-- Settles O18: SET SEGMENTS and SET SEGMENT MODE check and write as R11 and R12 give. -/
theorem segmentRequestsWriteTheMap : Obligations.SegmentRequestsWriteTheMap := by
  unfold Obligations.SegmentRequestsWriteTheMap
  refine ⟨fun s n i h free => ⟨fun map short => ?_, fun f repair grade => ?_⟩, fun s n i r h e =>
    ⟨fun map open' one short first last ordered chain => ?_, fun map short named => ?_, fun map open' bad => ?_,
      fun f repair grade inside => ?_, fun f repair grade outside => ?_⟩⟩
  · refine exec_unchanged (.setSegments i map) _ h ?_ (decide_eq_true short)
    have e : s.silent.reel? i = none := free
    simp [State.serve, State.setSegments, e, State.refuse]
  · refine exec_unchanged (.setSegmentMode i f repair grade) _ h ?_
    have e : s.silent.reel? i = none := free
    simp [State.serve, State.setSegmentMode, e, State.refuse]
  · refine exec_written (.setSegments i map) _ h e ?_ (decodes := decide_eq_true short)
    have e : s.silent.reel? i = some r := e
    have map' := (isSegmentMap_iff map r.length).mpr ⟨short, first, last, ordered, chain⟩
    simp [State.serve, State.setSegments, e, open', map', State.doneEmpty]
  · refine exec_unchanged (.setSegments i map) _ h ?_ (decide_eq_true short)
    have e : s.silent.reel? i = some r := e
    simp [State.serve, State.setSegments, e, Option.isSome_iff_ne_none.mpr named, State.refuse]
  · by_cases short : map.length ≤ 32
    · refine exec_unchanged (.setSegments i map) _ h ?_ (decide_eq_true short)
      have e : s.silent.reel? i = some r := e
      have map' : isSegmentMap map r.length = false := by
        rw [Bool.eq_false_iff]
        exact fun k => bad ((isSegmentMap_iff map r.length).mp k)
      simp [State.serve, State.setSegments, e, open', map', State.refuse]
    · exact exec_undecoded (.setSegments i map) h (decide_eq_false short)
  · refine exec_written (.setSegmentMode i f repair grade) _ h e ?_
    have e : s.silent.reel? i = some r := e
    simp [State.serve, State.setSegmentMode, e, Nat.not_le.mpr inside, State.doneEmpty, setModes]
  · refine exec_unchanged (.setSegmentMode i f repair grade) _ h ?_
    have e : s.silent.reel? i = some r := e
    simp [State.serve, State.setSegmentMode, e, outside, State.refuse]

/-! ### Quarantine and hold -/

theorem Location.pinsClass_iff (l : Location) : l.pinsClass = true ↔ (∃ c, l = .cell c) ∨ l = .carriage := by
  cases l <;> simp [Location.pinsClass]

/-- A record judged anew keeps its place, and where it came from. -/
@[simp] theorem Reel.rehomed_location (r : Reel) (c : ReelClass) : (r.rehomed c).location = r.location := by
  unfold Reel.rehomed; split <;> rfl
@[simp] theorem Reel.rehomed_cameFrom (r : Reel) (c : ReelClass) : (r.rehomed c).cameFrom = r.cameFrom := by
  unfold Reel.rehomed; split <;> rfl

/-- Judging a record anew writes its home cell only (R19). -/
theorem Reel.rehomed_eq (r : Reel) (c : ReelClass) : r.rehomed c =
    { r with home := if r.cls = c then r.home else r.home.filter (fun d => zoneOfCell d == r.cls) } := by
  unfold Reel.rehomed
  by_cases h : r.cls = c <;> simp [h]

/-- A reel without a reading at or above the threshold passes the check of RELEASE QUARANTINE (R18). -/
theorem Reel.acid_below {v : Nat} (low : ¬ ∃ a, r.acid = some a ∧ v ≤ a) : r.acid.any (fun a => decide (v ≤ a)) = false := by
  cases acid : r.acid with
  | none => rfl
  | some a => simpa using fun k => low ⟨a, acid, k⟩

section Release

variable (h : Calm s)
include h

theorem exec_releaseHold (e : s.reel? i = some r) : exec (.releaseHold n i) s =
    .next ((s.silent.setReel i (some { r with hold := false })).answered (.releaseHold i) n (.done .empty)) := by
  refine exec_written (.releaseHold i) _ h e ?_
  have e : s.silent.reel? i = some r := e
  simp [State.serve, State.releaseHold, e, State.doneEmpty]

theorem exec_releaseQuarantine_clear (e : s.reel? i = some r) (clear : r.quarantine = false) :
    exec (.releaseQuarantine n i) s = .next (s.silent.answered (.releaseQuarantine i) n (.done .empty)) := by
  refine exec_unchanged (.releaseQuarantine i) _ h ?_
  have e : s.silent.reel? i = some r := e
  simp [State.serve, State.releaseQuarantine, e, clear, State.doneEmpty]

theorem exec_releaseQuarantine_acid {v : Nat} (e : s.reel? i = some r) (set : r.quarantine = true) (acid : r.acid = some v)
    (high : s.retained.threshold ≤ v) :
    exec (.releaseQuarantine n i) s = .next (s.silent.answered (.releaseQuarantine i) n (.refused .stillAcid)) := by
  refine exec_unchanged (.releaseQuarantine i) _ h ?_
  have e : s.silent.reel? i = some r := e
  have high : s.silent.retained.threshold ≤ v := high
  simp [State.serve, State.releaseQuarantine, e, set, acid, high, State.refuse]

theorem exec_releaseQuarantine_pinned (e : s.reel? i = some r) (set : r.quarantine = true)
    (low : ¬ ∃ v, r.acid = some v ∧ s.retained.threshold ≤ v)
    (pinned : r.base ≠ .nitrate ∧ ((∃ c, r.location = .cell c) ∨ r.location = .carriage)) :
    exec (.releaseQuarantine n i) s = .next (s.silent.answered (.releaseQuarantine i) n (.refused .location)) := by
  refine exec_unchanged (.releaseQuarantine i) _ h ?_
  have e : s.silent.reel? i = some r := e
  have low : r.acid.any (fun v => decide (s.silent.retained.threshold ≤ v)) = false := Reel.acid_below low
  rw [← Location.pinsClass_iff] at pinned
  simp [State.serve, State.releaseQuarantine, e, set, low, pinned, State.refuse]

theorem exec_releaseQuarantine (e : s.reel? i = some r) (set : r.quarantine = true)
    (low : ¬ ∃ v, r.acid = some v ∧ s.retained.threshold ≤ v)
    (free : ¬ (r.base ≠ .nitrate ∧ ((∃ c, r.location = .cell c) ∨ r.location = .carriage))) :
    exec (.releaseQuarantine n i) s = .next ((s.silent.setReel i (some { r with
      quarantine := false
      home := if classOf r.base false = r.cls then r.home
        else r.home.filter (fun c => zoneOfCell c == classOf r.base false) })).answered
          (.releaseQuarantine i) n (.done .empty)) := by
  refine exec_written (.releaseQuarantine i) _ h e ?_
  have e : s.silent.reel? i = some r := e
  have low : r.acid.any (fun v => decide (s.silent.retained.threshold ≤ v)) = false := Reel.acid_below low
  rw [← Location.pinsClass_iff] at free
  simp only [State.serve, State.releaseQuarantine, e, set, low, Bool.true_eq_false, Bool.false_eq_true, if_false, if_neg free,
    State.doneEmpty, Reel.rehomed_eq]
  rfl

end Release

/-- Settles O20: each release by its checks. -/
theorem releasingQuarantineAndHold : Obligations.ReleasingQuarantineAndHold := by
  unfold Obligations.ReleasingQuarantineAndHold
  refine fun s n i h => ⟨fun free => ⟨?_, ?_⟩, fun r e => ⟨exec_releaseHold h e, exec_releaseQuarantine_clear h e,
    fun set ⟨v, acid, high⟩ => exec_releaseQuarantine_acid h e set acid high, exec_releaseQuarantine_pinned h e,
    exec_releaseQuarantine h e⟩⟩
  · refine exec_unchanged (.releaseQuarantine i) _ h ?_
    have free : s.silent.reel? i = none := free
    simp [State.serve, State.releaseQuarantine, free, State.refuse]
  · refine exec_unchanged (.releaseHold i) _ h ?_
    have free : s.silent.reel? i = none := free
    simp [State.serve, State.releaseHold, free, State.refuse]

/-! ### The queries -/

theorem exec_queryOf (q : Request) (f : Reel → Answer) (serve : ∀ s : State, s.serve q = s.queryOf i f)
    (decodes : q.decodes = true) (plain : Request.special q = false) (h : Calm s) (e : s.reel? i = some r) :
    exec (q.command n) s = .next (s.silent.answered q n (.done (f r))) := by
  refine exec_unchanged q _ h ?_ decodes plain
  have e : s.silent.reel? i = some r := e
  simp [serve, State.queryOf, e, State.answer]

theorem exec_queryOf_free (q : Request) (f : Reel → Answer) (serve : ∀ s : State, s.serve q = s.queryOf i f)
    (decodes : q.decodes = true) (plain : Request.special q = false) (h : Calm s) (e : s.reel? i = none) :
    exec (q.command n) s = .next (s.silent.answered q n (.refused .notFound)) := by
  refine exec_unchanged q _ h ?_ decodes plain
  have e : s.silent.reel? i = none := e
  simp [serve, State.queryOf, e, State.refuse]

/-- A search finds the first registered reel with the property. -/
theorem State.findReel_first (s : State) (p : Reel → Bool) (e : s.reel? i = some r) (found : p r = true)
    (before : ∀ j q, j < i → s.reel? j = some q → p q = false) : s.findReel p = some i := by
  have entry : ∀ j, s.retained.reels.toList[j]?.join = s.reel? j := fun j => by simp [State.reel?]
  have lt : i < s.retained.reels.toList.length := by simpa using s.reel?_lt i r e
  refine List.findIdx?_eq_some_iff_getElem.mpr ⟨lt, ?_, fun j hj => ?_⟩
  · have := entry i
    rw [List.getElem?_eq_getElem lt, Option.join_some, e] at this
    simp [this, found]
  · have := entry j
    rw [List.getElem?_eq_getElem (hj.trans lt), Option.join_some] at this
    rw [this]
    cases k : s.reel? j with
    | none => simp
    | some q => simp [before j q hj k]

/-- The list of registered reels, entry by entry (R1, R8). -/
theorem State.registered_eq (s : State) :
    s.registered = (List.range 512).filterMap (fun i => (s.reel? i).map (fun r => (i, r))) := by
  have entries : s.retained.reels.toList.zipIdx = (List.range 512).map (fun i => (s.reel? i, i)) := by
    refine List.ext_getElem? fun k => ?_
    rw [List.getElem?_zipIdx, List.getElem?_map]
    by_cases lt : k < 512
    · simp [lt, State.reel?]
    · simp [lt]
  unfold State.registered
  rw [entries, List.filterMap_map]
  rfl

/-- Settles O21: a query answers from the record it names, a search from the first reel with the tag, and the list from all. -/
theorem registryQueriesAnswerFromTheRecords : Obligations.RegistryQueriesAnswerFromTheRecords := by
  unfold Obligations.RegistryQueriesAnswerFromTheRecords
  refine fun s n h => ⟨fun i r e => ⟨?_, ?_, ?_⟩, fun i e => ⟨?_, ?_, ?_⟩, fun tag i r e own first => ?_,
    fun tag none' => ?_, ?_⟩
  · exact exec_queryOf (.queryReel i) (fun r => .reelRecord r.report) (fun _ => rfl) rfl rfl h e
  · exact exec_queryOf (.querySegments i) (fun r => .segmentList r.segments) (fun _ => rfl) rfl rfl h e
  · exact exec_queryOf (.queryPassHistory i) (fun r => .passList r.history) (fun _ => rfl) rfl rfl h e
  · exact exec_queryOf_free (.queryReel i) (fun r => .reelRecord r.report) (fun _ => rfl) rfl rfl h e
  · exact exec_queryOf_free (.querySegments i) (fun r => .segmentList r.segments) (fun _ => rfl) rfl rfl h e
  · exact exec_queryOf_free (.queryPassHistory i) (fun r => .passList r.history) (fun _ => rfl) rfl rfl h e
  · refine exec_unchanged (.findReel tag) _ h ?_
    have found : s.silent.findReel (fun r => r.tag == tag) = some i :=
      s.silent.findReel_first _ e (by simpa using own) fun j q lt k => by simpa using first j q lt k
    simp [State.serve, State.findReelByTag, found, State.answer]
  · refine exec_unchanged (.findReel tag) _ h ?_
    have found : s.silent.findReel (fun r => r.tag == tag) = none :=
      (s.silent.findReel_eq_none_iff _).mpr fun j q k => by simpa using none' j q k
    simp [State.serve, State.findReelByTag, found, State.refuse]
  · refine exec_unchanged .listReels _ h ?_
    simp only [State.serve, State.listReels, State.answer, State.registered_eq, List.map_filterMap, Option.map_map]
    rfl

end Sys2Proof.Machine
end

section
/-!
PROOFS. Settings, readings, amendment, enrolment, location and retirement of reels (R3 to R7, R16 to R19).
-/

-- One proof after another, as in the model's tests: each thread's stack counts against the memory limit.
set_option Elab.async false

namespace Sys2Proof.Machine

variable {s t : State} {n : RequestNumber} {i : Nat} {r : Reel} {st : StationId}

/-! ### Clamps -/

theorem clampNat_eq {lo hi v : Nat} (h : lo ≤ hi) : clampNat lo hi v = max lo (min v hi) := by
  unfold clampNat
  split
  · omega
  · split <;> omega

/-- A clamped field is named in the reply when it was outside its range (R180, R192). -/
theorem clampEntry_clampNat (p : Nat) {lo hi v : Nat} (h : lo ≤ hi) : clampEntry p v (clampNat lo hi v) =
    if lo ≤ v ∧ v ≤ hi then [] else [{ position := p, value := (max lo (min v hi) : Nat) }] := by
  rw [clampNat_eq h]
  unfold clampEntry
  by_cases inside : lo ≤ v ∧ v ≤ hi
  · rw [if_pos inside, if_pos (by omega)]
  · rw [if_neg inside, if_neg (by omega)]

theorem clampReading_eq (v : Nat) : clampReading v = min v 30 := by
  rw [clampReading, clampNat_eq (by decide)]
  omega

theorem clampEntry_reading (p v : Nat) :
    clampEntry p v (clampReading v) = if v ≤ 30 then [] else [{ position := p, value := 30 }] := by
  rw [clampReading, clampEntry_clampNat p (by decide)]
  by_cases inside : v ≤ 30
  · rw [if_pos inside, if_pos ⟨Nat.zero_le _, inside⟩]
  · rw [if_neg inside, if_neg fun k => inside k.2, show max 0 (min v 30) = 30 by omega]
    rfl

theorem clampLimit_eq (v : Nat) : clampLimit v = max 1 (min v 16) := clampNat_eq (by decide)

theorem clampEntry_limit (p v : Nat) : clampEntry p v (clampLimit v) =
    if 1 ≤ v ∧ v ≤ 16 then [] else [{ position := p, value := (max 1 (min v 16) : Nat) }] :=
  clampEntry_clampNat p (by decide)

theorem doneOr_eq (l : List Clamp) (a : Answer) : doneOr l a = if l = [] then .done a else .doneClamped l a := by
  cases l <;> rfl

/-! ### Readings -/

theorem classOf_eq (b : Base) (q : Bool) : classOf b q =
    if b = .nitrate then .n else if q then .q else if b = .acetate then .a else .p := by
  cases b <;> cases q <;> rfl

/-- A reading taken from a station, as a value of the record (R16, R72). -/
theorem clampInt_natCast (v : Nat) : (clampInt 0 30 (v : Int)).toNat = min v 30 := by
  unfold clampInt
  split
  · omega
  · split <;> omega

theorem Rested.recordReading {v : Int} (h : Rested s) : Rested (s.recordReading st i v) := by
  unfold State.recordReading
  split
  · exact h
  · next r e =>
    have k : Rested (s.setReel i (some ((r.withReading s.retained.threshold (clampInt 0 30 v).toNat).rehomed r.cls))) :=
      h.setReel e (by simp [Reel.withReading]) (by simp [Reel.withReading])
    dsimp only
    split
    · exact k.congr (by simp) (by simp)
    · exact k

/-- An acid reading reaches the registered reel in the chamber of a station that beats, outside LOOPBACK (R72, R87). -/
theorem exec_acidReading {v : Int} (powered : s.powered = true) (h : Rested s) (beats : (s.station st).state.beats = true)
    (film : (s.station st).state ≠ .loopback) (inside : s.reelIn st = some i) :
    exec (.acidReading st v) s = .next (s.silent.recordReading st i v) := by
  have e : s.silent.acidTaken st v = s.silent.recordReading st i v := by
    have inside : s.silent.reelIn st = some i := inside
    have beats : (s.silent.station st).state.beats = true := beats
    have film : (s.silent.station st).state ≠ .loopback := film
    simp [State.acidTaken, beats, film, inside]
  have rested : Rested (s.silent.acidTaken st v) := by rw [e]; exact h.silent.recordReading
  have run : exec (.acidReading st v) s = event (fun s => s.acidTaken st v) s := rfl
  rw [run, event_rested (fun s => s.acidTaken st v) s powered rested]
  exact congrArg _ e

/-- What a reading leaves of the reel's record (R16, R19). -/
theorem State.reel?_recordReading (s : State) (v : Int) (e : s.reel? i = some r) : (s.recordReading st i v).reel? i =
    some ((r.withReading s.retained.threshold (clampInt 0 30 v).toNat).rehomed r.cls) := by
  have lt := s.reel?_lt i r e
  unfold State.recordReading
  rw [e]
  dsimp only
  split
  · rw [State.reel?_congr (State.raise_retained _ _ _), State.reel?_setReel]
    simp [lt]
  · rw [State.reel?_setReel]
    simp [lt]

@[simp] theorem Reel.rehomed_quarantine (r : Reel) (c : ReelClass) : (r.rehomed c).quarantine = r.quarantine := by
  unfold Reel.rehomed; split <;> rfl

theorem State.reel?_setReel_self (s : State) (e : s.reel? i = some r) (q : Reel) :
    (s.setReel i (some q)).reel? i = some q := by
  rw [State.reel?_setReel, if_pos ⟨rfl, s.reel?_lt i r e⟩]

/-! ### The threshold -/

/-- A new threshold leaves the stacks with nothing due (R34, R41). -/
theorem Rested.setThreshold {v : Nat} (h : Rested s) : Rested (s.setRetained s.retained.dwell v) :=
  ⟨h.lift, h.announced, h.waits⟩

theorem exec_setQuarantineThreshold (v : Nat) (h : Calm s) : exec (.setQuarantineThreshold n v) s =
    .next ((s.silent.setRetained s.retained.dwell (max 5 (min v 30))).answered (.setQuarantineThreshold v) n
      (doneOr (if 5 ≤ v ∧ v ≤ 30 then [] else [{ position := 0, value := (max 5 (min v 30) : Nat) }]) .empty)) := by
  have rested : Rested (s.silent.setRetained s.retained.dwell (max 5 (min v 30))) := h.toRested.silent.setThreshold
  refine exec_changed (.setQuarantineThreshold v) _ h ?_ rested h.taken
  have taken : clampThreshold v = max 5 (min v 30) := clampNat_eq (by decide)
  have entry : clampEntry 0 v (clampThreshold v) = _ := clampEntry_clampNat 0 (by decide)
  simp only [State.serve, State.setQuarantineThreshold, taken, ← entry]
  rfl

/-- Settles O19: the threshold's own clamp, its value at reset, and the two rules that read it. -/
theorem quarantineThresholdIsClamped : Obligations.QuarantineThresholdIsClamped := by
  unfold Obligations.QuarantineThresholdIsClamped
  refine ⟨fun s n v h low high => ?_, fun s n v h out => ⟨0, ?_⟩, rfl, fun s n i r a h e acid => ⟨fun set high => ?_,
    fun set low away => ?_⟩, fun s st i r v powered h loaded inside e clear small => ?_⟩
  · rw [exec_setQuarantineThreshold v h, if_pos ⟨low, high⟩, show max 5 (min v 30) = v by omega]
    rfl
  · rw [exec_setQuarantineThreshold v h, if_neg (by omega)]
    rfl
  · exact exec_releaseQuarantine_acid h e set acid high
  · have below : ¬ ∃ b, r.acid = some b ∧ s.retained.threshold ≤ b := by
      rintro ⟨b, hb, high⟩
      obtain rfl := Option.some.inj (acid.symm.trans hb)
      omega
    have free : ¬ (r.base ≠ .nitrate ∧ ((∃ c, r.location = .cell c) ∨ r.location = .carriage)) := by simp [away]
    exact ⟨_, _, exec_releaseQuarantine h e set below free, s.silent.reel?_setReel_self e _, rfl⟩
  · have beats : (s.station st).state.beats = true := by rw [loaded]; rfl
    have film : (s.station st).state ≠ .loopback := by rw [loaded]; nofun
    refine ⟨_, _, exec_acidReading powered h beats film inside, State.reel?_recordReading _ _ e, ?_⟩
    have threshold : s.silent.retained.threshold = s.retained.threshold := rfl
    simp [Reel.withReading, clear, clampInt_natCast, small, threshold]

end Sys2Proof.Machine
end

section
/-!
PROOFS. Amendment, enrolment, location and retirement of reels (R3 to R7, R16, R19).
-/

-- One proof after another, as in the model's tests: each thread's stack counts against the memory limit.
set_option Elab.async false

namespace Sys2Proof.Machine

variable {s t : State} {n : RequestNumber} {i : Nat} {r : Reel} {st : StationId}

/-! ### Amendment (R5) -/

@[simp] theorem Reel.amended_location (r : Reel) (v : Nat) (f : AmendFields) : (r.amended v f).location = r.location := by
  unfold Reel.amended; dsimp only; split <;> simp [Reel.withReading]
@[simp] theorem Reel.amended_cameFrom (r : Reel) (v : Nat) (f : AmendFields) : (r.amended v f).cameFrom = r.cameFrom := by
  unfold Reel.amended; dsimp only; split <;> simp [Reel.withReading]

/-- The quarantine flag after an amendment: a reading at or above the threshold sets it (R16). -/
def Reel.amendedQuarantine (r : Reel) (threshold : Nat) (f : AmendFields) : Bool :=
  r.quarantine || f.reading.any (fun v => decide (threshold ≤ min v 30))

/-- ACID READING HIGH is raised when the flag was clear and is set (R16). -/
theorem Reel.amend_alarms (r : Reel) (threshold : Nat) (f : AmendFields) :
    f.reading.any (fun v => r.readingAlarms threshold (clampReading v)) = true
      ↔ r.amendedQuarantine threshold f ≠ r.quarantine := by
  unfold Reel.amendedQuarantine Reel.readingAlarms
  simp only [clampReading_eq]
  cases f.reading <;> cases r.quarantine <;> simp

theorem Reel.amended_cls (r : Reel) (threshold : Nat) (f : AmendFields) :
    (r.amended threshold f).cls = classOf (f.base.getD r.base) (r.amendedQuarantine threshold f) := by
  unfold Reel.amended Reel.amendedQuarantine
  simp only [Reel.rehomed_eq, clampReading_eq]
  cases f.reading <;> simp [Reel.cls, Reel.withReading]

section Amend

variable {f : AmendFields} (e : s.reel? i = some r)
include e

theorem serve_amendReel (open' : ¬ ((f.emulsion.isSome || f.passLimit.isSome) = true ∧ r.order.isSome = true))
    (free : ¬ ((r.amended s.retained.threshold f).cls ≠ r.cls ∧ r.location.pinsClass = true)) :
    s.silent.serve (.amendReel i f) =
      (if r.amendedQuarantine s.retained.threshold f ≠ r.quarantine then
          (s.silent.setReel i (some (r.amended s.retained.threshold f))).raise .acidReadingHigh { reel := some i }
        else s.silent.setReel i (some (r.amended s.retained.threshold f)),
        doneOr (amendClamps f) .empty) := by
  have e : s.silent.reel? i = some r := e
  have free : ¬ ((r.amended s.silent.retained.threshold f).cls ≠ r.cls ∧ r.location.pinsClass = true) := free
  simp only [State.serve, State.amendReel, e]
  rw [if_neg open', if_neg free]
  simp only [Reel.amend_alarms]
  rfl

variable (h : Calm s)
include h

theorem exec_amendReel_busy (blocked : (f.emulsion.isSome || f.passLimit.isSome) = true ∧ r.order.isSome = true) :
    exec (.amendReel n i f) s = .next (s.silent.answered (.amendReel i f) n (.refused .wrongState)) := by
  refine exec_unchanged (.amendReel i f) _ h ?_
  have e : s.silent.reel? i = some r := e
  simp only [State.serve, State.amendReel, e]
  rw [if_pos blocked]
  rfl

theorem exec_amendReel_pinned (open' : ¬ ((f.emulsion.isSome || f.passLimit.isSome) = true ∧ r.order.isSome = true))
    (pinned : (r.amended s.retained.threshold f).cls ≠ r.cls ∧ r.location.pinsClass = true) :
    exec (.amendReel n i f) s = .next (s.silent.answered (.amendReel i f) n (.refused .location)) := by
  refine exec_unchanged (.amendReel i f) _ h ?_
  have e : s.silent.reel? i = some r := e
  have pinned : (r.amended s.silent.retained.threshold f).cls ≠ r.cls ∧ r.location.pinsClass = true := pinned
  simp only [State.serve, State.amendReel, e]
  rw [if_neg open', if_pos pinned]
  rfl

theorem exec_amendReel (open' : ¬ ((f.emulsion.isSome || f.passLimit.isSome) = true ∧ r.order.isSome = true))
    (free : ¬ ((r.amended s.retained.threshold f).cls ≠ r.cls ∧ r.location.pinsClass = true))
    (same : r.amendedQuarantine s.retained.threshold f = r.quarantine) : exec (.amendReel n i f) s = .next
      ((s.silent.setReel i (some (r.amended s.retained.threshold f))).answered (.amendReel i f) n
        (doneOr (amendClamps f) .empty)) := by
  refine exec_written (.amendReel i f) _ h e ?_ (by simp) (by simp)
  rw [serve_amendReel e open' free, if_neg (by simp [same])]

theorem exec_amendReel_alarm (open' : ¬ ((f.emulsion.isSome || f.passLimit.isSome) = true ∧ r.order.isSome = true))
    (free : ¬ ((r.amended s.retained.threshold f).cls ≠ r.cls ∧ r.location.pinsClass = true))
    (alarm : r.amendedQuarantine s.retained.threshold f ≠ r.quarantine) : exec (.amendReel n i f) s = .next
      (((s.silent.setReel i (some (r.amended s.retained.threshold f))).raise .acidReadingHigh { reel := some i }).answered
        (.amendReel i f) n (doneOr (amendClamps f) .empty)) := by
  have written : Rested (s.silent.setReel i (some (r.amended s.retained.threshold f))) :=
    h.toRested.silent.setReel e (by simp) (by simp)
  refine exec_changed (.amendReel i f) _ h ?_ (written.congr (by simp) (by simp)) ?_
  · rw [serve_amendReel e open' free, if_pos alarm]
  · exact State.raise_headTaken _ _ _ h.taken

end Amend

/-- Settles O16: the checks of AMEND REEL in their order, and the record it writes field by field. -/
theorem amendmentWritesTheNamedFields : Obligations.AmendmentWritesTheNamedFields := by
  unfold Obligations.AmendmentWritesTheNamedFields
  intro s n i r f h e
  obtain ⟨title', base', emulsion', passLimit', reading'⟩ := f
  intro quarantine base cls limit amended clamps body blocked pinned
  generalize named : AmendFields.mk title' base' emulsion' passLimit' reading' = f
  have cls_eq : (r.amended s.retained.threshold f).cls = cls := by
    rw [r.amended_cls, ← named]
    rfl
  have amended_eq : r.amended s.retained.threshold f = amended := by
    unfold amended limit cls quarantine base
    rw [← named]
    cases passLimit' <;> cases reading' <;>
      simp [Reel.amended, Reel.rehomed_eq, Reel.withReading, Reel.cls, clampReading_eq, clampLimit_eq] <;> rfl
  have body_eq : doneOr (amendClamps f) .empty = body := by
    have : amendClamps f = clamps := by
      unfold clamps
      rw [← named]
      cases passLimit' <;> cases reading' <;> simp [amendClamps, clampEntry?, clampEntry_limit, clampEntry_reading]
    rw [doneOr_eq, this]
  have blocked_iff : ((f.emulsion.isSome || f.passLimit.isSome) = true ∧ r.order.isSome = true) ↔ blocked := by
    unfold blocked
    rw [← named, Bool.or_eq_true]
  have pinned_iff : ((r.amended s.retained.threshold f).cls ≠ r.cls ∧ r.location.pinsClass = true) ↔ pinned := by
    unfold pinned
    rw [cls_eq, Location.pinsClass_iff]
  rw [← amended_eq, ← body_eq, ← blocked_iff, ← pinned_iff]
  subst named
  exact ⟨exec_amendReel_busy e h, exec_amendReel_pinned e h, exec_amendReel e h, exec_amendReel_alarm e h⟩

end Sys2Proof.Machine
end

section
/-!
PROOFS. Requests that put a reel where its dwell counts, and retirement (R3, R4, R6, R7).
-/

-- One proof after another, as in the model's tests: each thread's stack counts against the memory limit.
set_option Elab.async false

namespace Sys2Proof.Machine

variable {s t u : State} {n : RequestNumber} {i : Nat} {r : Reel} {st : StationId}

/-! ### A request answered while the lift has nothing to start -/

/-- The state `u` is `t` with the reply `b` to the request `q` placed, after the part has followed R34 and R41. -/
structure AnsweredFollowed (t u : State) (q : Request) (n : RequestNumber) (b : ReplyBody) : Prop where
  retained : u.retained = t.retained
  sent : u.sent = t.sent
  stk : SameStacks t u
  work : SameWork t u
  settings : SameSettings t u
  kept : FlagsKept t u
  replied : RepliedOnce u q n b

/-- Placing a reply changes the outbound list, and the pending mark of a notice that the transmitter takes. -/
theorem State.reply_link (s : State) (h : RequestHeader) (b : ReplyBody) : ∃ p o,
    s.reply h b = { s with link := { s.link with pending := p, outbound := o } } := by
  obtain ⟨p, o, e⟩ := Link.transmit_frame
    { s.link with outbound := s.link.outbound ++ [.reply { kind := h.kind, number := h.number, body := b }] }
  exact ⟨p, o, congrArg (fun l => { s with link := l }) e⟩

theorem NoStart.congr (h : NoStart s) (k : t.stk = s.stk) : NoStart t := by
  unfold NoStart at h ⊢
  rwa [k]

/-- A reply placed between two times that the part follows R34 and R41. -/
theorem Followed.answered {m : State} {q : Request} {b : ReplyBody} (before : Followed t m)
    (after : Followed (m.reply { kind := q.kind, number := n } b) u)
    (quiet : t.link.outbound.filter (·.isReply) = []) : AnsweredFollowed t u q n b := by
  have replies := after.replies.trans (Link.place_replies m.link _)
  obtain ⟨p, o, placed⟩ := m.reply_link { kind := q.kind, number := n } b
  have work : SameWork m (m.reply { kind := q.kind, number := n } b) := by
    rw [placed]; exact ⟨rfl, rfl, rfl, rfl, rfl, rfl, rfl⟩
  have settings : SameSettings m (m.reply { kind := q.kind, number := n } b) := by
    rw [placed]; exact ⟨rfl, rfl, rfl, rfl, rfl, rfl⟩
  have flags : FlagsKept m (m.reply { kind := q.kind, number := n } b) := by
    rw [placed]; exact fun _ k => k
  refine ⟨after.retained.trans before.retained, ?_, before.stk.trans (SameStacks.trans (.of_eq (State.reply_stk _ _ _))
    after.stk), before.work.trans (work.trans after.work), before.settings.trans (settings.trans after.settings),
    fun f k => after.kept f (flags f (before.kept f k)), ?_⟩
  · rw [after.sent, placed]
    exact before.sent
  · unfold RepliedOnce
    rw [replies, before.replies, quiet]
    rfl

/-- A request taken at once, while the lift has nothing to start, ends in the state its owner leaves, with the reply placed
and R34 and R41 followed before and after it (R178). -/
theorem exec_followed (q : Request) (b : ReplyBody) (h : Free s) (serve : s.silent.serve q = (t, b)) (idle : NoStart t)
    (quiet : t.link.outbound.filter (·.isReply) = []) (decodes : q.decodes = true := by rfl)
    (plain : Request.special q = false := by rfl) :
    ∃ u, exec (q.command n) s = .next u ∧ AnsweredFollowed t u q n b := by
  have before := t.settle_followed idle
  have after := (t.settle.reply { kind := q.kind, number := n } b).settle_followed
    ((idle.followed before).congr (State.reply_stk _ _ _))
  have run : exec (q.command n) s = .next (t.settle.reply { kind := q.kind, number := n } b).settle := by
    rw [exec_command, event_request s n q h decodes plain, serve]
  exact ⟨_, run, before.answered after quiet⟩

/-- Where LNK is free, no reply waits. -/
theorem Free.quiet (h : Free s) : s.link.outbound.filter (·.isReply) = [] := Link.replies_of_ready _ h.ready

/-! ### Location (R6) -/

theorem State.identifyAt_retained (s : State) (l : Location) : (s.identifyAt l).retained = s.retained := by
  unfold State.identifyAt
  split <;> simp

/-- The can at the place that a request names is identified, and its counter runs on; no other position changes (R4, R6). -/
theorem State.position?_identifyAt (s : State) (l : Location) (p : Nat) (x : Staging) (h : s.position? p = some x) :
    ∃ y, (s.identifyAt l).position? p = some y ∧ y.dwell = x.dwell
      ∧ y.state = if l = .staging p then StagingState.occupied else x.state := by
  unfold State.identifyAt
  split
  · next q =>
    rw [State.position?_updPosition]
    by_cases here : q = p
    · subst here
      exact ⟨{ x with state := .occupied }, by rw [if_pos rfl, h]; rfl, rfl, by simp⟩
    · exact ⟨x, by rw [if_neg here, h], rfl, by simp [here]⟩
  · next away => exact ⟨x, h, rfl, by rw [if_neg (away p)]⟩

/-- Identifying a can changes staging positions only. -/
theorem State.identifyAt_frame (s : State) (l : Location) :
    ∃ v, s.identifyAt l = { s with stk := { s.stk with positions := v } } := by
  unfold State.identifyAt State.updPosition
  split
  · split
    · exact ⟨_, rfl⟩
    · exact ⟨s.stk.positions, rfl⟩
  · exact ⟨s.stk.positions, rfl⟩

theorem State.unidentifiedAt_of_position (s : State) {p : Nat} {x : Staging} (h : s.position? p = some x)
    (state : x.state = .unidentified) : s.unidentifiedAt p = true := by
  simp [State.unidentifiedAt, h, state]

theorem State.position?_lt (s : State) {p : Nat} {x : Staging} (h : s.position? p = some x) : p < 8 := by
  by_contra hn
  simp [State.position?, Vector.getElem?_eq_none (Nat.le_of_not_lt hn)] at h

theorem exec_locateReel_cell {c : Nat} (h : Calm s) (e : s.reel? i = some r) (lost : r.location = .unknown) (lt : c < 640)
    (zone : zoneOfCell c = r.cls) (free : s.cellState c = .free ∨ r.home = some c) :
    exec (.locateReel n i (.cell c)) s = .next ((s.silent.setReel i (some
      { r with location := .cell c, home := some c, custody := .none })).answered (.locateReel i (.cell c)) n
        (.done .empty)) := by
  refine exec_written (.locateReel i (.cell c)) _ h e ?_ nofun
  have e : s.silent.reel? i = some r := e
  have free : s.silent.cellState c = .free ∨ r.home = some c := free
  simp only [State.serve, State.locateReel, e, lost, ne_eq, not_true_eq_false, if_false]
  rw [if_neg (show ¬ Config.shelfCells ≤ c from Nat.not_le.mpr lt), if_pos ⟨zone, free⟩]
  rfl

theorem exec_locateReel_elsewhere {c : Nat} (h : Calm s) (e : s.reel? i = some r) (known : r.location ≠ .unknown)
    (lt : c < 640) : exec (.locateReel n i (.cell c)) s =
      .next (s.silent.answered (.locateReel i (.cell c)) n (.refused .wrongState)) := by
  refine exec_unchanged (.locateReel i (.cell c)) _ h ?_
  have e : s.silent.reel? i = some r := e
  simp only [State.serve, State.locateReel, e]
  rw [if_neg (show ¬ Config.shelfCells ≤ c from Nat.not_le.mpr lt), if_pos known]
  rfl

theorem serve_locateReel_staging {p : Nat} {x : Staging} (e : s.reel? i = some r) (lost : r.location = .unknown)
    (h : s.position? p = some x) (state : x.state = .unidentified) : s.silent.serve (.locateReel i (.staging p)) =
      ((s.silent.setReel i (some { r with location := .staging p, cameFrom := r.cls.zone, custody := .none })).identifyAt
        (.staging p), .done .empty) := by
  have e : s.silent.reel? i = some r := e
  have found : s.silent.unidentifiedAt p = true := s.silent.unidentifiedAt_of_position h state
  simp only [State.serve, State.locateReel, e, lost, found, ne_eq, not_true_eq_false, Bool.true_eq_false, if_false]
  rw [if_neg (show ¬ Config.stagingPositions ≤ p from Nat.not_le.mpr (s.position?_lt h))]
  rfl

/-! ### Retirement (R7) -/

/-- A freed entry that no waiting record names leaves nothing due (R34, R41). -/
theorem Rested.freeReel (h : Rested s) (unnamed : ∀ m ∈ s.stk.queue, m.reel ≠ some i) : Rested (s.setReel i none) where
  lift := h.lift
  announced p j x y hx occupied hy located :=
    (s.reel?_setReel_some i j none y hy).elim (fun c => nomatch c.2) fun c => h.announced p j x y hx occupied c.2 located
  waits m hm kind waiting := by
    rw [← h.waits m hm kind waiting]
    have same : m.reel.bind (s.setReel i none).reel? = m.reel.bind s.reel? := by
      cases hr : m.reel with
      | none => rfl
      | some j =>
        have other : i ≠ j := fun k => unnamed m hm (k ▸ hr)
        simp only [Option.bind_some, State.reel?_setReel, other, false_and, if_false]
    simp only [State.mountState, same]
    rfl

theorem State.liftNames_iff (s : State) (i : Nat) : s.liftNames i = true ↔ ∃ m ∈ s.stk.queue, m.reel = some i := by
  simp [State.liftNames]

theorem Location.isCell_iff (l : Location) : l.isCell = true ↔ ∃ c, l = .cell c := by
  cases l <;> simp [Location.isCell]

section Retire

variable (h : Calm s) (e : s.reel? i = some r)
include h e

theorem exec_retireReel (closed : r.order = none) (unnamed : ¬ ∃ m ∈ s.stk.queue, m.reel = some i)
    (shelved : (∃ c, r.location = .cell c) ∨ r.location = .unknown) : exec (.retireReel n i) s =
      .next ((s.silent.setReel i none).answered (.retireReel i) n (.done (.reelIndex i))) := by
  have rested : Rested (s.silent.setReel i none) :=
    h.toRested.silent.freeReel fun m hm k => unnamed ⟨m, hm, k⟩
  refine exec_changed (.retireReel i) _ h ?_ rested h.taken
  have e : s.silent.reel? i = some r := e
  rw [← Location.isCell_iff] at shelved
  rw [← s.liftNames_iff] at unnamed
  have unnamed : ¬ s.silent.liftNames i = true := unnamed
  simp only [State.serve, State.retireReel, e]
  rw [if_neg (by simp [closed, unnamed]), if_pos shelved]
  rfl

theorem exec_retireReel_busy (busy : r.order ≠ none ∨ ∃ m ∈ s.stk.queue, m.reel = some i) : exec (.retireReel n i) s =
    .next (s.silent.answered (.retireReel i) n (.refused .wrongState)) := by
  refine exec_unchanged (.retireReel i) _ h ?_
  have e : s.silent.reel? i = some r := e
  rw [← s.liftNames_iff, ← Option.isSome_iff_ne_none] at busy
  have busy : r.order.isSome = true ∨ s.silent.liftNames i = true := busy
  simp only [State.serve, State.retireReel, e]
  rw [if_pos busy]
  rfl

theorem exec_retireReel_away (closed : r.order = none) (unnamed : ¬ ∃ m ∈ s.stk.queue, m.reel = some i)
    (away : ¬ ((∃ c, r.location = .cell c) ∨ r.location = .unknown)) : exec (.retireReel n i) s =
      .next (s.silent.answered (.retireReel i) n (.refused .location)) := by
  refine exec_unchanged (.retireReel i) _ h ?_
  have e : s.silent.reel? i = some r := e
  rw [← Location.isCell_iff] at away
  rw [← s.liftNames_iff] at unnamed
  have unnamed : ¬ s.silent.liftNames i = true := unnamed
  simp only [State.serve, State.retireReel, e]
  rw [if_neg (by simp [closed, unnamed]), if_neg away]
  rfl

end Retire

/-- Settles O17: LOCATE REEL and RETIRE REEL by their checks. -/
theorem locatingAndRetiringAReel : Obligations.LocatingAndRetiringAReel := by
  unfold Obligations.LocatingAndRetiringAReel
  refine ⟨fun s n i r e => ⟨fun c h => exec_locateReel_cell h e, fun p x free idle lost hx state => ?_,
    fun c h lt known => exec_locateReel_elsewhere h e known lt⟩,
    fun s n i r h e => ⟨exec_retireReel h e, exec_retireReel_busy h e, exec_retireReel_away h e⟩, fun s n i h free => ?_⟩
  · obtain ⟨v, frame⟩ := (s.silent.setReel i (some
      { r with location := .staging p, cameFrom := r.cls.zone, custody := .none })).identifyAt_frame (.staging p)
    obtain ⟨u, run, k⟩ := exec_followed (n := n) (.locateReel i (.staging p)) _ free
      (serve_locateReel_staging e lost hx state) (by rw [frame]; exact idle) (by rw [frame]; exact free.quiet)
    have retained := k.retained.trans (State.identifyAt_retained _ _)
    refine ⟨u, run, ?_, fun j other => ?_, ?_, fun q y other hy => ?_, ?_, ?_, ?_, ?_, ?_, k.replied⟩
    · rw [State.reel?_congr retained]
      exact s.silent.reel?_setReel_self e _
    · rw [State.reel?_congr retained, State.reel?_setReel, if_neg fun c => other c.1.symm]
      rfl
    · obtain ⟨y, hy, dwell, occupied⟩ := State.position?_identifyAt (s.silent.setReel i (some
        { r with location := .staging p, cameFrom := r.cls.zone, custody := .none })) (.staging p) p x hx
      obtain ⟨z, hz, state, same⟩ := k.stk.positions p y hy
      rw [if_pos rfl] at occupied
      exact ⟨z, hz, state.trans occupied, same.trans dwell⟩
    · obtain ⟨z, hz, dwell, same⟩ := State.position?_identifyAt (s.silent.setReel i (some
        { r with location := .staging p, cameFrom := r.cls.zone, custody := .none })) (.staging p) q y hy
      obtain ⟨w, hw, state, count⟩ := k.stk.positions q z hz
      rw [if_neg (by simp [Ne.symm other])] at same
      exact ⟨w, hw, state.trans same, count.trans dwell⟩
    · rw [k.stk.lift, frame]; rfl
    · rw [k.stk.carriage, frame]; rfl
    · have w := k.work
      rw [frame] at w
      exact ⟨w.stations, w.lanes, w.orders, w.store, w.engine, w.snapshot, w.delivery⟩
    · have w := k.settings
      rw [frame] at w
      exact ⟨w.queue, w.mask, w.enable, w.rejection, w.clock, w.retainedPassed⟩
    · rw [k.sent, frame]; rfl
  · refine exec_unchanged (.retireReel i) _ h ?_
    have free : s.silent.reel? i = none := free
    simp [State.serve, State.retireReel, free, State.refuse]

end Sys2Proof.Machine
end

section
/-!
PROOFS. Enrolment (R3, R4).
-/

-- One proof after another, as in the model's tests: each thread's stack counts against the memory limit.
set_option Elab.async false

namespace Sys2Proof.Machine

variable {s t : State} {n : RequestNumber} {i : Nat} {f : EnrollFields}

/-- The lowest free entry of the registry (R4). -/
theorem State.lowestFreeEntry (s : State) (lt : i < 512) (free : s.reel? i = none) (below : ∀ j, j < i → s.reel? j ≠ none) :
    s.retained.reels.toList.findIdx? (·.isNone) = some i := by
  have entry : ∀ j, s.retained.reels.toList[j]?.join = s.reel? j := fun j => by simp [State.reel?]
  have lt : i < s.retained.reels.toList.length := by simpa using lt
  refine List.findIdx?_eq_some_iff_getElem.mpr ⟨lt, ?_, fun j hj => ?_⟩
  · have := entry i
    rw [List.getElem?_eq_getElem lt, Option.join_some, free] at this
    simp [this]
  · have := entry j
    rw [List.getElem?_eq_getElem (hj.trans lt), Option.join_some] at this
    simpa [this] using below j hj

theorem clampEntry_natCast (p v w : Nat) :
    clampEntry p v w = if v = w then [] else [{ position := p, value := (w : Int) }] := by
  simp [clampEntry]

theorem newQuarantine_eq (v : Nat) (o : Option Nat) :
    newQuarantine v o = o.any (fun a => decide (v ≤ min a 30)) := by
  simp [newQuarantine, clampReading_eq]

@[simp] theorem newReel_quarantine (v : Nat) (f : EnrollFields) : (newReel v f).quarantine = newQuarantine v f.reading := rfl

/-- What is checked of the place that an enrolment names (R3). -/
theorem State.placeForNew_of (s : State) (cls : ReelClass) (l : Location)
    (h : l = .unknown ∨ (∃ c, l = .cell c ∧ c < 640 ∧ s.cellState c = .free ∧ zoneOfCell c = cls)
      ∨ ∃ p x, l = .staging p ∧ s.position? p = some x ∧ x.state = .unidentified) :
    l.enrollable = true ∧ s.placeForNew cls l = true := by
  rcases h with rfl | ⟨c, rfl, lt, free, zone⟩ | ⟨p, x, rfl, hx, state⟩
  · exact ⟨rfl, rfl⟩
  · exact ⟨decide_eq_true lt, by simp [State.placeForNew, free, zone]⟩
  · exact ⟨decide_eq_true (s.position?_lt hx), s.unidentifiedAt_of_position hx state⟩

/-- The state that an accepted enrolment leaves: the record written, the can identified, and ACID READING HIGH raised when the
reading quarantines the reel (R4, R16). -/
def State.enrolled (s : State) (i : Nat) (f : EnrollFields) : State :=
  let t := (s.setReel i (some (newReel s.retained.threshold f))).identifyAt f.location
  if (newReel s.retained.threshold f).quarantine then t.raise .acidReadingHigh { reel := some i } else t

/-- An enrolment whose checks pass. -/
structure Enrollable (s : State) (i : Nat) (f : EnrollFields) : Prop where
  fresh : ∀ j r, s.reel? j = some r → r.tag ≠ f.tag
  entry : i < 512
  free : s.reel? i = none
  below : ∀ j, j < i → s.reel? j ≠ none
  place : f.location = .unknown
    ∨ (∃ c, f.location = .cell c ∧ c < 640 ∧ s.cellState c = .free
      ∧ zoneOfCell c = classOf f.base (newQuarantine s.retained.threshold f.reading))
    ∨ ∃ p x, f.location = .staging p ∧ s.position? p = some x ∧ x.state = .unidentified

theorem Enrollable.serve (h : Enrollable s i f) :
    s.silent.serve (.enrollReel f) = (s.silent.enrolled i f, doneOr (enrollClamps f) (.reelIndex i)) := by
  obtain ⟨enrollable, place⟩ := s.placeForNew_of _ _ h.place
  have tag : s.silent.findReel (fun r => r.tag == f.tag) = none :=
    (s.silent.findReel_eq_none_iff _).mpr fun j r e => by simpa using h.fresh j r e
  have entry : s.silent.retained.reels.toList.findIdx? (·.isNone) = some i := s.lowestFreeEntry h.entry h.free h.below
  have place : s.silent.placeForNew (newReel s.silent.retained.threshold f).cls f.location = true := place
  simp only [State.serve, State.enrollReel, enrollable, tag, entry, place, Bool.true_eq_false, Option.isSome_none,
    Bool.false_eq_true, if_false]
  rfl

section Enrolled

theorem State.enrolled_retained (s : State) (i : Nat) (f : EnrollFields) :
    (s.enrolled i f).retained = (s.setReel i (some (newReel s.retained.threshold f))).retained := by
  unfold State.enrolled
  dsimp only
  split
  · rw [State.raise_retained, State.identifyAt_retained]
  · rw [State.identifyAt_retained]

theorem State.enrolled_stk (s : State) (i : Nat) (f : EnrollFields) : (s.enrolled i f).stk = (s.identifyAt f.location).stk := by
  have same : ((s.setReel i (some (newReel s.retained.threshold f))).identifyAt f.location).stk
      = (s.identifyAt f.location).stk := by
    unfold State.identifyAt State.updPosition
    split
    · simp only [State.setReel_stk]
      split <;> rfl
    · rfl
  unfold State.enrolled
  dsimp only
  split
  · rw [State.raise_stk, same]
  · exact same

/-- An enrolment leaves the blocks that serve a pass, the settings of LNK and the ports. -/
theorem State.enrolled_rest (s : State) (i : Nat) (f : EnrollFields) :
    SameWork s (s.enrolled i f) ∧ SameSettings s (s.enrolled i f) ∧ (s.enrolled i f).sent = s.sent
      ∧ (s.enrolled i f).link.outbound.filter (·.isReply) = s.link.outbound.filter (·.isReply) := by
  obtain ⟨v, frame⟩ := (s.setReel i (some (newReel s.retained.threshold f))).identifyAt_frame f.location
  have base : SameWork s ((s.setReel i (some (newReel s.retained.threshold f))).identifyAt f.location)
      ∧ SameSettings s ((s.setReel i (some (newReel s.retained.threshold f))).identifyAt f.location) := by
    rw [frame]
    exact ⟨⟨rfl, rfl, rfl, rfl, rfl, rfl, rfl⟩, rfl, rfl, rfl, rfl, rfl, rfl⟩
  obtain ⟨work, settings⟩ := base
  unfold State.enrolled
  dsimp only
  split
  · refine ⟨work.trans ⟨?_, ?_, ?_, ?_, ?_, ?_, ?_⟩, settings.trans (.raise _ _ _), ?_, ?_⟩
    iterate 7 simp
    · rw [State.raise_sent, frame]; rfl
    · rw [State.raise_replies, frame]; rfl
  · refine ⟨work, settings, ?_, ?_⟩
    · rw [frame]; rfl
    · rw [frame]; rfl

theorem State.enrolled_flag (s : State) (i : Nat) (f : EnrollFields) (h : newQuarantine s.retained.threshold f.reading = true) :
    (s.enrolled i f).flag .acidReadingHigh = true := by
  unfold State.enrolled
  dsimp only
  rw [newReel_quarantine, if_pos h, State.flag_raise]
  simp

end Enrolled

/-- Settles O15: the record is `newReel`'s, written field by field in the statement, and what follows it is only what R34 and
R41 ask. -/
theorem enrolmentFillsTheLowestFreeEntry : Obligations.EnrolmentFillsTheLowestFreeEntry := by
  unfold Obligations.EnrolmentFillsTheLowestFreeEntry
  intro s n f i free idle fresh lt entry below length quarantine cls place clamps
  have quarantine_eq : newQuarantine s.retained.threshold f.reading = quarantine := newQuarantine_eq _ _
  have cls_eq : classOf f.base quarantine = cls := classOf_eq _ _
  have ok : Enrollable s i f := ⟨fresh, lt, entry, below, by rw [quarantine_eq, cls_eq]; exact place⟩
  have length_eq : clampLength f.length = length := clampNat_eq (by decide)
  have reading_eq : f.reading.map clampReading = f.reading.map (fun v => min v 30) :=
    congrArg (Option.map · f.reading) (funext clampReading_eq)
  have limit_eq : (f.passLimit.map clampLimit).getD 12 = (f.passLimit.map (fun v => max 1 (min v 16))).getD 12 :=
    congrArg (fun g => (Option.map g f.passLimit).getD 12) (funext clampLimit_eq)
  have clamps_eq : enrollClamps f = clamps := by
    unfold clamps enrollClamps
    rw [length_eq, clampEntry_natCast]
    cases f.reading <;> cases f.passLimit <;> simp [clampEntry?, clampEntry_limit, clampEntry_reading]
  obtain ⟨work, settings, sent, replies⟩ := s.silent.enrolled_rest i f
  have stk := s.silent.enrolled_stk i f
  obtain ⟨v, frame⟩ := s.silent.identifyAt_frame f.location
  obtain ⟨u, run, k⟩ := exec_followed (n := n) (.enrollReel f) _ free ok.serve
    (by unfold NoStart; rw [stk, frame]; exact idle) (replies.trans free.quiet)
  have retained := k.retained.trans (s.silent.enrolled_retained i f)
  refine ⟨u, run, ?_, fun j other => ?_, ?_, ?_, fun p x hx => ?_, fun set => ?_, ?_, ?_, ?_, ?_, ?_, ?_⟩
  · rw [State.reel?_congr retained, State.reel?_setReel, if_pos ⟨rfl, lt⟩]
    have same : s.silent.retained.threshold = s.retained.threshold := rfl
    simp only [newReel, same, quarantine_eq, length_eq, reading_eq, limit_eq, cls_eq]
    cases f.passLimit <;> rfl
  · rw [State.reel?_congr retained, State.reel?_setReel, if_neg fun c => other c.1.symm]
    rfl
  · rw [retained]; rfl
  · rw [retained]; rfl
  · obtain ⟨y, hy, dwell, state⟩ := State.position?_identifyAt s.silent f.location p x hx
    have hy : (s.silent.enrolled i f).position? p = some y := by
      unfold State.position? at hy ⊢
      rwa [stk]
    obtain ⟨z, hz, same, count⟩ := k.stk.positions p y hy
    exact ⟨z, hz, count.trans dwell, same.trans state⟩
  · exact k.kept _ (s.silent.enrolled_flag i f (quarantine_eq.trans set))
  · rw [k.stk.lift, stk, frame]; rfl
  · rw [k.stk.carriage, stk, frame]; rfl
  · exact SameWork.trans ⟨work.stations, work.lanes, work.orders, work.store, work.engine, work.snapshot, work.delivery⟩ k.work
  · exact SameSettings.trans ⟨settings.queue, settings.mask, settings.enable, settings.rejection, settings.clock,
      settings.retainedPassed⟩ k.settings
  · exact k.sent.trans sent
  · rw [← clamps_eq, ← doneOr_eq]
    exact k.replied

end Sys2Proof.Machine
end

section
/-!
PROOFS. Tag and mark reads decide custody, and acid readings reach the record (R16, R19 to R21, R70, R72).
-/

-- One proof after another, as in the model's tests: each thread's stack counts against the memory limit.
set_option Elab.async false

namespace Sys2Proof.Machine

variable {s t : State} {i : Nat} {r : Reel} {st : StationId}

/-! ### One station's record -/

/-- The record of a station, written as it stands. -/
def State.putStation (s : State) (st : StationId) (x : Station) : State := { s with stations := s.stations.set st x }

@[simp] theorem State.station_putStation (s : State) (st : StationId) (x : Station) : (s.putStation st x).station st = x := by
  simp [State.station, State.putStation]

theorem State.station_putStation_of_ne (s : State) {st u : StationId} (x : Station) (h : u ≠ st) :
    (s.putStation st x).station u = s.station u := by
  have hv : st.val ≠ u.val := fun e => h (Fin.ext e.symm)
  simp [State.station, State.putStation, hv]

@[simp] theorem State.putStation_putStation (s : State) (st : StationId) (x y : Station) :
    (s.putStation st x).putStation st y = s.putStation st y := by
  simp [State.putStation]

@[simp] theorem State.putStation_station (s : State) (st : StationId) : s.putStation st (s.station st) = s := by
  simp [State.putStation, State.station]

/-- A change of a station that does not run at speed, or goes on running at speed, is written as it stands (R73). -/
theorem State.updStation_eq_putStation (s : State) (st : StationId) (f : Station → Station)
    (h : (s.station st).runsAtSpeed = false ∨ (f (s.station st)).runsAtSpeed = true) :
    s.updStation st f = s.putStation st (f (s.station st)) := by
  have kept : ((s.station st).runsAtSpeed && !(f (s.station st)).runsAtSpeed) = false := by
    rcases h with h | h <;> simp [h]
  unfold State.station at kept
  simp only [State.updStation, State.putStation, State.station, kept, Bool.false_eq_true, if_false]

/-- A station that leaves RUNNING at speed loses its filter state (R73). -/
theorem State.updStation_stops (s : State) (st : StationId) (f : Station → Station)
    (h : (s.station st).runsAtSpeed = true) (k : (f (s.station st)).runsAtSpeed = false) :
    s.updStation st f = s.putStation st { f (s.station st) with filter := .clear } := by
  have kept : ((s.station st).runsAtSpeed && !(f (s.station st)).runsAtSpeed) = true := by simp [h, k]
  unfold State.station at kept
  simp only [State.updStation, State.putStation, State.station, kept, if_true]

theorem Rested.raise {f : AlertFlag} {n : Names} (h : Rested s) : Rested (s.raise f n) :=
  h.congr (s.raise_retained f n) (s.raise_stk f n)

theorem Rested.putStation {x : Station} (h : Rested s) : Rested (s.putStation st x) := h.congr rfl rfl

/-- The station stands in one of the states in which reads are taken (R70): it does not run at speed. -/
theorem Station.still_of_takesReads {x : Station} (h : x.state.takesReads = true) : x.runsAtSpeed = false := by
  cases e : x.state <;> simp [e, StationState.takesReads] at h <;> simp [Station.runsAtSpeed, e]

/-! ### Reads -/

/-- A read that is not evaluated: the station is EMPTY, or no registered reel is in its chamber (R70). -/
theorem State.readTaken_kept (s : State) (f : Station → Station) (h : (s.station st).state.takesReads = true)
    (alone : (s.station st).state = .empty ∨ s.reelIn st = none) :
    s.readTaken st f = s.putStation st (f (s.station st)) := by
  unfold State.readTaken
  rw [s.updStation_eq_putStation st f (.inl (Station.still_of_takesReads h))]
  dsimp only
  rw [if_neg (by simp [h])]
  split
  · rfl
  · next film =>
    have none' : (s.putStation st (f (s.station st))).reelIn st = none := (alone.resolve_left film)
    unfold State.evaluateCustody
    rw [none']

/-- A read in a station that does not take it is ignored (R70). -/
theorem State.readTaken_ignored (s : State) (f : Station → Station) (h : (s.station st).state.takesReads = false) :
    s.readTaken st f = s := by
  unfold State.readTaken
  dsimp only
  rw [if_pos h]

/-- What the evaluation of custody asks: a registered reel in the chamber whose custody is judged at all (R70). -/
structure Judged (s : State) (st : StationId) (i : Nat) (r : Reel) : Prop where
  inside : s.reelIn st = some i
  record : s.reel? i = some r
  known : r.custody ≠ .none
  open' : r.custody ≠ .mismatch

/-- A LOADED station takes nothing of a change to MISMATCH (R70). -/
theorem State.stationMismatch_loaded (s : State) (h : (s.station st).state = .loaded) : s.stationMismatch st = s := by
  unfold State.stationMismatch
  simp [h]

section Evaluate

variable (h : Judged s st i r)
include h

/-- The evaluation, with its conditions met (R70). -/
theorem Judged.evaluate {c : Custody} (e : judgeCustody r (s.station st).tagRead (s.station st).markRead = c) :
    s.evaluateCustody st =
      if c = .mismatch then ((s.setReel i (some (r.judged c (s.station st).markRead))).raise .custodyMismatch
        { station := some st, reel := some i }).stationMismatch st
      else if c = .verified ∧ r.custody ≠ .verified then
        (s.setReel i (some (r.judged c (s.station st).markRead))).stationVerified st
      else s.setReel i (some (r.judged c (s.station st).markRead)) := by
  unfold State.evaluateCustody
  simp only [h.inside, h.record, e]
  rw [if_neg (by simp [h.known, h.open'])]

/-- Reads that contradict the record: MISMATCH, with the hold set (R20, R21, R70). -/
theorem Judged.mismatch (c : judgeCustody r (s.station st).tagRead (s.station st).markRead = .mismatch)
    (state : (s.station st).state = .loaded) : s.evaluateCustody st =
      (s.setReel i (some { r with custody := .mismatch, hold := true })).raise .custodyMismatch
        { station := some st, reel := some i } := by
  have record : r.judged .mismatch (s.station st).markRead = { r with custody := .mismatch, hold := true } := by
    simp [Reel.judged]
  rw [h.evaluate c, if_pos rfl, record]
  exact State.stationMismatch_loaded _ (by simpa [State.station] using state)

/-- Reads that verify the reel: a LOADED or BROKEN station whose film is threaded becomes THREADED (R70). -/
theorem Judged.verified (c : judgeCustody r (s.station st).tagRead (s.station st).markRead = .verified)
    (change : r.custody ≠ .verified) (state : (s.station st).state = .loaded ∨ (s.station st).state = .broken) :
    s.evaluateCustody st = (s.putStation st { s.station st with
        state := if (s.station st).threaded then StationState.threaded else (s.station st).state }).setReel i
      (some (r.judged .verified (s.station st).markRead)) := by
  have still : (s.station st).runsAtSpeed = false := by
    rcases state with e | e <;> simp [Station.runsAtSpeed, e]
  rw [h.evaluate c, if_neg nofun, if_pos ⟨rfl, change⟩]
  unfold State.stationVerified
  rw [(s.setReel i (some (r.judged .verified (s.station st).markRead))).updStation_eq_putStation st _ (.inl still)]
  have same : (s.setReel i (some (r.judged .verified (s.station st).markRead))).station st = s.station st := rfl
  simp only [same, state, true_and]
  cases threaded : (s.station st).threaded
  · simp only [Bool.false_eq_true, if_false]
    rw [← threaded]
    rfl
  · simp only [if_true]
    rw [← threaded]
    rfl

/-- Reads that neither contradict nor verify (R70). -/
theorem Judged.other {c : Custody} (e : judgeCustody r (s.station st).tagRead (s.station st).markRead = c)
    (clear : c ≠ .mismatch) (open' : c ≠ .verified) :
    s.evaluateCustody st = s.setReel i (some { r with custody := c }) := by
  have record : r.judged c (s.station st).markRead = { r with custody := c } := by
    simp [Reel.judged, clear, open']
  rw [h.evaluate e, if_neg clear, if_neg fun k => open' k.1, record]

end Evaluate

/-- A read that is evaluated: the station stands outside EMPTY (R70). -/
theorem State.readTaken_judged (s : State) (f : Station → Station) (h : (s.station st).state.takesReads = true)
    (film : (s.station st).state ≠ .empty) :
    s.readTaken st f = (s.putStation st (f (s.station st))).evaluateCustody st := by
  unfold State.readTaken
  rw [s.updStation_eq_putStation st f (.inl (Station.still_of_takesReads h))]
  dsimp only
  rw [if_neg (by simp [h]), if_neg film]

/-- A read that ends where nothing is due (R70). -/
theorem exec_tagRead {tag : CanTag} (powered : s.powered = true)
    (e : s.silent.readTaken st (fun x => { x with tagRead := some tag }) = t) (h : Rested t) :
    exec (.tagRead st tag) s = .next t := by
  have run : exec (.tagRead st tag) s = event (fun s => s.tagTaken st tag) s := rfl
  have e : s.silent.tagTaken st tag = t := e
  rw [run, event_rested (fun s => s.tagTaken st tag) s powered (by rw [e]; exact h)]
  exact congrArg _ e

theorem exec_headMarkRead {mark : HeadMark} (powered : s.powered = true)
    (e : s.silent.readTaken st (fun x => { x with markRead := some mark }) = t) (h : Rested t) :
    exec (.headMarkRead st mark) s = .next t := by
  have run : exec (.headMarkRead st mark) s = event (fun s => s.markTaken st mark) s := rfl
  have e : s.silent.markTaken st mark = t := e
  rw [run, event_rested (fun s => s.markTaken st mark) s powered (by rw [e]; exact h)]
  exact congrArg _ e

/-! ### The reads of a registered reel -/

/-- The chamber of a station after a read, its reads written. -/
theorem Judged.putStation {x : Station} (h : Judged s st i r) : Judged (s.silent.putStation st x) st i r :=
  ⟨h.inside, h.record, h.known, h.open'⟩

theorem Rested.judged {x : Station} {q : Reel} (h : Rested s) (e : s.reel? i = some r) (place : q.location = r.location)
    (zone : q.cameFrom = r.cameFrom) : Rested ((s.silent.putStation st x).setReel i (some q)) :=
  h.silent.putStation.setReel e (fun _ k => place ▸ k) zone

section Reads

variable (powered : s.powered = true) (rested : Rested s) (h : Judged s st i r)
include powered rested h

/-- A tag that is not the reel's (R70). -/
theorem exec_tagRead_foreign {tag : CanTag} (state : (s.station st).state = .loaded) (foreign : tag ≠ r.tag) :
    exec (.tagRead st tag) s = .next (((s.silent.putStation st { s.station st with tagRead := some tag }).setReel i
      (some { r with custody := .mismatch, hold := true })).raise .custodyMismatch
        { station := some st, reel := some i }) := by
  refine exec_tagRead powered ?_ (Rested.raise (rested.judged h.record rfl rfl))
  have at' : (s.silent.station st).state = .loaded := state
  rw [s.silent.readTaken_judged _ (by rw [at']; rfl) (by rw [at']; nofun)]
  refine h.putStation.mismatch ?_ (by simpa using at')
  simp [judgeCustody, foreign]

/-- The reel's own tag alone, before any mark (R70). -/
theorem exec_tagRead_own (state : (s.station st).state = .loaded) (mark : (s.station st).markRead = none)
    (custody : r.custody = .unverified) : exec (.tagRead st r.tag) s =
      .next ((s.silent.putStation st { s.station st with tagRead := some r.tag }).setReel i
        (some { r with custody := .tagOk })) := by
  refine exec_tagRead powered ?_ (rested.judged h.record rfl rfl)
  have at' : (s.silent.station st).state = .loaded := state
  have mark : (s.silent.station st).markRead = none := mark
  rw [s.silent.readTaken_judged _ (by rw [at']; rfl) (by rw [at']; nofun)]
  refine h.putStation.other ?_ nofun nofun
  simp [judgeCustody, mark, custody]

/-- A mark with the reel's own tag, where the record has no other mark (R70). -/
theorem exec_headMarkRead_own {mark : HeadMark} (state : (s.station st).state = .loaded)
    (tag : (s.station st).tagRead = some r.tag) (custody : r.custody = .tagOk)
    (same : ∀ m, r.headMark = some m → m = mark) : exec (.headMarkRead st mark) s =
      .next ((s.silent.putStation st { s.station st with
        markRead := some mark, state := if (s.station st).threaded then StationState.threaded else .loaded }).setReel i
          (some { r with custody := .verified, headMark := some mark })) := by
  refine exec_headMarkRead powered ?_ (rested.judged h.record rfl rfl)
  have at' : (s.silent.station st).state = .loaded := state
  have tag : (s.silent.station st).tagRead = some r.tag := tag
  have record : r.judged .verified (some mark) = { r with custody := .verified, headMark := some mark } := by
    cases own : r.headMark with
    | none => simp [Reel.judged, own]
    | some m => simp [Reel.judged, own, same m own]
  have verified : judgeCustody r (some r.tag) (some mark) = .verified := by
    cases own : r.headMark with
    | none => simp [judgeCustody, own, custody]
    | some m => simp [judgeCustody, own, same m own, custody]
  rw [s.silent.readTaken_judged _ (by rw [at']; rfl) (by rw [at']; nofun)]
  rw [h.putStation.verified (by simpa [tag] using verified) (by rw [custody]; nofun) (.inl (by simpa using at'))]
  simp only [State.station_putStation, State.putStation_putStation, record, at']
  rfl

/-- A mark that is not the record's (R70). -/
theorem exec_headMarkRead_foreign {mark m : HeadMark} (state : (s.station st).state = .loaded)
    (tag : (s.station st).tagRead = some r.tag) (own : r.headMark = some m) (foreign : m ≠ mark) :
    exec (.headMarkRead st mark) s = .next (((s.silent.putStation st { s.station st with markRead := some mark }).setReel i
      (some { r with custody := .mismatch, hold := true })).raise .custodyMismatch
        { station := some st, reel := some i }) := by
  refine exec_headMarkRead powered ?_ (Rested.raise (rested.judged h.record rfl rfl))
  have at' : (s.silent.station st).state = .loaded := state
  have tag : (s.silent.station st).tagRead = some r.tag := tag
  rw [s.silent.readTaken_judged _ (by rw [at']; rfl) (by rw [at']; nofun)]
  refine h.putStation.mismatch ?_ (by simpa using at')
  simp [judgeCustody, tag, own, foreign]

/-- The reel's own tag where its custody must be verified again: a hold keeps the custody (R20, R21, R70). -/
theorem exec_tagRead_reverify (state : (s.station st).state = .loaded ∨ (s.station st).state = .broken)
    (mark : (s.station st).markRead = none) (custody : r.custody = .reverify) : exec (.tagRead st r.tag) s =
      .next (if r.hold then (s.silent.putStation st { s.station st with tagRead := some r.tag }).setReel i (some r)
        else (s.silent.putStation st { s.station st with
          tagRead := some r.tag
          state := if (s.station st).threaded then StationState.threaded else (s.station st).state }).setReel i
            (some { r with custody := .verified })) := by
  have at' : (s.silent.station st).state = .loaded ∨ (s.silent.station st).state = .broken := state
  have takes : (s.silent.station st).state.takesReads = true ∧ (s.silent.station st).state ≠ .empty := by
    rcases at' with e | e <;> rw [e] <;> exact ⟨rfl, nofun⟩
  have mark : (s.silent.station st).markRead = none := mark
  cases hold : r.hold with
  | true =>
    refine exec_tagRead powered ?_ (rested.judged h.record rfl rfl)
    rw [s.silent.readTaken_judged _ takes.1 takes.2]
    refine (h.putStation.other (c := .reverify) ?_ nofun nofun).trans ?_
    · simp [judgeCustody, mark, custody, hold]
    · rw [← custody]
      rfl
  | false =>
    rw [if_neg Bool.false_ne_true]
    refine exec_tagRead powered ?_ (rested.judged h.record rfl rfl)
    have record : r.judged .verified (s.silent.station st).markRead = { r with custody := .verified } := by
      rw [mark]
      cases own : r.headMark <;> simp [Reel.judged, own]
    rw [s.silent.readTaken_judged _ takes.1 takes.2]
    rw [h.putStation.verified (by simp [judgeCustody, mark, custody, hold]) (by rw [custody]; nofun) (by simpa using at')]
    simp only [State.station_putStation, State.putStation_putStation, record, hold]
    rfl

end Reads

/-! ### Readings -/

theorem clampInt_eq (v : Int) : clampInt 0 30 v = max 0 (min v 30) := by
  unfold clampInt
  split
  · omega
  · split <;> omega

/-- A reading without a registered reel in the chamber is discarded (R72). -/
theorem exec_acidReading_discarded {v : Int} (powered : s.powered = true) (rested : Rested s) (alone : s.reelIn st = none) :
    exec (.acidReading st v) s = .next s.silent := by
  have e : s.silent.acidTaken st v = s.silent := by
    have alone : s.silent.reelIn st = none := alone
    unfold State.acidTaken
    simp only [alone]
    split <;> rfl
  have run : exec (.acidReading st v) s = event (fun s => s.acidTaken st v) s := rfl
  rw [run, event_rested (fun s => s.acidTaken st v) s powered (by rw [e]; exact rested.silent)]
  exact congrArg _ e

/-- A record whose class is as before is not judged anew (R19). -/
theorem Reel.rehomed_same {c : ReelClass} (h : r.cls = c) : r.rehomed c = r := by
  simp [Reel.rehomed, h]

/-- A reading that sets no flag writes the reading alone (R16, R72). -/
theorem State.recordReading_quiet (s : State) (v : Int) (e : s.reel? i = some r)
    (quiet : (clampInt 0 30 v).toNat < s.retained.threshold ∨ r.quarantine = true) :
    s.recordReading st i v = s.setReel i (some { r with acid := some (clampInt 0 30 v).toNat }) := by
  have alarms : r.readingAlarms s.retained.threshold (clampInt 0 30 v).toNat = false := by
    rcases quiet with low | set
    · simp [Reel.readingAlarms, Nat.not_le.mpr low]
    · simp [Reel.readingAlarms, set]
  have flag : (r.quarantine || decide (s.retained.threshold ≤ (clampInt 0 30 v).toNat)) = r.quarantine := by
    rcases quiet with low | set
    · simp [Nat.not_le.mpr low]
    · simp [set]
  have record : (r.withReading s.retained.threshold (clampInt 0 30 v).toNat).rehomed r.cls
      = { r with acid := some (clampInt 0 30 v).toNat } := by
    unfold Reel.withReading
    rw [flag]
    exact Reel.rehomed_same rfl
  unfold State.recordReading
  simp only [e, record, alarms, Bool.false_eq_true, if_false]

/-- A reading at or above the threshold sets a flag that was clear, and raises ACID READING HIGH (R16, R19, R72). -/
theorem State.recordReading_high (s : State) (v : Int) (e : s.reel? i = some r)
    (high : s.retained.threshold ≤ (clampInt 0 30 v).toNat) (clear : r.quarantine = false) :
    s.recordReading st i v = (s.setReel i (some { r with
      acid := some (clampInt 0 30 v).toNat, quarantine := true
      home := if classOf r.base true = r.cls then r.home else r.home.filter (fun c => zoneOfCell c == classOf r.base true)
      })).raise .acidReadingHigh { station := some st, reel := some i } := by
  have alarms : r.readingAlarms s.retained.threshold (clampInt 0 30 v).toNat = true := by
    simp [Reel.readingAlarms, high, clear]
  unfold State.recordReading
  simp only [e, alarms, if_true, Reel.rehomed_eq, Reel.withReading, high, clear, decide_true, Bool.or_true]
  rfl

/-- Settles O36: the reads case by case through `judgeCustody`, and the readings through `recordReading`. -/
theorem readsAndReadingsReachTheRecord : Obligations.ReadsAndReadingsReachTheRecord := by
  unfold Obligations.ReadsAndReadingsReachTheRecord
  refine ⟨fun s st i r powered rested inside e => ?_, fun s st tag mark powered rested => ?_,
    fun s st reading powered rested => ?_⟩
  · have judged : r.custody ≠ .none → r.custody ≠ .mismatch → Judged s st i r := fun a b => ⟨inside, e, a, b⟩
    refine ⟨fun tag state foreign known open' => ?_, fun state mark custody => ?_, fun mark state tag custody same => ?_,
      fun mark m state tag custody own foreign => ?_, fun state mark custody => ?_⟩
    · exact exec_tagRead_foreign powered rested (judged known open') state foreign
    · exact exec_tagRead_own powered rested (judged (by rw [custody]; nofun) (by rw [custody]; nofun)) state mark custody
    · exact exec_headMarkRead_own powered rested (judged (by rw [custody]; nofun) (by rw [custody]; nofun)) state tag custody
        same
    · exact exec_headMarkRead_foreign powered rested (judged (by rw [custody]; nofun) (by rw [custody]; nofun)) state tag own
        foreign
    · exact exec_tagRead_reverify powered rested (judged (by rw [custody]; nofun) (by rw [custody]; nofun)) state mark
        custody
  · refine ⟨fun alone => ?_, fun a b c d => ?_⟩
    · have takes : (s.silent.station st).state.takesReads = true := by
        have states : (s.silent.station st).state = .empty ∨ (s.silent.station st).state = .loaded
            ∨ (s.silent.station st).state = .threaded ∨ (s.silent.station st).state = .broken := by
          rcases alone with k | ⟨k, -⟩
          · exact .inl k
          · exact .inr k
        rcases states with k | k | k | k <;> rw [k] <;> rfl
      have alone : (s.silent.station st).state = .empty ∨ s.silent.reelIn st = none := alone.imp id (·.2)
      exact ⟨exec_tagRead powered (s.silent.readTaken_kept _ takes alone) rested.silent.putStation,
        exec_headMarkRead powered (s.silent.readTaken_kept _ takes alone) rested.silent.putStation⟩
    · have ignored : (s.silent.station st).state.takesReads = false := by
        have a : (s.silent.station st).state ≠ .empty := a
        have b : (s.silent.station st).state ≠ .loaded := b
        have c : (s.silent.station st).state ≠ .threaded := c
        have d : (s.silent.station st).state ≠ .broken := d
        cases k : (s.silent.station st).state <;> simp_all [StationState.takesReads]
      exact ⟨exec_tagRead powered (s.silent.readTaken_ignored _ ignored) rested.silent,
        exec_headMarkRead powered (s.silent.readTaken_ignored _ ignored) rested.silent⟩
  · refine ⟨exec_acidReading_discarded powered rested, fun i r a b c d inside e => ?_⟩
    have beats : (s.station st).state.beats = true := by
      cases k : (s.station st).state <;> simp_all [StationState.beats]
    rw [exec_acidReading powered rested beats d inside, ← clampInt_eq]
    exact ⟨fun quiet => congrArg _ (s.silent.recordReading_quiet reading e quiet),
      fun high clear => congrArg _ (s.silent.recordReading_high reading e high clear)⟩

end Sys2Proof.Machine
end

section
/-!
PROOFS. Tears and splices are counted in the record, and gathered by the slot (R13, R23, R74, R76, R128).
-/

-- One proof after another, as in the model's tests: each thread's stack counts against the memory limit.
set_option Elab.async false

namespace Sys2Proof.Machine

variable {s t : State} {i k count f : Nat} {r : Reel} {st : StationId} {x : Slot} {kind : DefectKind}

/-- An event whose work ends in a state where nothing of chapter 2 is due ends there. -/
theorem exec_of_event {c : Instr} (work : State → State) (run : exec c s = event work s) (powered : s.powered = true)
    (e : work s.silent = t) (rested : Rested t) : exec c s = .next t := by
  rw [run, event_rested work s powered (by rw [e]; exact rested), e]

/-- A count stands for a frame by the map of the reel in the chamber (R64, R79). -/
theorem State.frameAt_inside (s : State) (inside : s.reelIn st = some i) (e : s.reel? i = some r) (count : Nat) :
    s.frameAt st count = frameOfCount r.segments count := by
  simp only [State.frameAt, inside, e]

/-! ### The RUNNING pass record -/

theorem Reel.updRunning_eq (r : Reel) (g : PassRecord → PassRecord) :
    r.updRunning g = { r with history := r.history.map (fun p => if p.outcome = .running then g p else p) } := by
  simp [Reel.updRunning]

theorem State.updRunning_eq (s : State) (e : s.reel? i = some r) (g : PassRecord → PassRecord) :
    s.updRunning i g = s.setReel i (some { r with
      history := r.history.map (fun p => if p.outcome = .running then g p else p) }) := by
  simp only [State.updRunning, State.updReel, e, Reel.updRunning_eq]

/-! ### A sensor record for a slot (R128) -/

/-- The store with one slot rewritten. -/
def State.putSlot (s : State) (k : Nat) (x : Slot) : State :=
  { s with store := { s.store with slots := s.store.slots.setIfInBounds k x } }

theorem State.updSlot_eq_putSlot (s : State) (e : s.slot? k = some x) (g : Slot → Slot) : s.updSlot k g = s.putSlot k (g x) := by
  unfold State.slot? at e
  simp only [State.updSlot, State.putSlot, e]

theorem Rested.putSlot (h : Rested s) : Rested (s.putSlot k x) := h.congr rfl rfl

/-- The slot with a sensor record of a kind behind those it has (R128). -/
def Slot.gathering (x : Slot) (kind : DefectKind) : Slot :=
  { x with
    defects := x.defects.filter (fun d => d.kind != .host)
      ++ [{ kind := kind, span := none, count := 0, outcome := .marked }]
      ++ x.defects.filter (fun d => d.kind == .host) }

theorem State.sensorRecord_unslotted (s : State) (h : s.slotOf st f = none) : s.sensorRecord st f kind = s := by
  simp only [State.sensorRecord, h]

/-- What a sensor record asks of the store: the slot that holds the frame, before its repair (R128). -/
structure Gathers (s : State) (st : StationId) (f k : Nat) (x : Slot) : Prop where
  slot : s.slotOf st f = some k
  record : s.slot? k = some x
  open' : x.state = .filling ∨ x.state = .waiting ∨ x.state = .queued

namespace Gathers

/-- The store is all a sensor record reads of the slots. -/
theorem congr (h : Gathers s st f k x) (store : t.store = s.store) : Gathers t st f k x := by
  refine ⟨?_, ?_, h.open'⟩
  · rw [← h.slot]
    unfold State.slotOf State.findSlot
    rw [store]
  · rw [← h.record]
    unfold State.slot?
    rw [store]

theorem before (h : Gathers s st f k x) : x.state.beforeRepair = true := by
  rcases h.open' with e | e | e <;> rw [e] <;> rfl

/-- A record of a kind the list holds changes nothing (log entry 83). -/
theorem known (h : Gathers s st f k x) (held : ∃ d ∈ x.defects, d.kind = kind) : s.sensorRecord st f kind = s := by
  have held : x.defects.any (fun d => d.kind == kind) = true := by simpa using held
  simp only [State.sensorRecord, h.slot, h.record, held, or_true, if_true]

theorem new (h : Gathers s st f k x) (fresh : ∀ d ∈ x.defects, d.kind ≠ kind) :
    ¬ (x.state.beforeRepair = false ∨ x.defects.any (fun d => d.kind == kind) = true) := by
  simpa [h.before] using fresh

theorem gathered (h : Gathers s st f k x) (room : x.defects.length < 24) (fresh : ∀ d ∈ x.defects, d.kind ≠ kind) :
    s.sensorRecord st f kind = s.putSlot k (x.gathering kind) := by
  simp only [State.sensorRecord, h.slot, h.record]
  rw [if_neg (h.new fresh), if_neg (by unfold Config.defectLimit; omega), s.updSlot_eq_putSlot h.record]
  rfl

/-- A full list takes the flag DEFECT OVERFLOW (R128). -/
theorem full (h : Gathers s st f k x) (full : 24 ≤ x.defects.length) (fresh : ∀ d ∈ x.defects, d.kind ≠ kind) :
    s.sensorRecord st f kind = (s.putSlot k { x with flags := { x.flags with overflow := true } }).raise .defectOverflow
      { station := some st, reel := (s.openBody? st).bind (·.reel), frame := some f } := by
  simp only [State.sensorRecord, h.slot, h.record]
  rw [if_neg (h.new fresh), if_pos (by unfold Config.defectLimit; omega), s.updSlot_eq_putSlot h.record]

end Gathers

/-! ### Tears (R74) -/

/-- The state with a tear of the reel's RUNNING pass counted, and found in the last torn frame (R74). -/
def State.torn (s : State) (st : StationId) (i f : Nat) (r : Reel) : State :=
  (s.putStation st { s.station st with lastTear := some f }).setReel i (some { r with
    history := r.history.map (fun p => if p.outcome = .running then { p with tears := p.tears + 1 } else p) })

/-- A tear in a frame that was not the last torn one is counted, and handed to the slot (R74). -/
theorem State.tearFound_new (s : State) (inside : s.reelIn st = some i) (e : s.reel? i = some r)
    (new : (s.station st).lastTear ≠ some f) :
    s.tearFound st (some f) = (s.torn st i f r).sensorRecord st f .tear := by
  have kept : (s.station st).runsAtSpeed = false ∨ ({ s.station st with lastTear := some f } : Station).runsAtSpeed = true := by
    cases h : (s.station st).runsAtSpeed with
    | false => exact .inl rfl
    | true => exact .inr h
  have inside' : (s.putStation st { s.station st with lastTear := some f }).reelIn st = some i := inside
  simp only [State.tearFound, if_neg new]
  rw [s.updStation_eq_putStation st _ kept, State.addTear, inside']
  dsimp only
  have record : (s.putStation st { s.station st with lastTear := some f }).reel? i = some r := e
  rw [State.updRunning_eq _ record]
  rfl

/-- A tear sensed again in the last torn frame is not counted (R74). -/
theorem State.tearFound_again (s : State) (again : (s.station st).lastTear = some f) : s.tearFound st (some f) = s := by
  simp only [State.tearFound, if_pos again]

theorem exec_tearSense (powered : s.powered = true) (running : (s.station st).state = .running)
    (frame : s.frameAt st count = some f) (e : s.silent.tearFound st (some f) = t) (rested : Rested t) :
    exec (.tearSense st count) s = .next t := by
  refine exec_of_event (fun s => s.tearTaken st count) rfl powered ?_ rested
  have running : (s.silent.station st).state = .running := running
  have frame : s.silent.frameAt st count = some f := frame
  simp only [State.tearTaken, running, true_or, if_true, frame, e]

/-! ### Splices (R13, R76) -/

theorem exec_splice (powered : s.powered = true) (running : (s.station st).state = .running)
    (inside : s.reelIn st = some i) (frame : s.frameAt st count = some f)
    (e : (s.silent.applySplice st i f).sensorRecord st f .splice = t) (rested : Rested t) :
    exec (.splice st count) s = .next t := by
  refine exec_of_event (fun s => s.spliceTaken st count) rfl powered ?_ rested
  have takes : (s.silent.station st).takesSplice = true := by
    have running : (s.silent.station st).state = .running := running
    simp [Station.takesSplice, running]
  have frame : s.silent.frameAt st count = some f := frame
  have inside : s.silent.reelIn st = some i := inside
  simp only [State.spliceTaken, takes, Bool.true_eq_false, if_false, frame, inside, e]

/-- A splice the map has leaves it (R13). -/
theorem spliceEffect_known {map : List Segment} {g : Segment} (at' : segmentAt map f = some g)
    (known : g.first = f ∧ g.spliceStart = true) : spliceEffect map f = .known := by
  simp only [spliceEffect, at', known.1, known.2, if_true]

/-- A splice at the first frame of a segment sets its flag (R13). -/
theorem spliceEffect_start {map : List Segment} {g : Segment} (at' : segmentAt map f = some g) (first : g.first = f)
    (clear : g.spliceStart = false) : spliceEffect map f =
      .boundary (map.map (fun h => if h.first = f then { h with spliceStart := true } else h)) := by
  simp only [spliceEffect, at', first, clear, if_true, Bool.false_eq_true, if_false]

/-- A splice inside a segment splits it (R13). -/
theorem spliceEffect_split {map : List Segment} {g : Segment} (at' : segmentAt map f = some g) (later : g.first < f)
    (room : map.length < 32) : spliceEffect map f = .boundary (map.flatMap (fun h => if h.first < f ∧ f ≤ h.last then
      [{ h with last := f - 1 }, { h with first := f, spliceStart := true }] else [h])) := by
  simp only [spliceEffect, at']
  rw [if_neg (by omega), if_neg (by unfold Config.segmentLimit; omega)]
  simp only [Segment.split, Bool.and_eq_true, decide_eq_true_eq]

/-- A map of 32 segments is not split (R13). -/
theorem spliceEffect_full {map : List Segment} {g : Segment} (at' : segmentAt map f = some g) (later : g.first < f)
    (full : 32 ≤ map.length) : spliceEffect map f = .full := by
  simp only [spliceEffect, at']
  rw [if_neg (by omega), if_pos (by unfold Config.segmentLimit; omega)]

theorem State.applySplice_known (s : State) (e : s.reel? i = some r) (effect : spliceEffect r.segments f = .known) :
    s.applySplice st i f = s := by
  simp only [State.applySplice, e, effect]

theorem State.applySplice_boundary (s : State) {map : List Segment} (e : s.reel? i = some r)
    (effect : spliceEffect r.segments f = .boundary map) : s.applySplice st i f = s.setReel i (some { r with
      segments := map
      history := r.history.map (fun p => if p.outcome = .running then { p with boundaries := p.boundaries + 1 } else p) }) := by
  simp only [State.applySplice, e, effect, Reel.updRunning_eq]

theorem State.applySplice_full (s : State) (e : s.reel? i = some r) (effect : spliceEffect r.segments f = .full) :
    s.applySplice st i f = (s.setReel i (some { r with
      history := r.history.map (fun p => if p.outcome = .running then { p with unrecorded := p.unrecorded + 1 } else p)
      })).raise .segmentTableFull { station := some st, reel := some i, frame := some f } := by
  simp only [State.applySplice, e, effect, Reel.updRunning_eq]

/-- Settles O39: the count and the map by `tearFound` and `spliceEffect`, the slot by `sensorRecord`. -/
theorem tearsAndSplicesAreCounted : Obligations.TearsAndSplicesAreCounted := by
  unfold Obligations.TearsAndSplicesAreCounted
  intro s st i count f r g powered rested inside e count' at' running
  have inside : s.reelIn st = some i := inside
  have frame : s.frameAt st count = some f := (s.frameAt_inside inside e count).trans count'
  have torn_rested : Rested (s.silent.torn st i f r) := rested.silent.putStation.setReel e
  have tear {t : State} (new : (s.station st).lastTear ≠ some f)
      (sensor : (s.silent.torn st i f r).sensorRecord st f .tear = t) (rest : Rested t) :
      exec (.tearSense st count) s = .next t :=
    exec_tearSense powered running frame ((s.silent.tearFound_new inside e new).trans sensor) rest
  have splice {u t : State} (map : s.silent.applySplice st i f = u) (sensor : u.sensorRecord st f .splice = t)
      (rest : Rested t) : exec (.splice st count) s = .next t :=
    exec_splice powered running inside frame (by rw [map]; exact sensor) rest
  have known (h : g.first = f ∧ g.spliceStart = true) : s.silent.applySplice st i f = s.silent :=
    s.silent.applySplice_known e (spliceEffect_known at' h)
  refine ⟨fun again => ?_, fun unslotted => ?_, fun k x slot record open' => ?_⟩
  · exact exec_tearSense powered running frame (s.silent.tearFound_again again) rested.silent
  · have absent {t : State} {kind : DefectKind} (store : t.store = s.store) : t.sensorRecord st f kind = t := by
      refine t.sensorRecord_unslotted ?_
      rw [← unslotted]
      unfold State.slotOf State.findSlot
      rw [store]
    refine ⟨fun new => tear new (absent rfl) torn_rested, fun later room => ?_, fun later full => ?_,
      fun first clear => ?_, fun h => splice (known h) (absent rfl) rested.silent⟩
    · exact splice (s.silent.applySplice_boundary e (spliceEffect_split at' later room)) (absent rfl)
        (rested.silent.setReel e)
    · exact splice (s.silent.applySplice_full e (spliceEffect_full at' later full)) (absent rfl)
        (rested.silent.setReel e).raise
    · exact splice (s.silent.applySplice_boundary e (spliceEffect_start at' first clear)) (absent rfl)
        (rested.silent.setReel e)
  · have gathers : Gathers s st f k x := ⟨slot, record, open'⟩
    have torn : Gathers (s.silent.torn st i f r) st f k x := gathers.congr rfl
    have silent : Gathers s.silent st f k x := gathers.congr rfl
    refine ⟨fun room => ⟨fun new fresh => ?_, fun h fresh => ?_⟩, fun new held => ?_,
      fun b full fresh h opened body => ?_⟩
    · exact tear new (torn.gathered room fresh) torn_rested.putSlot
    · exact splice (known h) (silent.gathered room fresh) rested.silent.putSlot
    · exact tear new (torn.known held) torn_rested
    · have names : (s.silent.openBody? st).bind (·.reel) = b.reel := by
        have opened : (s.silent.order st).state ≠ .closed := opened
        have body : (s.silent.order st).body = some b := body
        simp [State.openBody?, State.hasOrder, opened, body]
      have full' := silent.full full fresh
      rw [names] at full'
      exact splice (known h) full' rested.silent.putSlot.raise

end Sys2Proof.Machine
end

section
/-!
PROOFS. The perforation filter, the judgement of an interval and the shrinkage it measures (R23, R73 to R75, R78).
-/

-- One proof after another, as in the model's tests: each thread's stack counts against the memory limit.
set_option Elab.async false

namespace Sys2Proof.Machine

variable {s t : State} {i x : Nat} {r : Reel} {st : StationId}

/-! ### A station that keeps its speed -/

@[simp] theorem State.reel?_putStation (s : State) (st : StationId) (y : Station) (i : Nat) :
    (s.putStation st y).reel? i = s.reel? i := rfl

@[simp] theorem State.reelIn_putStation (s : State) (st u : StationId) (y : Station) :
    (s.putStation st y).reelIn u = s.reelIn u := rfl

theorem State.station_setReel (s : State) (i : Nat) (q : Option Reel) (st : StationId) :
    (s.setReel i q).station st = s.station st := rfl

/-- A station's record written again after a reel's. -/
theorem State.putStation_setReel_putStation (s : State) (st : StationId) (i : Nat) (q : Option Reel) (y z : Station) :
    ((s.putStation st y).setReel i q).putStation st z = (s.putStation st z).setReel i q :=
  congrArg (·.setReel i q) (s.putStation_putStation st y z)

/-- A change that leaves whether the station runs at speed is written as it stands (R73). -/
theorem State.updStation_sameSpeed (s : State) (st : StationId) (f : Station → Station)
    (h : (f (s.station st)).runsAtSpeed = (s.station st).runsAtSpeed) :
    s.updStation st f = s.putStation st (f (s.station st)) := by
  refine s.updStation_eq_putStation st f ?_
  rw [h]
  cases (s.station st).runsAtSpeed
  · exact .inl rfl
  · exact .inr rfl

theorem Station.runsAtSpeed_iff (t : Station) : t.runsAtSpeed = true ↔ t.state = .running ∧ t.motion = .atSpeed := by
  simp [Station.runsAtSpeed]

/-! ### The filter (R73) -/

/-- A new level alone, not yet held for the setting, stays pending. -/
theorem Filter.run_pending {l m : Level} {e : Option Nat} {start : Level} {hold y : Nat} (new : l ≠ m) (early : y < x + hold) :
    Filter.run { level := some l, pendingAt := none, reference := e } hold
      { start := start, transitions := [{ position := x, level := m }], reached := y } =
        { level := l, pendingAt := some x, edges := [] } := by
  have late : ¬ x + hold ≤ y := by omega
  simp [Filter.run, inOrder, insertTransition, FilterRun.examine, FilterRun.acceptAt, new.symm, late]

/-- A level that returns before the setting is dropped. -/
theorem Filter.run_glitch {l m : Level} {e : Option Nat} {start : Level} {hold y z : Nat} (new : l ≠ m) (later : x < y)
    (early : y < x + hold) :
    Filter.run { level := some l, pendingAt := none, reference := e } hold
      { start := start, transitions := [{ position := x, level := m }, { position := y, level := l }], reached := z } =
        { level := l, pendingAt := none, edges := [] } := by
  have late : ¬ x + hold ≤ y := by omega
  have order : ¬ y < x := by omega
  simp [Filter.run, inOrder, insertTransition, FilterRun.examine, FilterRun.acceptAt, new.symm, late, order]

/-- A level held for the setting, come in this report or pending from the one before, is accepted. -/
theorem Filter.run_accepted {l : Level} {e : Option Nat} {f : PerfFields} {w : Filter} {hold : Nat} (held : x + hold ≤ f.reached)
    (h : (w = { level := some l, pendingAt := none, reference := e } ∧
        ∃ m, m ≠ l ∧ f.transitions = [{ position := x, level := m }])
      ∨ (w = { level := some l, pendingAt := some x, reference := e } ∧ f.transitions = [])) :
    w.run hold f = { level := l.other, pendingAt := none, edges := if l.other = .hole then [x] else [] } := by
  rcases h with ⟨rfl, m, new, single⟩ | ⟨rfl, empty⟩
  · simp [Filter.run, inOrder, insertTransition, FilterRun.examine, FilterRun.acceptAt, new, single, held]
  · simp [Filter.run, inOrder, FilterRun.acceptAt, empty, held]

/-! ### A report taken (R73) -/

/-- The state with the filter of a station as given. -/
def State.filtered (s : State) (st : StationId) (w : Filter) : State := s.putStation st { s.station st with filter := w }

/-- What a report needs to be judged: a station that runs at speed, with a registered reel in its chamber. -/
structure Measured (s : State) (st : StationId) (i : Nat) (r : Reel) : Prop where
  speed : (s.station st).runsAtSpeed = true
  inside : s.reelIn st = some i
  record : s.reel? i = some r

/-- A station that does not run at speed takes no report (R73). -/
theorem State.perfTaken_slow (s : State) (f : PerfFields) (h : (s.station st).runsAtSpeed = false) : s.perfTaken st f = s := by
  simp only [State.perfTaken, h, if_true]

/-- A report runs the filter, and each leading edge it finds is judged in turn (R73, R74). -/
theorem Measured.perfTaken (h : Measured s st i r) {f : PerfFields} {run : FilterRun}
    (e : (s.station st).filter.run (s.station st).filterSetting f = run) :
    s.perfTaken st f = run.edges.foldl (fun s x => s.leadingEdge st i r.gauge.pitch x)
      (s.filtered st { level := some run.level, pendingAt := run.pendingAt, reference := (s.station st).filter.reference }) := by
  simp only [State.perfTaken, h.speed, Bool.true_eq_false, if_false, e]
  rw [s.updStation_sameSpeed st _ (by rfl)]
  simp only [State.reelIn_putStation, h.inside, State.reel?_putStation, h.record]
  rfl

/-! ### A leading edge (R74) -/

section Edge

variable {w : Filter} {pitch reference : Nat}

/-- The first edge becomes the reference. -/
theorem State.leadingEdge_first (s : State) (h : w.reference = none) :
    (s.filtered st w).leadingEdge st i pitch x = s.filtered st { w with reference := some x } := by
  simp only [State.leadingEdge, State.filtered, State.station_putStation, h]
  rw [State.updStation_sameSpeed]
  · simp
  · rfl

/-- A short interval is no edge. -/
theorem State.leadingEdge_short (s : State) (h : w.reference = some reference) (short : 2 * (x - reference) < pitch) :
    (s.filtered st w).leadingEdge st i pitch x = s.filtered st w := by
  simp only [State.leadingEdge, State.filtered, State.station_putStation, h, judgeInterval, short, if_true]

/-- An accepted interval becomes the reference and is measured. -/
theorem State.leadingEdge_accepted (s : State) (h : w.reference = some reference) (long : pitch ≤ 2 * (x - reference))
    (fits : 2 * (x - reference) ≤ 3 * pitch) : (s.filtered st w).leadingEdge st i pitch x =
      (s.filtered st { w with reference := some x }).intervalAccepted st i (shrinkageOf pitch (x - reference)) := by
  simp only [State.leadingEdge, State.filtered, State.station_putStation, h, judgeInterval]
  rw [if_neg (by omega), if_pos fits]
  dsimp only
  rw [State.updStation_sameSpeed]
  · simp
  · rfl

/-- A long interval is a tear in the last gate frame, and becomes the reference. -/
theorem State.leadingEdge_tear (s : State) (h : w.reference = some reference) (long : 3 * pitch < 2 * (x - reference)) :
    (s.filtered st w).leadingEdge st i pitch x =
      (s.filtered st { w with reference := some x }).tearFound st (s.station st).lastGate := by
  simp only [State.leadingEdge, State.filtered, State.station_putStation, h, judgeInterval]
  rw [if_neg (by omega), if_neg (by omega)]
  dsimp only
  rw [State.updStation_sameSpeed]
  · simp
  · rfl

/-- A new tear in a frame no slot holds is counted alone (R74). -/
theorem State.tearFound_unslotted (s : State) {f : Nat} (inside : s.reelIn st = some i) (e : s.reel? i = some r)
    (new : (s.station st).lastTear ≠ some f) (slot : s.slotOf st f = none) :
    s.tearFound st (some f) = s.torn st i f r :=
  (s.tearFound_new inside e new).trans (State.sensorRecord_unslotted (s.torn st i f r) slot)

/-- A tear in no known frame is counted alone (R74). -/
theorem State.tearFound_nowhere (s : State) (inside : s.reelIn st = some i) (e : s.reel? i = some r) :
    s.tearFound st none = s.setReel i (some { r with
      history := r.history.map (fun p => if p.outcome = .running then { p with tears := p.tears + 1 } else p) }) := by
  simp only [State.tearFound, State.addTear, inside, State.updRunning_eq s e]

end Edge

/-! ### The shrinkage (R23, R75, R78) -/

theorem shrinkageOf_eq (pitch p : Nat) :
    shrinkageOf pitch p = max (-200) (min (roundAway (((pitch : Int) - p) * 10000) pitch) 1000) := by
  unfold shrinkageOf clampInt
  split
  · omega
  · split <;> omega

theorem windowFigure_pushWindow (w : List Int) (v : Int) :
    windowFigure (pushWindow w v) = some (roundAway (pushWindow w v).sum (pushWindow w v).length) := by
  have full : (pushWindow w v).isEmpty = false := by
    rw [List.isEmpty_eq_false_iff, ← List.length_pos_iff]
    simp only [pushWindow, List.length_drop, List.length_append, List.length_singleton]
    omega
  simp only [windowFigure, full, Bool.false_eq_true, if_false]

/-- The figure is above the ceiling of the profile in force (R77, R78). -/
def Station.fallsBack (t : Station) (figure : Int) : Prop :=
  (t.profile = some .fast ∧ 120 < figure) ∨ (t.profile = some .standard ∧ 220 < figure)

/-- A figure above the ceiling makes the fallback pending, never at a faster profile than one pending (R78). -/
theorem Station.fallBack_above (t : Station) {figure : Int} (h : t.fallsBack figure) : t.fallBack figure =
    { t with fallback := some (t.fallback.elim (profileFor figure) (·.slower (profileFor figure))) } := by
  rcases h with ⟨profile, above⟩ | ⟨profile, above⟩ <;>
    cases pending : t.fallback <;> simp [Station.fallBack, profile, Profile.ceiling, above, pending]

/-- A figure up to the ceiling changes nothing (R78). -/
theorem Station.fallBack_within (t : Station) {figure : Int} (h : ¬ t.fallsBack figure) : t.fallBack figure = t := by
  unfold Station.fallsBack at h
  unfold Station.fallBack
  cases profile : t.profile with
  | none => rfl
  | some p =>
    cases p with
    | step => rfl
    | fast => exact if_neg fun above => h (.inl ⟨profile, above⟩)
    | standard => exact if_neg fun above => h (.inr ⟨profile, above⟩)

theorem Station.fallBack_runsAtSpeed (t : Station) (figure : Int) : (t.fallBack figure).runsAtSpeed = t.runsAtSpeed := by
  by_cases h : t.fallsBack figure
  · rw [t.fallBack_above h]
    rfl
  · rw [t.fallBack_within h]

/-- The record of the reel with its peak no lower than a running figure (R23). -/
def Reel.peaked (r : Reel) (figure : Int) : Reel :=
  { r with history := r.history.map (fun p => if p.outcome = .running then p.withFigure figure else p) }

/-- An accepted interval: the window takes the figure of the interval, the peak and the fallback follow the running
figure (R23, R75, R78). -/
theorem State.intervalAccepted_eq (s : State) (e : s.reel? i = some r) (v : Int) {w : List Int} {figure : Int}
    (window : pushWindow (s.station st).window v = w) (mean : roundAway w.sum w.length = figure) :
    s.intervalAccepted st i v =
      (s.putStation st (({ s.station st with window := w } : Station).fallBack figure)).setReel i
        (some (r.peaked figure)) := by
  subst window mean
  have pushed : s.updStation st (fun t => { t with window := pushWindow t.window v })
      = s.putStation st { s.station st with window := pushWindow (s.station st).window v } :=
    s.updStation_sameSpeed st _ rfl
  unfold State.intervalAccepted
  simp only [pushed, State.station_putStation, windowFigure_pushWindow, State.updRunning, State.updReel,
    State.reel?_putStation, e, Reel.updRunning_eq]
  rw [State.updStation_sameSpeed _ _ _ (Station.fallBack_runsAtSpeed _ _)]
  rw [State.putStation_setReel_putStation, State.station_setReel, State.station_putStation]
  rfl

/-- The record of a station after a running figure, case by case as R78 gives the fallback. -/
theorem Station.fallBack_eq (t : Station) (figure : Int) : t.fallBack figure = { t with
    fallback := if (t.profile = some .fast ∧ 120 < figure) ∨ (t.profile = some .standard ∧ 220 < figure) then
      some (t.fallback.elim (profileFor figure) (·.slower (profileFor figure))) else t.fallback } := by
  by_cases h : t.fallsBack figure
  · rw [t.fallBack_above h]
    unfold Station.fallsBack at h
    rw [if_pos h]
  · rw [t.fallBack_within h]
    unfold Station.fallsBack at h
    rw [if_neg h]

theorem PassRecord.withFigure_eq (p : PassRecord) (figure : Int) :
    p.withFigure figure = { p with peak := some (p.peak.elim figure (max · figure)) } := by
  cases peak : p.peak with
  | none => simp [PassRecord.withFigure, peak]
  | some v =>
    simp only [PassRecord.withFigure, peak, Option.elim]
    congr 2
    split <;> omega

/-! ### PERF INTERVAL as an event -/

theorem exec_perfInterval {f : PerfFields} (powered : s.powered = true) (e : s.silent.perfTaken st f = t) (rested : Rested t) :
    exec (.perfInterval st f) s = .next t :=
  exec_of_event (fun s => s.perfTaken st f) rfl powered e rested

theorem Rested.filtered {w : Filter} (h : Rested s) : Rested (s.silent.filtered st w) := h.silent.putStation

section Reports

variable {l : Level} {pending e : Option Nat} {f : PerfFields}
variable (powered : s.powered = true) (h : Measured s st i r) (start : (s.station st).filter.reference = e)
include powered h start

/-- A report that finds no leading edge leaves the filter its run ends with (R73). -/
theorem exec_perfInterval_noEdge (rested : Rested s)
    (run : (s.station st).filter.run (s.station st).filterSetting f = { level := l, pendingAt := pending, edges := [] }) :
    exec (.perfInterval st f) s = .next (s.silent.filtered st { level := some l, pendingAt := pending, reference := e }) := by
  subst start
  have h : Measured s.silent st i r := ⟨h.speed, h.inside, h.record⟩
  exact exec_perfInterval powered (h.perfTaken run) rested.filtered

/-- A report that finds one leading edge ends with the judgement of it (R73, R74). -/
theorem exec_perfInterval_edge
    (run : (s.station st).filter.run (s.station st).filterSetting f = { level := .hole, pendingAt := none, edges := [x] })
    (judged : (s.silent.filtered st { level := some .hole, pendingAt := none, reference := e }).leadingEdge st i
      r.gauge.pitch x = t) (rest : Rested t) : exec (.perfInterval st f) s = .next t := by
  subst start
  have h : Measured s.silent st i r := ⟨h.speed, h.inside, h.record⟩
  exact exec_perfInterval powered ((h.perfTaken run).trans judged) rest

/-- An accepted interval (R23, R74, R75, R78): the window, the running figure, the peak and the fallback. -/
theorem exec_perfInterval_measured {reference : Nat} {w : List Int} {figure : Int} (rested : Rested s)
    (run : (s.station st).filter.run (s.station st).filterSetting f = { level := .hole, pendingAt := none, edges := [x] })
    (before : e = some reference) (long : r.gauge.pitch ≤ 2 * (x - reference))
    (fits : 2 * (x - reference) ≤ 3 * r.gauge.pitch)
    (window : pushWindow (s.station st).window (shrinkageOf r.gauge.pitch (x - reference)) = w)
    (mean : roundAway w.sum w.length = figure) : exec (.perfInterval st f) s = .next
      ((s.silent.putStation st { s.station st with
        filter := { level := some .hole, pendingAt := none, reference := some x }
        window := w
        fallback := if ((s.station st).profile = some .fast ∧ 120 < figure)
            ∨ ((s.station st).profile = some .standard ∧ 220 < figure) then
          some ((s.station st).fallback.elim (profileFor figure) (·.slower (profileFor figure)))
          else (s.station st).fallback }).setReel i (some { r with
            history := r.history.map (fun p => if p.outcome = .running then
              { p with peak := some (p.peak.elim figure (max · figure)) } else p) })) := by
  have record : (s.silent.filtered st { level := some .hole, pendingAt := none, reference := some x }).reel? i = some r :=
    h.record
  refine exec_perfInterval_edge powered h start run ((s.silent.leadingEdge_accepted before long fits).trans
    ((State.intervalAccepted_eq _ record _ (w := w) ?_ mean).trans ?_)) (rested.silent.putStation.setReel h.record)
  · rw [State.filtered, State.station_putStation]
    exact window
  · rw [State.filtered, State.putStation_putStation, State.station_putStation, Station.fallBack_eq]
    simp only [Reel.peaked, PassRecord.withFigure_eq]
    rfl

end Reports

/-- Settles O38: the filter's run report by report, then the judgement of the one edge it finds. -/
theorem perforationsMeasureShrinkage : Obligations.PerforationsMeasureShrinkage := by
  unfold Obligations.PerforationsMeasureShrinkage
  intro s st i x r powered rested inside record
  refine ⟨fun slow f => ?_, fun running speed => ⟨fun l y clear => ?_, fun l m e filter start y z new =>
    ⟨fun early => ?_, fun later early => ?_⟩, fun e f l held come => ?_⟩⟩
  · have slow : (s.silent.station st).runsAtSpeed = false := Bool.eq_false_iff.mpr (mt (Station.runsAtSpeed_iff _).mp slow)
    exact exec_perfInterval powered (s.silent.perfTaken_slow f slow) rested.silent
  all_goals
    have measured : Measured s st i r := ⟨(Station.runsAtSpeed_iff _).mpr ⟨running, speed⟩, inside, record⟩
  · exact exec_perfInterval_noEdge powered measured (by rw [clear]; rfl) rested (by rw [clear]; rfl)
  · exact exec_perfInterval_noEdge powered measured (by rw [filter]) rested (by rw [filter, Filter.run_pending new early])
  · exact exec_perfInterval_noEdge powered measured (by rw [filter]) rested
      (by rw [filter, Filter.run_glitch new later early])
  · have run := Filter.run_accepted held come
    have reference : (s.station st).filter.reference = e := by
      rcases come with ⟨filter, -⟩ | ⟨filter, -⟩ <;> rw [filter]
    refine ⟨fun hole => ?_, fun film first => ?_, fun reference' film before => ⟨fun short => ?_, fun long fits => ?_, fun long =>
      ⟨fun g gate again => ?_, fun g gate new slot => ?_, fun gate => ?_⟩⟩⟩
    · subst hole
      exact exec_perfInterval_noEdge powered measured reference rested run
    all_goals
      subst film
      have edge {t : State} := exec_perfInterval_edge (t := t) powered measured reference run
    · exact edge (s.silent.leadingEdge_first first) rested.filtered
    · exact edge (s.silent.leadingEdge_short before short) rested.filtered
    · refine (exec_perfInterval_measured powered measured reference rested run before long fits
        (congrArg _ (shrinkageOf_eq _ _)) rfl).trans ?_
      refine congrArg _ (congrArg₂ (fun y q => (s.silent.putStation st y).setReel i (some q)) ?_ ?_)
      · cases (s.station st).fallback <;> rfl
      · refine congrArg (fun h => { r with history := h }) (List.map_congr_left fun p _ => ?_)
        cases p.peak <;> rfl
    · exact edge ((s.silent.leadingEdge_tear before long).trans
        ((congrArg _ gate).trans (State.tearFound_again _
          (by rw [State.filtered, State.station_putStation]; exact again)))) rested.filtered
    · have new : ((s.silent.filtered st { level := some .hole, pendingAt := none, reference := some x }).station st).lastTear
          ≠ some g := by
        rw [State.filtered, State.station_putStation]
        exact new
      refine edge ((s.silent.leadingEdge_tear before long).trans ((congrArg _ gate).trans
        ((State.tearFound_unslotted (s.silent.filtered st _) inside record new slot).trans ?_)))
        (rested.silent.putStation.setReel record)
      rw [State.torn, State.filtered, State.putStation_putStation, State.station_putStation]
      rfl
    · exact edge ((s.silent.leadingEdge_tear before long).trans
        ((congrArg _ gate).trans (State.tearFound_nowhere _ inside record))) (rested.filtered.setReel record)

end Sys2Proof.Machine
end

section
/-!
PROOFS. What beginning a capture, prerolling, recovering and granting a lane each leave unchanged (R79 to R82, R87, R89 to
R91, R110).
-/

-- One proof after another, as in the model's tests: each thread's stack counts against the memory limit.
set_option Elab.async false

namespace Sys2Proof.Machine

variable {s t v : State} {i k : Nat} {r : Reel} {st : StationId} {b : OrderBody} {l : LaneId}

/-! ### Work of one station -/

theorem FlagsKept.refl (s : State) : FlagsKept s s := fun _ h => h

theorem FlagsKept.trans (h : FlagsKept s t) (k : FlagsKept t v) : FlagsKept s v := fun f x => k f (h f x)

theorem FlagsKept.of_link (h : t.link = s.link) : FlagsKept s t := fun f x => by
  unfold State.flag at *
  rwa [h]

theorem FlagsKept.raise (s : State) (f : AlertFlag) (n : Names) : FlagsKept s (s.raise f n) := fun g x => by
  rw [State.flag_raise, x, Bool.true_or]

/-- Work that leaves the stacks, keeps every flag that was set, and takes back nothing that was sent. -/
structure Onward (s t : State) : Prop where
  stk : t.stk = s.stk
  kept : FlagsKept s t
  sent : ∀ e ∈ s.sent, e ∈ t.sent

theorem Onward.refl (s : State) : Onward s s := ⟨rfl, .refl s, fun _ h => h⟩

theorem Onward.trans (h : Onward s t) (k : Onward t v) : Onward s v :=
  ⟨k.stk.trans h.stk, h.kept.trans k.kept, fun e m => k.sent e (h.sent e m)⟩

theorem Onward.quiet (stk : t.stk = s.stk) (link : t.link = s.link) (sent : t.sent = s.sent) : Onward s t :=
  ⟨stk, .of_link link, fun e m => by rwa [sent]⟩

/-- Work for station `st` that leaves the records of the other stations. -/
structure Onto (st : StationId) (s t : State) : Prop extends Onward s t where
  others : ∀ u, u ≠ st → t.station u = s.station u

theorem Onto.refl (s : State) : Onto st s s := ⟨.refl s, fun _ _ => rfl⟩

theorem Onto.trans (h : Onto st s t) (k : Onto st t v) : Onto st s v :=
  ⟨h.toOnward.trans k.toOnward, fun u n => (k.others u n).trans (h.others u n)⟩

/-- Work that touches no station, no flag, no stack and no port. -/
theorem Onto.quiet (stk : t.stk = s.stk) (link : t.link = s.link) (sent : t.sent = s.sent) (stations : t.stations = s.stations) :
    Onto st s t :=
  ⟨.quiet stk link sent, fun u _ => by simp [State.station, stations]⟩

theorem Onto.updStation (s : State) (st : StationId) (f : Station → Station) : Onto st s (s.updStation st f) :=
  ⟨.quiet rfl rfl rfl, fun u n => by rw [State.station_updStation, if_neg n]⟩

theorem Onto.raise (s : State) (f : AlertFlag) (n : Names) : Onto st s (s.raise f n) :=
  ⟨⟨rfl, .raise s f n, fun _ h => h⟩, fun _ _ => rfl⟩

theorem Onto.toStation (s : State) (u : StationId) (c : StationCommand) : Onto st s (s.toStation u c) :=
  ⟨⟨rfl, .of_link rfl, fun _ h => List.mem_append_left _ h⟩, fun _ _ => rfl⟩

/-! ### Beginning a pass (R110) -/

@[simp] theorem State.beginPassIfFirst_stk (s : State) (st : StationId) : (s.beginPassIfFirst st).stk = s.stk := by
  unfold State.beginPassIfFirst State.beginPass
  repeat' split
  all_goals simp

@[simp] theorem State.beginPassIfFirst_stations (s : State) (st : StationId) :
    (s.beginPassIfFirst st).stations = s.stations := by
  unfold State.beginPassIfFirst State.beginPass
  repeat' split
  all_goals simp

@[simp] theorem State.beginPassIfFirst_store (s : State) (st : StationId) : (s.beginPassIfFirst st).store = s.store := by
  unfold State.beginPassIfFirst State.beginPass
  repeat' split
  all_goals simp

@[simp] theorem State.beginPassIfFirst_link (s : State) (st : StationId) : (s.beginPassIfFirst st).link = s.link := by
  unfold State.beginPassIfFirst State.beginPass
  repeat' split
  all_goals simp

@[simp] theorem State.beginPassIfFirst_sent (s : State) (st : StationId) : (s.beginPassIfFirst st).sent = s.sent := by
  unfold State.beginPassIfFirst State.beginPass
  repeat' split
  all_goals simp

theorem Onto.beginPassIfFirst (s : State) (st u : StationId) : Onto u s (s.beginPassIfFirst st) :=
  .quiet (by simp) (by simp) (by simp) (by simp)

/-! ### Beginning a capture (R80) -/

/-- The slot a capture begins in (R119). -/
def Slot.beginning (x : Slot) (st : StationId) (f : Nat) (test : Bool) : Slot :=
  { x.cleared with state := .filling, order := some st, frame := some f, flags := { SlotFlags.clear with test := test } }

/-- A capture of frame `f` begun in lane `l` and slot `k`, before the pass begins with it (R80, R91, R119). -/
def State.carrying (s : State) (st : StationId) (f : Nat) (l : LaneId) (k : Nat) : State :=
  ((s.updSlot k (·.beginning st f (((s.openBody? st).map (fun b => b.reel.isNone)).getD false))).setLane l
    { s.lane l with carriage := some { station := st, frame := f, slot := k } }).updStation st
      (fun t => { t with inFlight := some f })

/-- A capture begins in the station's lane and the lowest FREE slot (R80, R91, R119). -/
theorem State.beginCapture_eq (s : State) (f : Nat) (lane : s.laneOf st = some l) (slot : s.freeSlot = some k) :
    s.beginCapture st f = (s.carrying st f l k).beginPassIfFirst st := by
  have same : ∀ g, (s.updSlot k g).lane l = s.lane l := fun g => by cases l <;> simp [State.lane]
  simp only [State.beginCapture, lane, slot, same]
  rfl

theorem Onto.beginCapture (s : State) (st : StationId) (f : Nat) : Onto st s (s.beginCapture st f) := by
  unfold State.beginCapture
  split
  · refine Onto.trans (Onto.trans ?_ (Onto.updStation _ st _)) (Onto.beginPassIfFirst _ st st)
    exact .quiet (by simp) (by simp) (by simp) (by simp)
  · exact .refl s

theorem State.canCapture_eq (s : State) (lane : s.laneOf st = some l) :
    s.canCapture st = ((s.lane l).carriage.isNone && s.freeSlot.isSome) := by
  simp only [State.canCapture, lane]

/-! ### Prerolls, fallbacks and recovery (R78, R79, R82, R87) -/

theorem Onto.preroll (s : State) (st : StationId) : Onto st s (s.preroll st) := by
  unfold State.preroll
  split
  · exact (Onto.toStation s st _).trans (.updStation _ st _)
  · exact .refl s

/-- A preroll leaves the state of the station and what its gate showed last. -/
theorem State.preroll_station (s : State) (st : StationId) :
    ((s.preroll st).station st).state = (s.station st).state
      ∧ ((s.preroll st).station st).lastGate = (s.station st).lastGate := by
  unfold State.preroll
  split
  · rw [State.station_updStation, if_pos rfl]
    split <;> exact ⟨rfl, rfl⟩
  · exact ⟨rfl, rfl⟩

theorem State.takeFallback_none (s : State) (h : (s.station st).fallback = none) : s.takeFallback st = s := by
  simp only [State.takeFallback, h]

/-- The station after its pending fallback has taken effect (R78). -/
def Station.fallen (t : Station) (p : Profile) : Station := { t with profile := some p, fallback := none }

/-- What a fallback writes: the station's record, and the lowest profile of the RUNNING pass of the reel in its chamber
(R78). -/
def State.lowered (s : State) (st : StationId) (p : Profile) : State :=
  (s.reelIn st).elim (s.updStation st (·.fallen p))
    (fun i => (s.updStation st (·.fallen p)).updRunning i (fun q => { q with lowestProfile := p }))

theorem State.takeFallback_eq (s : State) {p : Profile} (h : (s.station st).fallback = some p) :
    s.takeFallback st = (s.lowered st p).raise .profileFallback
      { station := some st, reel := (s.lowered st p).reelIn st, frame := (s.lowered st p).target st } := by
  have same : (s.updStation st (fun t => { t with profile := some p, fallback := none })).reelIn st = s.reelIn st := rfl
  simp only [State.takeFallback, h, State.lowered]
  rw [same]
  cases s.reelIn st <;> rfl

theorem Onto.lowered (s : State) (st : StationId) (p : Profile) : Onto st s (s.lowered st p) := by
  unfold State.lowered
  cases s.reelIn st with
  | none => exact Onto.updStation s st (·.fallen p)
  | some i => exact (Onto.updStation s st (·.fallen p)).trans (.quiet (by simp) (by simp) (by simp) (by simp))

theorem Onto.takeFallback (s : State) (st : StationId) : Onto st s (s.takeFallback st) := by
  cases e : (s.station st).fallback with
  | none =>
    rw [s.takeFallback_none e]
    exact .refl s
  | some p =>
    rw [s.takeFallback_eq e]
    exact (Onto.lowered s st p).trans (.raise _ _ _)

theorem State.lowered_stations (s : State) (st : StationId) (p : Profile) :
    (s.lowered st p).stations = (s.updStation st (·.fallen p)).stations := by
  unfold State.lowered
  cases s.reelIn st with
  | none => rfl
  | some i => exact State.updRunning_stations _ i _

/-- A fallback that takes effect leaves the state of the station and what its gate showed last. -/
theorem State.takeFallback_station (s : State) (st : StationId) :
    ((s.takeFallback st).station st).state = (s.station st).state
      ∧ ((s.takeFallback st).station st).lastGate = (s.station st).lastGate := by
  cases e : (s.station st).fallback with
  | none =>
    rw [s.takeFallback_none e]
    exact ⟨rfl, rfl⟩
  | some p =>
    have record : (s.takeFallback st).station st = (s.updStation st (·.fallen p)).station st := by
      rw [s.takeFallback_eq e]
      exact congrArg (·[st]) (s.lowered_stations st p)
    rw [record, State.station_updStation, if_pos rfl]
    split <;> exact ⟨rfl, rfl⟩

theorem Onto.offerFrame (s : State) (st : StationId) : Onto st s (s.offerFrame st) := by
  unfold State.offerFrame
  split
  · exact .refl s
  · have source : ∀ f, Onto st s (s.updSource f) := fun f => .quiet rfl rfl rfl rfl
    split
    · exact (source _).trans (.beginCapture _ st _)
    · exact (source _).trans (.raise _ _ _)

theorem Onto.recover (s : State) (st : StationId) : Onto st s (s.recover st) := by
  unfold State.recover
  dsimp only
  split
  · exact .refl s
  · split
    · split
      · exact .refl s
      · split
        · split
          · exact (Onto.beginCapture s st _).trans (.updStation _ st _)
          · exact .preroll s st
        · exact (Onto.takeFallback s st).trans (.preroll _ st)
    · split
      · exact .offerFrame s st
      · exact .refl s

/-- A station that neither starves nor feeds a pattern has nothing to recover (R82, R87). -/
theorem State.recover_busy (s : State) (starved : (s.station st).state ≠ .starved) (pattern : (s.station st).state ≠ .loopback) :
    s.recover st = s := by
  have feeds : s.mayFeed st = false := by simp [State.mayFeed, pattern]
  unfold State.recover
  simp [starved, feeds]

/-- A STARVED station at a continuous profile prerolls when it recovers, and stays STARVED (R82). -/
theorem State.recover_continuous (s : State) (starved : (s.station st).state = .starved)
    (continuous : (s.station st).profile ≠ some .step) :
    ((s.recover st).station st).state = .starved ∧ ((s.recover st).station st).lastGate = (s.station st).lastGate := by
  have run : (s.station st).isStep = false := by simpa [Station.isStep] using continuous
  unfold State.recover
  dsimp only
  rw [if_pos starved]
  split
  · exact ⟨starved, rfl⟩
  · split
    · exact ⟨starved, rfl⟩
    · rw [if_neg (by simp [run])]
      obtain ⟨state, gate⟩ := (s.takeFallback st).preroll_station st
      obtain ⟨state', gate'⟩ := s.takeFallback_station st
      exact ⟨state.trans (state'.trans starved), gate.trans gate'⟩

/-! ### Grants (R90) -/

theorem State.withdrawMarks_eq (s : State) : ∃ lanes, s.withdrawMarks = { s with lanes := lanes } := by
  unfold State.withdrawMarks
  split
  · exact ⟨_, rfl⟩
  · exact ⟨s.lanes, rfl⟩

theorem State.markExpired_eq (s : State) : ∃ lanes, s.markExpired = { s with lanes := lanes } := by
  unfold State.markExpired
  split
  · exact ⟨_, rfl⟩
  · split
    · exact ⟨_, rfl⟩
    · exact ⟨s.lanes, rfl⟩

@[simp] theorem State.withdrawMarks_waitList (s : State) : s.withdrawMarks.lanes.waitList = s.lanes.waitList := by
  unfold State.withdrawMarks
  split <;> rfl

@[simp] theorem State.markExpired_waitList (s : State) : s.markExpired.lanes.waitList = s.lanes.waitList := by
  unfold State.markExpired
  split
  · rfl
  · split <;> rfl

/-- No lane is FREE, or no station waits: nothing is granted (R90). -/
theorem State.grantLane_idle (s : State) (h : s.freeLane = none ∨ s.lanes.waitList = []) : s.grantLane = s := by
  unfold State.grantLane
  split
  · next a b => rcases h with h | h <;> simp_all
  · rfl

/-- The state after a grant, before the station at the head of the wait list tests for recovery (R90). -/
def State.granted (s : State) (l : LaneId) (st : StationId) (rest : List StationId) : State :=
  ({ s.setLane l { hold := some { station := st, tenure := (s.station st).tenure, release := .none }, carriage := none } with
      lanes := { (s.setLane l { hold := some { station := st, tenure := (s.station st).tenure, release := .none }
                                carriage := none }).lanes with waitList := rest } } : State).withdrawMarks

theorem State.grantLane_eq (s : State) {rest : List StationId} (free : s.freeLane = some l)
    (list : s.lanes.waitList = st :: rest) : s.grantLane = (s.granted l st rest).recover st := by
  simp only [State.grantLane, free, list]
  rfl

theorem Onto.granted (s : State) (l : LaneId) (u st : StationId) (rest : List StationId) : Onto u s (s.granted l st rest) := by
  obtain ⟨lanes, e⟩ := State.withdrawMarks_eq
    { s.setLane l { hold := some { station := st, tenure := (s.station st).tenure, release := .none }, carriage := none } with
      lanes := { (s.setLane l { hold := some { station := st, tenure := (s.station st).tenure, release := .none }
                                carriage := none }).lanes with waitList := rest } }
  rw [State.granted, e]
  exact .quiet (s.setLane_stk l _) (s.setLane_link l _) (s.setLane_sent l _) (s.setLane_stations l _)

theorem State.granted_waitList (s : State) (l : LaneId) (st : StationId) (rest : List StationId) :
    (s.granted l st rest).lanes.waitList = rest := by
  rw [State.granted, State.withdrawMarks_waitList]

theorem State.granted_station (s : State) (l : LaneId) (u st : StationId) (rest : List StationId) :
    (s.granted l st rest).station u = s.station u := by
  by_cases e : u = 0
  · exact (Onto.granted s l 1 st rest).others u (by rw [e]; decide)
  · exact (Onto.granted s l 0 st rest).others u e

theorem Onward.grantLane (s : State) : Onward s s.grantLane := by
  cases free : s.freeLane with
  | none =>
    rw [s.grantLane_idle (.inl free)]
    exact .refl s
  | some l =>
    cases list : s.lanes.waitList with
    | nil =>
      rw [s.grantLane_idle (.inr list)]
      exact .refl s
    | cons u rest =>
      rw [s.grantLane_eq free list]
      exact ((Onto.granted s l u u rest).trans (.recover _ u)).toOnward

/-- A STARVED station at a continuous profile is STARVED after a grant, whoever is granted the lane (R82, R90). -/
theorem State.grantLane_starved (s : State) (starved : (s.station st).state = .starved)
    (continuous : (s.station st).profile ≠ some .step) :
    (s.grantLane.station st).state = .starved ∧ (s.grantLane.station st).lastGate = (s.station st).lastGate := by
  cases free : s.freeLane with
  | none =>
    rw [s.grantLane_idle (.inl free)]
    exact ⟨starved, rfl⟩
  | some l =>
    cases list : s.lanes.waitList with
    | nil =>
      rw [s.grantLane_idle (.inr list)]
      exact ⟨starved, rfl⟩
    | cons u rest =>
      have same := s.granted_station l st u rest
      rw [s.grantLane_eq free list]
      by_cases e : st = u
      · subst e
        rw [← same]
        exact State.recover_continuous _ (same ▸ starved) (same ▸ continuous)
      · rw [(Onto.recover _ u).others st e, same]
        exact ⟨starved, rfl⟩

/-- A STARVED station that has just joined the tail of the wait list is STARVED once the arbiter has granted what it can
(R82, R90). -/
theorem State.grantLanes_starved (s : State) {before : List StationId} (starved : (s.station st).state = .starved)
    (continuous : (s.station st).profile ≠ some .step) (list : s.lanes.waitList = before ++ [st]) (once : st ∉ before) :
    (s.grantLanes.station st).state = .starved ∧ (s.grantLanes.station st).lastGate = (s.station st).lastGate := by
  unfold State.grantLanes
  cases free : s.freeLane with
  | none =>
    rw [s.grantLane_idle (.inl free)]
    exact s.grantLane_starved starved continuous
  | some l =>
    cases before with
    | nil =>
      have last : s.grantLane.lanes.waitList = [] := by
        rw [s.grantLane_eq free list, (SameHolders.recover _ st).waitList, State.granted_waitList]
      rw [s.grantLane.grantLane_idle (.inr last)]
      exact s.grantLane_starved starved continuous
    | cons u rest =>
      have other : st ≠ u := fun e => once (by simp [e])
      have same : s.grantLane.station st = s.station st := by
        rw [s.grantLane_eq free list, (Onto.recover _ u).others st other, State.granted_station]
      rw [← same]
      exact s.grantLane.grantLane_starved (same ▸ starved) (same ▸ continuous)

/-! ### Joining the wait list (R89, R93) -/

/-- A station on the wait list does not join it again, and one that holds a lane joins none (R89). -/
theorem State.joinWaitList_idle (s : State) (h : st ∈ s.lanes.waitList ∨ s.needsLane st = false) : s.joinWaitList st = s := by
  unfold State.joinWaitList
  rw [if_neg]
  rintro ⟨needs, out⟩
  rcases h with h | h
  · exact out h
  · simp [h] at needs

/-- The state with a station at the tail of the wait list, an expired tenure marked (R89, R93). -/
def State.joined (s : State) (st : StationId) : State :=
  ({ s with lanes := { s.lanes with waitList := s.lanes.waitList ++ [st] } } : State).markExpired

theorem State.joinWaitList_joins (s : State) (needs : s.needsLane st = true) (out : st ∉ s.lanes.waitList) :
    s.joinWaitList st = (s.joined st).grantLanes := by
  unfold State.joinWaitList
  rw [if_pos ⟨needs, out⟩]
  rfl

theorem State.joined_eq (s : State) (st : StationId) : ∃ lanes, s.joined st = { s with lanes := lanes } :=
  State.markExpired_eq _

theorem State.joined_waitList (s : State) (st : StationId) : (s.joined st).lanes.waitList = s.lanes.waitList ++ [st] :=
  State.markExpired_waitList _

theorem State.joined_station (s : State) (st u : StationId) : (s.joined st).station u = s.station u := by
  obtain ⟨lanes, e⟩ := s.joined_eq st
  rw [e]
  rfl

/-- Marking keeps who holds each lane (R93). -/
theorem State.joined_holders (s : State) (st : StationId) (l : LaneId) :
    ((s.joined st).lane l).hold.map (·.station) = (s.lane l).hold.map (·.station) := by
  have marked : ∀ x : Lane, x.mark.hold.map (·.station) = x.hold.map (·.station) := fun x => by
    unfold Lane.mark
    cases x.hold <;> rfl
  unfold State.joined State.markExpired
  split
  · cases l
    · exact marked _
    · rfl
  · split
    · cases l
      · rfl
      · exact marked _
    · cases l <;> rfl

theorem Onward.joinWaitList (s : State) (st : StationId) : Onward s (s.joinWaitList st) := by
  unfold State.joinWaitList
  split
  · obtain ⟨lanes, e⟩ := s.joined_eq st
    have joined : Onward s (s.joined st) := by
      rw [e]
      exact .quiet rfl rfl rfl
    exact (joined.trans (.grantLane _)).trans (.grantLane _)
  · exact .refl s

/-- While both lanes are HELD nothing is granted (R90). -/
theorem State.grantLanes_held (s : State) (h : ∀ l, (s.lane l).hold ≠ none) : s.grantLanes = s := by
  have a : s.lanes.laneA.hold ≠ none := h .a
  have b : s.lanes.laneB.hold ≠ none := h .b
  have none' : s.freeLane = none := by simp [State.freeLane, a, b]
  unfold State.grantLanes
  rw [s.grantLane_idle (.inl none'), s.grantLane_idle (.inl none')]

end Sys2Proof.Machine
end

section
/-!
PROOFS. AT SPEED and FRAME AT GATE: a lane is taken, a capture begins, or the station waits, prerolls or starves (R22, R79,
R80, R82, R83, R89, R110).
-/

-- One proof after another, as in the model's tests: each thread's stack counts against the memory limit.
set_option Elab.async false

namespace Sys2Proof.Machine

variable {s t : State} {i k j count f g : Nat} {r : Reel} {st : StationId} {b : OrderBody} {l : LaneId} {x : Station}

/-! ### What a station's record does not touch -/

/-- A change of a record that has just been written. -/
theorem State.updStation_putStation (s : State) (st : StationId) (m : Station → Station)
    (h : x.runsAtSpeed = false ∨ (m x).runsAtSpeed = true) : (s.putStation st x).updStation st m = s.putStation st (m x) := by
  rw [State.updStation_eq_putStation _ _ _ (by rwa [State.station_putStation]), State.station_putStation,
    State.putStation_putStation]

/-- The target frame rests on the capture in flight alone of the station's record (R79). -/
theorem State.target_putStation (s : State) (h : x.inFlight = (s.station st).inFlight) :
    (s.putStation st x).target st = s.target st := by
  simp only [State.target, State.station_putStation, h]
  rfl

/-- A station with a target frame has a work order with a body (R79). -/
theorem State.openBody_of_target (s : State) (h : s.target st = some g) (body : (s.order st).body = some b) :
    s.openBody? st = some b := by
  cases e : s.openBody? st with
  | none => simp [State.target, e] at h
  | some c =>
    unfold State.openBody? at e
    split at e
    · rw [← e, body]
    · exact absurd e nofun

theorem Station.isStep_iff (t : Station) : t.isStep = true ↔ t.profile = some .step := by simp [Station.isStep]

/-! ### What a capture begins (R80, R91, R110, R119) -/

/-- A FREE slot is a slot. -/
theorem State.slot?_freeSlot (s : State) (h : s.freeSlot = some k) : ∃ y, s.slot? k = some y := by
  unfold State.freeSlot State.findSlot at h
  have lt := (List.findIdx?_eq_some_iff_getElem.mp h).1
  exact ⟨s.store.slots.toList[k], by simp [State.slot?]⟩

/-- A rewritten history leaves what chapter 2 rests on. -/
theorem Rested.updReel {m : Reel → Reel} (h : Rested s) (place : ∀ q, (m q).location = q.location)
    (zone : ∀ q, (m q).cameFrom = q.cameFrom) : Rested (s.updReel i m) := by
  unfold State.updReel
  split
  · next q e => exact h.setReel e (fun p e => place q ▸ e) (zone q)
  · exact h

theorem Rested.beginPassIfFirst (h : Rested s) : Rested (s.beginPassIfFirst st) := by
  unfold State.beginPassIfFirst State.beginPass
  split
  · exact h
  · split
    · exact h
    · refine Rested.updReel ?_ (fun _ => ?_) fun _ => ?_
      · exact h.congr rfl rfl
      · rfl
      · rfl

/-- The pass record of a pass that begins (R22, R110). -/
def Reel.begun (r : Reel) (st : StationId) (time : Nat) (p : Profile) : Reel :=
  { r with history := r.history ++
      [{ number := r.history.length + 1, station := st, startTime := time, profileAtStart := p, lowestProfile := p, frames := 0
         defectTiles := 0, boundaries := 0, unrecorded := 0, tears := 0, peak := none, outcome := .running }] }

section Pass

variable (opened : s.openBody? st = some b) (reel : b.reel = some j)
include opened reel

/-- A pass begun stays begun (R110). -/
theorem State.beginPassIfFirst_begun (begun : (s.order st).passBegun = true) : s.beginPassIfFirst st = s := by
  simp only [State.beginPassIfFirst, opened, Option.bind_some, reel, begun, if_true]

/-- The first capture begins the pass (R110). -/
theorem State.beginPassIfFirst_first (first : (s.order st).passBegun = false) :
    s.beginPassIfFirst st = (s.updOrder st (fun w => { w with passBegun := true })).updReel j
      (·.begun st s.link.clock ((s.station st).profile.getD .step)) := by
  simp only [State.beginPassIfFirst, opened, Option.bind_some, reel, first, Bool.false_eq_true, if_false, State.beginPass]
  rfl

theorem State.order_beginPassIfFirst : (s.beginPassIfFirst st).order st = { s.order st with passBegun := true } := by
  cases begun : (s.order st).passBegun with
  | true => rw [State.beginPassIfFirst_begun opened reel begun, ← begun]
  | false =>
    have orders := (s.updOrder st (fun w => { w with passBegun := true })).updReel_orders j
      (·.begun st s.link.clock ((s.station st).profile.getD .step))
    rw [State.beginPassIfFirst_first opened reel begun, State.order, orders]
    exact (s.order_updOrder st st _).trans (if_pos rfl)

/-- The pass record goes to the reel of the work order, at its first capture (R22, R110). -/
theorem State.reel?_beginPassIfFirst (n : Nat) : (s.beginPassIfFirst st).reel? n =
    if n = j ∧ (s.order st).passBegun = false then
      (s.reel? j).map (·.begun st s.link.clock ((s.station st).profile.getD .step)) else s.reel? n := by
  cases begun : (s.order st).passBegun with
  | true => rw [State.beginPassIfFirst_begun opened reel begun, if_neg (by simp)]
  | false =>
    rw [State.beginPassIfFirst_first opened reel begun, State.reel?_updReel]
    by_cases e : n = j
    · rw [if_pos e.symm, if_pos ⟨e, rfl⟩]
      rfl
    · rw [if_neg fun k => e k.symm, if_neg fun k => e k.1]
      rfl

end Pass

/-! ### The capture begun -/

/-- What the lane and the slot of a capture do not touch. -/
theorem State.carrying_frame (s : State) (st : StationId) (f : Nat) (l : LaneId) (k : Nat) :
    (s.carrying st f l k).orders = s.orders ∧ (s.carrying st f l k).retained = s.retained
      ∧ (s.carrying st f l k).link = s.link ∧ (s.carrying st f l k).sent = s.sent ∧ (s.carrying st f l k).stk = s.stk := by
  unfold State.carrying
  simp

theorem State.carrying_station (s : State) (st : StationId) (f : Nat) (l : LaneId) (k : Nat) :
    (s.carrying st f l k).station st = { s.station st with inFlight := some f } := by
  have same : ∀ (m : Slot → Slot) (v : Lane), ((s.updSlot k m).setLane l v).station st = s.station st := fun m v => by
    simp [State.station]
  rw [State.carrying, State.updStation_sameSpeed _ _ _ (by rfl), State.station_putStation, same]

section Begin

variable (lane : s.laneOf st = some l) (slot : s.freeSlot = some k)
include lane slot

theorem State.beginCapture_station : (s.beginCapture st f).station st = { s.station st with inFlight := some f } := by
  rw [s.beginCapture_eq f lane slot, State.station, State.beginPassIfFirst_stations]
  exact s.carrying_station st f l k

theorem State.beginCapture_lane : (s.beginCapture st f).lane l =
    { s.lane l with carriage := some { station := st, frame := f, slot := k } } := by
  have same : ∀ t : State, (t.beginPassIfFirst st).lane l = t.lane l := fun t => by cases l <;> simp [State.lane]
  rw [s.beginCapture_eq f lane slot, same]
  exact (State.lane_setLane _ _ _ _).trans (if_pos rfl)

theorem State.beginCapture_slot : ∃ y : Slot, (s.beginCapture st f).slot? k =
    some (y.beginning st f (((s.openBody? st).map (fun b => b.reel.isNone)).getD false)) := by
  obtain ⟨y, e⟩ := s.slot?_freeSlot slot
  refine ⟨y, ?_⟩
  rw [s.beginCapture_eq f lane slot]
  simp only [State.slot?, State.beginPassIfFirst_store, State.carrying, State.updStation_store, State.setLane_store]
  exact (s.slot?_updSlot k k _).trans (by rw [if_pos rfl, e]; rfl)

theorem State.beginCapture_otherSlots (n : j ≠ k) : (s.beginCapture st f).slot? j = s.slot? j := by
  rw [s.beginCapture_eq f lane slot]
  simp only [State.slot?, State.beginPassIfFirst_store, State.carrying, State.updStation_store, State.setLane_store]
  exact (s.slot?_updSlot k j _).trans (if_neg n.symm)

theorem State.beginCapture_link : (s.beginCapture st f).link = s.link := by
  obtain ⟨-, -, link, -, -⟩ := s.carrying_frame st f l k
  rw [s.beginCapture_eq f lane slot, State.beginPassIfFirst_link, link]

theorem State.beginCapture_sent : (s.beginCapture st f).sent = s.sent := by
  obtain ⟨-, -, -, sent, -⟩ := s.carrying_frame st f l k
  rw [s.beginCapture_eq f lane slot, State.beginPassIfFirst_sent, sent]

variable (opened : s.openBody? st = some b) (reel : b.reel = some j)
include opened reel

theorem State.beginCapture_order : (s.beginCapture st f).order st = { s.order st with passBegun := true } := by
  obtain ⟨orders, -, -, -, -⟩ := s.carrying_frame st f l k
  have same : (s.carrying st f l k).order st = s.order st := congrArg (·[st]) orders
  rw [s.beginCapture_eq f lane slot, State.order_beginPassIfFirst (b := b) (j := j) _ reel, same]
  unfold State.openBody? State.hasOrder
  rw [same]
  exact opened

theorem State.reel?_beginCapture (n : Nat) : (s.beginCapture st f).reel? n =
    if n = j ∧ (s.order st).passBegun = false then
      (s.reel? j).map (·.begun st s.link.clock ((s.station st).profile.getD .step)) else s.reel? n := by
  obtain ⟨orders, retained, link, -, -⟩ := s.carrying_frame st f l k
  have same : (s.carrying st f l k).order st = s.order st := congrArg (·[st]) orders
  rw [s.beginCapture_eq f lane slot, State.reel?_beginPassIfFirst (b := b) (j := j) _ reel, same, link,
    State.reel?_congr retained, State.reel?_congr retained, s.carrying_station st f l k]
  unfold State.openBody? State.hasOrder
  rw [same]
  exact opened

end Begin

/-! ### The frame at the gate (R80) -/

/-- What FRAME AT GATE finds: a station at speed with no stop pending, whose report stands for frame `f`. -/
structure AtGate (s : State) (st : StationId) (count f g : Nat) : Prop where
  running : (s.station st).state = .running
  speed : (s.station st).motion = .atSpeed
  free : (s.station st).stopPending = .none
  frame : s.frameAt st count = some f
  target : s.target st = some g

theorem AtGate.runs (h : AtGate s st count f g) : (s.station st).runsAtSpeed = true :=
  (Station.runsAtSpeed_iff _).mpr ⟨h.running, h.speed⟩

/-- The state with the frame written as the last at the gate. -/
def State.shown (s : State) (st : StationId) (f : Nat) : State := s.putStation st { s.station st with lastGate := some f }

@[simp] theorem State.shown_station (s : State) (st : StationId) (f : Nat) :
    (s.shown st f).station st = { s.station st with lastGate := some f } := State.station_putStation _ _ _

theorem State.shown_target (s : State) (st : StationId) (f : Nat) : (s.shown st f).target st = s.target st :=
  s.target_putStation (x := { s.station st with lastGate := some f }) rfl

/-- What the comparison of the frame at the gate with target frame `g` does (R80). -/
def State.compared (s : State) (st : StationId) (f g : Nat) : State :=
  if f < g then (if (s.station st).isStep then s.toStation st .step else s)
  else if f = g then (if s.canCapture st then s.beginCapture st f else s.starve st f)
  else s.reposition st

theorem State.compared_early (s : State) (early : f < g) :
    s.compared st f g = if (s.station st).profile = some .step then s.toStation st .step else s := by
  rw [State.compared, if_pos early]
  simp only [Station.isStep_iff]

theorem State.compared_late (s : State) (late : g < f) : s.compared st f g = s.reposition st := by
  rw [State.compared, if_neg (by omega), if_neg (by omega)]

theorem State.compared_capture (s : State) (capture : s.canCapture st = true) : s.compared st f f = s.beginCapture st f := by
  rw [State.compared, if_neg (Nat.lt_irrefl f), if_pos rfl, if_pos capture]

theorem State.compared_starve (s : State) (capture : s.canCapture st = false) : s.compared st f f = s.starve st f := by
  rw [State.compared, if_neg (Nat.lt_irrefl f), if_pos rfl, if_neg (by simp [capture])]

/-- The report is compared with the target frame (R80). -/
theorem AtGate.judged (h : AtGate s st count f g) (powered : s.powered = true) :
    exec (.frameAtGate st count) s = .next ((s.silent.shown st f).compared st f g).settle := by
  have run : exec (.frameAtGate st count) s = event (fun s => s.gateTaken st count) s := rfl
  have runs : (s.silent.station st).runsAtSpeed = true := h.runs
  have frame : s.silent.frameAt st count = some f := h.frame
  have shows : s.silent.updStation st (fun t => { t with lastGate := some f }) = s.silent.shown st f :=
    s.silent.updStation_sameSpeed st _ rfl
  have target : (s.silent.shown st f).target st = some g := (s.silent.shown_target st f).trans h.target
  have free : ((s.silent.shown st f).station st).stopPending = .none := by
    rw [State.shown_station]
    exact h.free
  have taken : s.silent.gateTaken st count = (s.silent.shown st f).compared st f g := by
    simp only [State.gateTaken, runs, frame, shows, Bool.true_eq_false, if_false, State.judgeGate, target, free, ne_eq,
      not_true]
    rfl
  rw [run, event, if_pos powered]
  exact congrArg (fun u => Host.Outcome.next u.settle) taken

/-- The report where nothing of chapter 2 is due after it. -/
theorem AtGate.ends (h : AtGate s st count f g) (powered : s.powered = true)
    (e : (s.silent.shown st f).compared st f g = t) (rested : Rested t) : exec (.frameAtGate st count) s = .next t := by
  rw [h.judged powered, e, State.settle_rested t rested]

/-- Beginning a capture leaves what chapter 2 rests on. -/
theorem Rested.beginCapture (h : Rested s) : Rested (s.beginCapture st f) := by
  unfold State.beginCapture
  split
  · refine Rested.beginPassIfFirst (h.congr ?_ ?_) <;> simp
  · exact h

section Begins

variable (h : AtGate s st count f f) (powered : s.powered = true) (rested : Rested s)
include h powered rested

/-- The target frame with an idle lane and a FREE slot: its capture begins (R80). -/
theorem AtGate.begins (capture : s.canCapture st = true) : exec (.frameAtGate st count) s =
    .next ((s.silent.shown st f).beginCapture st f) := by
  exact h.ends powered (State.compared_capture _ capture) rested.silent.putStation.beginCapture

end Begins

/-! ### A station that starves (R82, R89) -/

/-- The record of a station at speed that enters STARVED: a continuous transport ramps down (R73, R82). -/
def Station.starving (t : Station) : Station :=
  { t with state := .starved, filter := .clear, motion := if t.profile = some .step then .atSpeed else .ramping }

/-- The state of a station that starves, before it joins the wait list (R82). -/
def State.starving (s : State) (st : StationId) (f : Nat) : State :=
  ({ s.putStation st (s.station st).starving with
      sent := s.sent ++ (if (s.station st).profile = some .step then [] else [.station st .rampDown]) } : State).raise
    .stationStarved { station := some st, reel := s.reelIn st, frame := some f }

theorem State.starve_eq (s : State) (runs : (s.station st).runsAtSpeed = true) :
    s.starve st f = (s.starving st f).joinWaitList st := by
  obtain ⟨running, speed⟩ := (Station.runsAtSpeed_iff _).mp runs
  have stops : s.updStation st (fun t => { t with state := .starved })
      = s.putStation st { s.station st with state := .starved, filter := .clear } :=
    s.updStation_stops st (fun t => { t with state := .starved }) runs rfl
  unfold State.starve State.starving
  simp only [stops]
  by_cases step : (s.station st).profile = some .step
  · have isStep : (s.station st).isStep = true := (Station.isStep_iff _).mpr step
    simp only [isStep, step, if_true, List.append_nil, Station.starving, ← speed]
    rfl
  · have isStep : (s.station st).isStep = false := by simpa [Station.isStep] using step
    simp only [isStep, step, Bool.false_eq_true, if_false, Station.starving]
    have ramps := (s.toStation st .rampDown).updStation_putStation
      (x := { s.station st with state := .starved, filter := .clear }) st (fun t => { t with motion := .ramping }) (.inl rfl)
    exact congrArg (fun u : State => (u.raise .stationStarved
      { station := some st, reel := s.reelIn st, frame := some f }).joinWaitList st) ramps

theorem Onward.starve (s : State) (f : Nat) (runs : (s.station st).runsAtSpeed = true) :
    Onward (s.starving st f) (s.starve st f) := by
  rw [s.starve_eq runs]
  exact .joinWaitList _ st

theorem State.starving_flag (s : State) (st : StationId) (f : Nat) : (s.starving st f).flag .stationStarved = true := by
  rw [State.starving, State.flag_raise]
  simp

theorem State.starving_station (s : State) (st : StationId) (f : Nat) :
    (s.starving st f).station st = (s.station st).starving := by
  exact State.station_putStation s st _

/-- A station that starves with a lane in hand, or on the wait list, ends there (R82, R89). -/
theorem State.starve_alone (s : State) (f : Nat) (runs : (s.station st).runsAtSpeed = true)
    (h : st ∈ s.lanes.waitList ∨ ∃ l, s.laneOf st = some l) : s.starve st f = s.starving st f := by
  rw [s.starve_eq runs]
  refine State.joinWaitList_idle _ (h.imp id fun ⟨l, e⟩ => ?_)
  have e : (s.starving st f).laneOf st = some l := e
  simp [State.needsLane, e]

/-- A station without a lane that does not wait yet needs one (R89). -/
theorem State.starving_needsLane (s : State) (f : Nat) (free : (s.station st).stopPending = .none) (lane : s.laneOf st = none) :
    (s.starving st f).needsLane st = true := by
  have lane : (s.starving st f).laneOf st = none := lane
  have free : (s.station st).starving.stopPending = .none := free
  have starved : (s.station st).starving.state = .starved := rfl
  simp [State.needsLane, lane, State.starving_station, free, starved]

/-- A station at a continuous profile is STARVED at the end of the report that starves it (R82, R90). -/
theorem State.starve_continuous (s : State) (f : Nat) (runs : (s.station st).runsAtSpeed = true)
    (free : (s.station st).stopPending = .none) (lane : s.laneOf st = none)
    (continuous : (s.station st).profile ≠ some .step) :
    ((s.starve st f).station st).state = .starved ∧ ((s.starve st f).station st).lastGate = (s.station st).lastGate := by
  have record := s.starving_station st f
  by_cases waits : st ∈ s.lanes.waitList
  · rw [s.starve_alone f runs (.inl waits), record]
    exact ⟨rfl, rfl⟩
  · have joined : ((s.starving st f).joined st).station st = (s.station st).starving := by
      rw [State.joined_station, record]
    rw [s.starve_eq runs, State.joinWaitList_joins _ (s.starving_needsLane f free lane) waits]
    have ends := ((s.starving st f).joined st).grantLanes_starved (st := st) (by rw [joined]; rfl)
      (by rw [joined]; exact continuous) ((s.starving st f).joined_waitList st) waits
    rwa [joined] at ends

/-! ### AT SPEED (R80) -/

/-- AT SPEED of a frame of the reel makes a prerolling station RUNNING at speed, and it joins the wait list (R80, R89). -/
theorem exec_atSpeed (powered : s.powered = true) (threaded : (s.station st).state = .threaded)
    (prerolls : (s.station st).motion = .prerolling) (frame : s.frameAt st count = some f)
    (e : (s.silent.putStation st { s.station st with motion := .atSpeed, state := .running }).joinWaitList st = t)
    (rested : Rested t) : exec (.atSpeed st count) s = .next t := by
  refine exec_of_event (fun s => s.atSpeedTaken st count) rfl powered ?_ rested
  have ends : (s.silent.station st).prerollEnds = true := by
    have threaded : (s.silent.station st).state = .threaded := threaded
    have prerolls : (s.silent.station st).motion = .prerolling := prerolls
    simp [Station.prerollEnds, threaded, prerolls]
  have frame : s.silent.frameAt st count = some f := frame
  have still : (s.silent.station st).runsAtSpeed = false := by
    have threaded : (s.silent.station st).state = .threaded := threaded
    simp [Station.runsAtSpeed, threaded]
  have runs := s.silent.updStation_eq_putStation st (fun t => { t with motion := .atSpeed, state := .running }) (.inl still)
  simp only [State.atSpeedTaken, ends, frame, runs]
  exact e

/-- The only station that waits is granted lane A while it is FREE (R89, R90). -/
theorem State.joinWaitList_laneA (s : State) (running : (s.station st).state = .running)
    (free : (s.station st).stopPending = .none) (empty : s.lanes.waitList = []) (laneA : s.lanes.laneA = .free)
    (laneB : s.lanes.laneB.heldBy st = false) :
    ∃ lanes, s.joinWaitList st = { s with lanes := lanes }
      ∧ lanes.laneA = { hold := some { station := st, tenure := (s.station st).tenure, release := .none }, carriage := none }
      ∧ lanes.waitList = [] := by
  have needs : s.needsLane st = true := by
    have lane : s.laneOf st = none := by
      have a : s.lanes.laneA.heldBy st = false := by rw [laneA]; rfl
      simp [State.laneOf, a, laneB]
    simp [State.needsLane, running, free, lane]
  obtain ⟨lanes, e⟩ := s.joined_eq st
  have list : (s.joined st).lanes.waitList = [st] := by rw [State.joined_waitList, empty]; rfl
  have first : (s.joined st).freeLane = some .a := by
    have holder := s.joined_holders st .a
    have none' : (s.joined st).lanes.laneA.hold = none := by simpa [State.lane, laneA, Lane.free] using holder
    simp [State.freeLane, none']
  have still : ((s.joined st).granted .a st []).recover st = (s.joined st).granted .a st [] := by
    have record : ((s.joined st).granted .a st []).station st = s.station st :=
      ((s.joined st).granted_station .a st st []).trans (s.joined_station st st)
    exact State.recover_busy _ (by rw [record, running]; nofun) (by rw [record, running]; nofun)
  have granted : s.joinWaitList st = (s.joined st).granted .a st [] := by
    rw [s.joinWaitList_joins needs (by simp [empty]), State.grantLanes, (s.joined st).grantLane_eq first list, still]
    exact State.grantLane_idle _ (.inr (State.granted_waitList _ _ _ _))
  have tenure := s.joined_station st st
  refine ⟨((s.joined st).granted .a st []).lanes, ?_, ?_, State.granted_waitList _ _ _ _⟩
  · rw [granted, e]
    rfl
  · rw [State.granted, tenure]
    rfl

/-! ### The report settled -/

/-- A change that clears the filter state is written as it stands (R73). -/
theorem State.updStation_cleared (s : State) (st : StationId) (m : Station → Station)
    (h : (m (s.station st)).filter = .clear) : s.updStation st m = s.putStation st (m (s.station st)) := by
  have kept : ({ m (s.station st) with filter := .clear } : Station) = m (s.station st) := by rw [← h]
  cases runs : (s.station st).runsAtSpeed with
  | false => exact s.updStation_eq_putStation st m (.inl runs)
  | true =>
    cases still : (m (s.station st)).runsAtSpeed with
    | true => exact s.updStation_eq_putStation st m (.inr still)
    | false => rw [s.updStation_stops st m runs still, kept]

/-- A preroll sends the target frame's count at the current profile (R79). -/
theorem State.preroll_eq (s : State) (target : s.target st = some g) (opened : s.openBody? st = some b) {p : Profile}
    (profile : (s.station st).profile = some p) : s.preroll st =
      (s.toStation st (.preroll (countOfFrame (s.mapOf b) g) p)).putStation st
        { s.station st with motion := .prerolling, filter := .clear } := by
  have current : (s.station st).profile.getD (s.order st).requested = p := by rw [profile]; rfl
  simp only [State.preroll, target, opened, current]
  exact State.updStation_cleared (s.toStation st _) st (fun t => { t with motion := .prerolling, filter := .clear }) rfl

/-- A preroll after a missed target: a continuous transport ramps down first (R80). -/
theorem State.reposition_eq (s : State) (target : s.target st = some g) (opened : s.openBody? st = some b) {p : Profile}
    (profile : (s.station st).profile = some p) :
    s.reposition st = { s.putStation st { s.station st with motion := .prerolling, filter := .clear } with
      sent := s.sent ++ ((if p = .step then [] else [.station st .rampDown])
        ++ [.station st (.preroll (countOfFrame (s.mapOf b) g) p)]) } := by
  unfold State.reposition
  by_cases step : p = .step
  · have isStep : (s.station st).isStep = true := (Station.isStep_iff _).mpr (step ▸ profile)
    rw [if_pos isStep, s.preroll_eq target opened profile, if_pos step]
    rfl
  · have isStep : ¬ (s.station st).isStep = true := fun h => step (by simpa [profile] using (Station.isStep_iff _).mp h)
    rw [if_neg isStep, (s.toStation st .rampDown).preroll_eq target opened profile, if_neg step]
    simp only [State.putStation, State.toStation, List.append_assoc]
    rfl

/-- A preroll to the target frame after it has been missed (R79, R80). -/
theorem AtGate.missed (h : AtGate s st count f g) (powered : s.powered = true) (rested : Rested s) (late : g < f)
    (body : (s.order st).body = some b) (ofReel : b.reel = some i) (record : s.reel? i = some r) {p : Profile}
    (profile : (s.station st).profile = some p) : exec (.frameAtGate st count) s = .next { s with
      sent := (if p = .step then [] else [.station st .rampDown])
        ++ [.station st (.preroll (countOfFrame r.segments g) p)]
      stations := s.stations.set st { s.station st with lastGate := some f, motion := .prerolling, filter := .clear } } := by
  have target : (s.silent.shown st f).target st = some g := (s.silent.shown_target st f).trans h.target
  have opened : (s.silent.shown st f).openBody? st = some b := s.openBody_of_target h.target body
  have map : (s.silent.shown st f).mapOf b = r.segments := by
    have record : (s.silent.shown st f).reel? i = some r := record
    simp [State.mapOf, ofReel, record]
  refine h.ends powered ?_ (rested.congr rfl rfl)
  rw [State.compared_late _ late,
    (s.silent.shown st f).reposition_eq target opened (p := p) (by rw [State.shown_station]; exact profile), map,
    State.shown_station]
  simp only [State.shown, State.putStation_putStation]
  rfl

/-- The target frame at the gate where no capture can begin: the station starves (R82). -/
theorem AtGate.starves (h : AtGate s st count f f) (powered : s.powered = true) (capture : s.canCapture st = false) :
    exec (.frameAtGate st count) s = .next ((s.silent.shown st f).starve st f).settle := by
  have capture : (s.silent.shown st f).canCapture st = false := capture
  rw [h.judged powered, State.compared_starve _ capture]

theorem AtGate.starves_rested (h : AtGate s st count f f) (powered : s.powered = true) (capture : s.canCapture st = false)
    (e : (s.silent.shown st f).starve st f = t) (rested : Rested t) : exec (.frameAtGate st count) s = .next t := by
  rw [h.starves powered capture, e, State.settle_rested t rested]

/-- The state after the report of a frame that starves its station, the wait list aside (R82). -/
structure Starves (s : State) (st : StationId) (f : Nat) (u : State) : Prop where
  flag : u.flag .stationStarved = true
  station : u.station st = { (s.station st).starving with lastGate := some f }
  sent : u.sent = if (s.station st).profile = some .step then [] else [.station st .rampDown]
  orders : u.orders = s.orders
  retained : u.retained = s.retained
  store : u.store = s.store

/-- A frame that starves its station, the wait list aside (R82). -/
theorem State.starving_starves (s : State) (st : StationId) (f : Nat) :
    Starves s st f ((s.silent.shown st f).starving st f) := by
  have shown : (s.silent.shown st f).station st = { s.station st with lastGate := some f } := s.silent.shown_station st f
  refine ⟨State.starving_flag _ st f, ?_, ?_, rfl, rfl, rfl⟩
  · rw [State.starving_station, shown]
    rfl
  · refine Eq.trans (b := [] ++ if ((s.silent.shown st f).station st).profile = some .step then []
      else [Emission.station st .rampDown]) rfl ?_
    rw [shown, List.nil_append]

/-- The lanes alone are left to change. -/
theorem Starves.lanes {lanes : Crosspoint} (h : Starves s st f t) : Starves s st f { t with lanes := lanes } :=
  ⟨h.flag, h.station, h.sent, h.orders, h.retained, h.store⟩

/-- Settles O37: AT SPEED by the grant of lane A, FRAME AT GATE by the comparison with the target frame. -/
theorem framesAtTheGateAreCaptured : Obligations.FramesAtTheGateAreCaptured := by
  unfold Obligations.FramesAtTheGateAreCaptured
  intro s st i r count f g powered rested inside record count' target
  have frame : s.frameAt st count = some f := (s.frameAt_inside inside record count).trans count'
  dsimp only
  refine ⟨fun threaded prerolls free empty laneA laneB _ => ?_, fun l k j b atSpeed same lane idle slot body ofReel => ?_,
    fun atSpeed early => ?_, fun b p atSpeed late body ofReel profile => ?_, fun atSpeed same lane continuous => ?_,
    fun atSpeed same => ⟨fun lane waits => ?_, fun lane out held => ?_, fun l lane full => ?_⟩⟩
  · obtain ⟨lanes, e, granted, list⟩ := (s.silent.putStation st
      { s.station st with motion := .atSpeed, state := .running }).joinWaitList_laneA (by simp) (by simpa using free)
        empty laneA laneB
    have tenure : (s.silent.putStation st { s.station st with motion := .atSpeed, state := .running }).station st = _ :=
      State.station_putStation _ _ _
    refine ⟨_, exec_atSpeed powered threaded prerolls frame e (rested.silent.congr rfl rfl), ?_, ?_, ?_, list, rfl, rfl,
      rfl, rfl⟩
    · exact congrArg Station.state tenure
    · exact congrArg Station.motion tenure
    · exact granted.trans (by rw [tenure])
  all_goals
    obtain ⟨running, speed, free⟩ := atSpeed
    have gate : AtGate s st count f g := ⟨running, speed, free, frame, target⟩
  · subst same
    have lane' : (s.silent.shown st f).laneOf st = some l := lane
    have slot' : (s.silent.shown st f).freeSlot = some k := slot
    have opened : (s.silent.shown st f).openBody? st = some b := s.openBody_of_target target body
    have shown : (s.silent.shown st f).station st = { s.station st with lastGate := some f } := s.silent.shown_station st f
    have capture : s.canCapture st = true := by rw [s.canCapture_eq lane, idle, slot]; rfl
    have test : ((((s.silent.shown st f).openBody? st).map (fun b => b.reel.isNone)).getD false) = false := by
      rw [opened]
      simp [ofReel]
    obtain ⟨y, begun⟩ := State.beginCapture_slot (f := f) lane' slot'
    rw [test] at begun
    refine ⟨_, gate.begins powered rested capture, ?_, State.beginCapture_lane lane' slot', ⟨_, begun, rfl, rfl, rfl, rfl,
      rfl, rfl⟩, fun n m => State.beginCapture_otherSlots lane' slot' m, ?_, ?_, ?_, ?_, ?_, ?_⟩
    · rw [State.beginCapture_station lane' slot', shown]
    · exact State.beginCapture_order lane' slot' opened ofReel
    · intro begun n
      rw [State.reel?_beginCapture lane' slot' opened ofReel, if_neg fun h => Bool.false_ne_true (h.2.symm.trans begun)]
      rfl
    · intro p q first profile e
      have profile : ((s.silent.shown st f).station st).profile = some p := by rw [shown]; exact profile
      have e : (s.silent.shown st f).reel? j = some q := e
      rw [State.reel?_beginCapture lane' slot' opened ofReel, if_pos ⟨rfl, first⟩, profile, e]
      rfl
    · intro n other
      rw [State.reel?_beginCapture lane' slot' opened ofReel, if_neg fun h => other h.1]
      rfl
    · exact State.beginCapture_link lane' slot'
    · exact State.beginCapture_sent lane' slot'
  · refine gate.ends powered (t := { s with
      sent := if (s.station st).profile = some .step then [.station st .step] else []
      stations := s.stations.set st { s.station st with lastGate := some f } }) ?_ (rested.congr rfl rfl)
    have profile : ((s.silent.shown st f).station st).profile = (s.station st).profile := by
      rw [State.shown_station]
      rfl
    rw [State.compared_early _ early, profile]
    split <;> rfl
  · exact gate.missed powered rested late body ofReel record profile
  all_goals
    subst same
    have shown : (s.silent.shown st f).station st = { s.station st with lastGate := some f } := s.silent.shown_station st f
    have runs : ((s.silent.shown st f).station st).runsAtSpeed = true := by rw [shown]; exact gate.runs
    have still : Rested ((s.silent.shown st f).starving st f) := rested.congr rfl rfl
    have starves := s.starving_starves st f
  · have capture : s.canCapture st = false := by simp [State.canCapture, lane]
    have onward := Onward.starve (s.silent.shown st f) f runs
    have idle : NoStart ((s.silent.shown st f).starve st f) := NoStart.congr (s := s) rested.lift onward.stk
    have settled := State.settle_followed _ idle
    obtain ⟨state, last⟩ := (s.silent.shown st f).starve_continuous f runs (by rw [shown]; exact free) lane
      (by rw [shown]; exact continuous)
    have record : (((s.silent.shown st f).starve st f).settle).station st = ((s.silent.shown st f).starve st f).station st :=
      congrArg (·[st]) settled.work.stations
    refine ⟨_, gate.starves powered capture, settled.kept _ (onward.kept _ starves.flag), by rw [record, state], ?_,
      by rw [record, last, shown]⟩
    rw [settled.sent]
    exact onward.sent _ (by rw [starves.sent, if_neg continuous]; exact List.mem_singleton_self _)
  · have capture : s.canCapture st = false := by simp [State.canCapture, lane]
    exact ⟨_, gate.starves_rested powered capture (State.starve_alone _ f runs (.inl waits)) still,
      ⟨starves.flag, starves.station, starves.sent, starves.orders, starves.retained, starves.store⟩, rfl⟩
  · have capture : s.canCapture st = false := by simp [State.canCapture, lane]
    have needs := (s.silent.shown st f).starving_needsLane (st := st) f (by rw [shown]; exact free) lane
    obtain ⟨lanes, e⟩ := ((s.silent.shown st f).starving st f).joined_eq st
    have holders : ∀ l, ((((s.silent.shown st f).starving st f).joined st).lane l).hold.map (·.station)
        = (s.lane l).hold.map (·.station) := ((s.silent.shown st f).starving st f).joined_holders st
    have held' : ∀ l, ((((s.silent.shown st f).starving st f).joined st).lane l).hold ≠ none := by
      intro l none'
      have none'' : (s.lane l).hold.map (·.station) = none := by rw [← holders l, none']; rfl
      exact held l (Option.map_eq_none_iff.mp none'')
    have ends : (s.silent.shown st f).starve st f = ((s.silent.shown st f).starving st f).joined st := by
      rw [State.starve_eq _ runs, State.joinWaitList_joins _ needs out, State.grantLanes_held _ held']
    refine ⟨_, gate.starves_rested powered capture ends (by rw [e]; exact still.congr rfl rfl), ?_,
      State.joined_waitList _ st, holders⟩
    rw [e]
    have := starves.lanes (lanes := lanes)
    exact ⟨this.flag, this.station, this.sent, this.orders, this.retained, this.store⟩
  · have capture : s.canCapture st = false := by
      rw [s.canCapture_eq lane]
      rcases full with none' | busy
      · simp [none']
      · simp [busy]
    exact ⟨_, gate.starves_rested powered capture (State.starve_alone _ f runs (.inr ⟨l, lane⟩)) still,
      ⟨starves.flag, starves.station, starves.sent, starves.orders, starves.retained, starves.store⟩, rfl⟩

end Sys2Proof.Machine
end

section
/-!
PROOFS. The refutation of the statement about stored captures (R81, R87, R119, R122, R123).
-/

-- One proof after another, as in the model's tests: each thread's stack counts against the memory limit.
set_option Elab.async false

namespace Sys2Proof.Machine

theorem exec_captureStored (s : State) (l : LaneId) (samples : List (Nat × Sample)) (powered : s.powered = true) :
    exec (.captureStored l samples) s = .next (s.silent.captureStored l samples).settle := by
  have run : exec (.captureStored l samples) s = event (fun s => s.captureStored l samples) s := rfl
  rw [run, event, if_pos powered]
  rfl

/-! ### A repair queue that names a FREE slot

The statement takes the slot for the next pattern frame to be the one that is the lowest FREE slot before the completion. The
completion itself can start an analysis: the frame before learns of its successor, becomes eligible and joins the queue, and
the slot at the queue's head is ANALYSING from then on. No premise says that the head of the queue is not FREE, so the lowest
FREE slot can be taken by the engine before the pattern source offers the next frame. -/

/-- The loopback work order of the counterexample. -/
def strayBody : OrderBody :=
  { reel := none, first := 0, last := 6, nextCapture := 5, nextDeliver := 4, lastCaptured := some 4 }

/-- The lane's hold in the counterexample. -/
def strayHold : Hold := { station := 1, tenure := 24, release := .none }

/-- The slot a pattern frame is being captured into. -/
def strayFilling : Slot := { Slot.free with state := .filling, order := some 1, frame := some 5 }

/-- Station 1 captures pattern frame 5 of a loopback work order into slot 0. Frame 4 in slot 2 waits for the successor this
completion gives it, the engine is idle, and the repair queue holds slot 1, which is FREE and still bears a frame: a state no
run reaches. -/
def strayQueue : State :=
  { State.reset with
    stations := State.reset.stations.set 1 { State.reset.station 1 with state := .loopback, inFlight := some 5 }
    orders := State.reset.orders.set 1
      { state := .active, ending := .none, requested := .fast, cues := [], passBegun := true, body := some strayBody }
    lanes := { State.reset.lanes with
      laneA := { hold := some strayHold, carriage := some { station := 1, frame := 5, slot := 0 } }
      source := { assigned := some 1, state := .feeding, intervalOver := true } }
    store := {
      slots := ((State.reset.store.slots.set 0 strayFilling).set 1
        { Slot.free with order := some 1, frame := some 9 }).set 2
          { Slot.free with
            state := .waiting, order := some 1, frame := some 4, predecessor := some .repaired, successor := some .awaited }
      queue := [1] } }

theorem strayQueue_rested : Rested strayQueue := (reset_rested []).congr rfl rfl

theorem strayQueue_completing : Completing strayQueue .a strayHold 1 5 0 strayBody strayFilling := by
  constructor <;> decide +kernel

/-- The completion takes slot 1 for an analysis, and the next capture begins in slot 3. -/
theorem strayQueue_carriage :
    ((strayQueue.silent.captureStored .a []).settle.lane .a).carriage = some { station := 1, frame := 6, slot := 3 } := by
  decide +kernel

/-- Refutes O45: in `strayQueue` slot 1 is the lowest FREE slot, and the next pattern frame goes to slot 3. -/
theorem not_storedCapturesAreHandedOn : ¬ Obligations.StoredCapturesAreHandedOn := by
  unfold Obligations.StoredCapturesAreHandedOn
  intro h
  obtain ⟨-, -, outcomes⟩ := h strayQueue .a [] rfl strayQueue_rested
  obtain ⟨-, loopback⟩ := outcomes strayHold 1 5 0 strayBody strayFilling strayQueue_completing
  obtain ⟨-, offered, -⟩ := loopback rfl rfl rfl rfl rfl rfl nofun (by decide)
  obtain ⟨t, run, -, -, -, lane, -⟩ := offered 1 (by decide) rfl (by decide +kernel)
  have ends := exec_captureStored strayQueue .a [] rfl
  have carriage := strayQueue_carriage
  rw [Host.Outcome.next.inj (ends.symm.trans run)] at carriage
  rw [lane] at carriage
  exact absurd carriage (by decide)

end Sys2Proof.Machine
end

section
/-!
PROOFS. One station's part of a suite reset, once the lanes are free (R28, R86, R98, R113, R114, R127, R187).
-/

-- One proof after another, as in the model's tests: each thread's stack counts against the memory limit.
set_option Elab.async false

namespace Sys2Proof.Machine

variable {s t : State} {i j : Nat} {r : Reel} {st : StationId}

/-! ### With the lanes free -/

theorem State.laneOf_powerOn (s : State) (free : s.lanes = .powerOn) (st : StationId) : s.laneOf st = none := by
  unfold State.laneOf
  rw [free]
  rfl

/-- Without a lane no station recovers (R80, R82). -/
theorem State.recover_laneless (s : State) (h : s.laneOf st = none) : s.recover st = s := by
  have none' : s.canCapture st = false := by simp only [State.canCapture, h]
  unfold State.recover
  simp [none']

theorem State.offerSlots_powerOn (s : State) (free : s.lanes = .powerOn) : s.offerSlots = s := by
  have all : ∀ l : List StationId, l.foldl State.recover s = s := by
    intro l
    induction l with
    | nil => rfl
    | cons u l ih => rw [List.foldl_cons, s.recover_laneless (s.laneOf_powerOn free u)]; exact ih
  exact all _

theorem State.leaveLanes_powerOn (s : State) (free : s.lanes = .powerOn) (st : StationId) : s.leaveLanes st = s := by
  have list : s.leaveWaitList st = s := by
    have same : ({ s with lanes := .powerOn } : State) = s := by rw [← free]
    unfold State.leaveWaitList
    rw [free]
    exact same
  unfold State.leaveLanes
  dsimp only
  rw [list, s.laneOf_powerOn free]

theorem State.abandonQuietly_powerOn (s : State) (free : s.lanes = .powerOn) (st : StationId) :
    s.abandonQuietly st = s.updStation st (fun t => { t with inFlight := none }) := by
  unfold State.abandonQuietly
  simp only [s.laneOf_powerOn free]

theorem State.updSource_id (s : State) (m : PatternSource → PatternSource) (h : m s.lanes.source = s.lanes.source) :
    s.updSource m = s := by
  unfold State.updSource
  rw [h]

/-! ### What a reset leaves of a station's record -/

/-- A change that keeps what a reset of the station keeps. -/
theorem State.updStation_fixture (s : State) (st : StationId) (m : Station → Station)
    (h : (m (s.station st)).afterReset = (s.station st).afterReset) :
    ∃ x, s.updStation st m = s.putStation st x ∧ x.afterReset = (s.station st).afterReset := by
  refine ⟨(s.updStation st m).station st, ?_, ?_⟩
  · simp [State.updStation, State.putStation, State.station]
  · rw [State.station_updStation, if_pos rfl]
    split
    · exact h
    · exact h

/-- A station that closes its work order, with the lanes free (R83, R113). -/
theorem State.closeStation_powerOn (s : State) (free : s.lanes = .powerOn) (st : StationId) :
    ∃ x e, s.closeStation st = { s.putStation st x with sent := s.sent ++ e } ∧ x.afterReset = (s.station st).afterReset := by
  obtain ⟨x, e, kept⟩ := s.updStation_fixture st (fun t => { t with profile := none, fallback := none }) rfl
  have record : (s.putStation st x).station st = x := State.station_putStation _ _ _
  unfold State.closeStation
  simp only [e, record]
  split
  · obtain ⟨y, e, kept'⟩ := ((s.putStation st x).toStation st .rewind).updStation_fixture st
      (fun t => { t with state := .rewinding, motion := .winding, stopPending := .none }) rfl
    have same : ((s.putStation st x).toStation st .rewind).station st = x := record
    rw [same] at kept'
    refine ⟨y, [.station st .rewind], ?_, kept'.trans kept⟩
    rw [e]
    refine (State.leaveLanes_powerOn _ ?_ st).trans ?_
    · exact free
    · exact congrArg (fun u : State => { u with sent := s.sent ++ [Emission.station st .rewind] })
        (s.putStation_putStation st x y)
  · split
    · obtain ⟨y, e, kept'⟩ := (s.putStation st x).updStation_fixture st (fun t => { t with stopPending := .none }) rfl
      rw [record] at kept'
      refine ⟨y, [], ?_, kept'.trans kept⟩
      rw [e, State.updSource_id]
      · refine (State.leaveLanes_powerOn _ ?_ st).trans ?_
        · exact free
        · rw [State.putStation_putStation, List.append_nil]
          rfl
      · have idle : ((s.putStation st x).putStation st y).lanes.source = .idle := by
          change s.lanes.source = _
          rw [free]
          rfl
        rw [idle]
        rfl
    · exact ⟨x, [], by rw [List.append_nil]; rfl, kept⟩

/-! ### A work order aborted -/

/-- The store once a station's work order has closed (R127). -/
def FrameStore.closedFor (v : FrameStore) (st : StationId) : FrameStore :=
  { slots := v.slots.map (fun x => if x.order = some st then x.closed else x)
    queue := v.queue.filter (fun k => !(v.slots[k]?).any (fun x => x.order == some st)) }

theorem State.closeSlots_powerOn (s : State) (free : s.lanes = .powerOn) (st : StationId) (freed : Bool) :
    s.closeSlots st freed = { s with store := s.store.closedFor st } := by
  unfold State.closeSlots
  dsimp only
  split
  · exact State.offerSlots_powerOn { s with store := s.store.closedFor st } free
  · rfl

/-- A change of a reel's record rests on the registry alone. -/
theorem State.updReel_retained_congr (h : t.retained = s.retained) (i : Nat) (m : Reel → Reel) :
    (t.updReel i m).retained = (s.updReel i m).retained := by
  unfold State.updReel
  rw [State.reel?_congr h]
  split
  · simp only [State.setReel, h]
  · exact h

theorem State.updReel_eq (s : State) (i : Nat) (m : Reel → Reel) :
    s.updReel i m = { s with retained := (s.updReel i m).retained } := by
  unfold State.updReel
  split <;> rfl

/-- The records once the reel of a work order has had its pass aborted (R24, R25). -/
def State.completedFor (s : State) (w : WorkOrder) : State :=
  (w.body.bind (·.reel)).elim s (fun i => s.updReel i (·.completePass .aborted))

theorem State.completedFor_eq (s : State) (w : WorkOrder) :
    s.completedFor w = { s with retained := (s.completedFor w).retained } := by
  unfold State.completedFor
  cases w.body.bind (·.reel) with
  | none => rfl
  | some i => exact s.updReel_eq i _

theorem State.completedFor_retained_congr (h : t.retained = s.retained) (w : WorkOrder) :
    (t.completedFor w).retained = (s.completedFor w).retained := by
  unfold State.completedFor
  cases w.body.bind (·.reel) with
  | none => exact h
  | some i => exact State.updReel_retained_congr h i _

/-- The state with a station's work order closed by an abort, before the station acts (R113, R127). -/
def State.closing (s : State) (st : StationId) : State :=
  { s with
    orders := s.orders.set st { s.order st with state := .closed, ending := .aborted }
    store := s.store.closedFor st
    retained := (s.completedFor (s.order st)).retained }

/-- The closing of an aborted work order without an alert, with the lanes free (R113, R114). -/
theorem State.closeOrder_powerOn (s : State) (free : s.lanes = .powerOn) (st : StationId) (freed : Bool) :
    s.closeOrder st .aborted true freed = (s.closing st).closeStation st := by
  let order := s.updOrder st (fun w => { w with state := .closed, ending := .aborted })
  have slots := order.closeSlots_powerOn free st freed
  have quiet : s.closeOrder st .aborted true freed = ((order.closeSlots st freed).completedFor (s.order st)).closeStation st := by
    unfold State.closeOrder State.completedFor
    cases h : (s.order st).body.bind (·.reel) <;> (simp only [h, if_true, Option.elim]; rfl)
  have done := State.completedFor_eq { order with store := order.store.closedFor st } (s.order st)
  have retained := State.completedFor_retained_congr (s := s) (t := { order with store := order.store.closedFor st }) rfl
    (s.order st)
  rw [quiet, slots, done, retained]
  rfl

/-- A work order's record as an abort without an alert leaves it (R114). -/
def WorkOrder.reset (w : WorkOrder) : WorkOrder :=
  if w.state = .closed then w else { w with state := .closed, ending := .aborted }

/-- The state with a station's work order closed by an abort: the record of the station and what was sent are given (R114,
R127). -/
def State.aborted (s : State) (st : StationId) (x : Station) (e : List Emission) : State :=
  { s.putStation st x with
    orders := s.orders.set st (s.order st).reset
    store := if s.hasOrder st then s.store.closedFor st else s.store
    retained := if s.hasOrder st then (s.completedFor (s.order st)).retained else s.retained
    sent := s.sent ++ e }

/-- A work order aborted without an alert, with the lanes free (R114). -/
theorem State.abortOrder_powerOn (s : State) (free : s.lanes = .powerOn) (st : StationId) :
    ∃ x e, s.abortOrder st true = s.aborted st x e ∧ x.afterReset = (s.station st).afterReset := by
  cases opened : s.hasOrder st with
  | false =>
    have closed : (s.order st).state = .closed := by simpa [State.hasOrder] using opened
    refine ⟨s.station st, [], ?_, rfl⟩
    have order : s.orders.set st (s.order st) = s.orders := by simp [State.order]
    unfold State.abortOrder State.aborted WorkOrder.reset
    simp only [opened, closed, if_true, Bool.false_eq_true, if_false, List.append_nil, State.putStation_station, order]
  | true =>
    have open' : (s.order st).state ≠ .closed := by simpa [State.hasOrder] using opened
    obtain ⟨x, quiet, kept⟩ := s.updStation_fixture st (fun t => { t with inFlight := none }) rfl
    obtain ⟨y, e, close, kept'⟩ := State.closeStation_powerOn ((s.closing st).putStation st x) free st
    have record : ((s.closing st).putStation st x).station st = x := State.station_putStation _ _ _
    have reset : (s.order st).reset = { s.order st with state := .closed, ending := .aborted } := if_neg open'
    have closing : (s.putStation st x).closing st = (s.closing st).putStation st x := by
      have retained := State.completedFor_retained_congr (s := s) (t := s.putStation st x) rfl (s.order st)
      unfold State.closing
      exact congrArg (fun v : Retained => ({ s.putStation st x with
        orders := s.orders.set st { s.order st with state := .closed, ending := .aborted }
        store := s.store.closedFor st, retained := v } : State)) retained
    refine ⟨y, e, ?_, kept'.trans ((congrArg Station.afterReset record).trans kept)⟩
    calc s.abortOrder st true
        = (s.putStation st x).closeOrder st .aborted true (s.capturing st) := by
          rw [State.abortOrder, if_pos opened, s.abandonQuietly_powerOn free, quiet]
      _ = ((s.closing st).putStation st x).closeStation st := by
          rw [State.closeOrder_powerOn (s.putStation st x) free, closing]
      _ = s.aborted st y e := by
          rw [close, State.putStation_putStation, State.aborted, reset, if_pos opened, if_pos opened]
          rfl

/-! ### The station rediscovered (R28, R86) -/

/-- A suite reset's part of one station in the records and the store, the station's own record reset (R86, R187). -/
def State.rediscovered (s : State) (st : StationId) (e : List Emission) : State :=
  { s with
    stations := s.stations.set st (s.station st).afterReset
    orders := s.orders.set st (s.order st).reset
    store := if s.hasOrder st then s.store.closedFor st else s.store
    retained := ((if s.hasOrder st then s.completedFor (s.order st) else s).reverifyIn st).retained
    sent := s.sent ++ e }

theorem State.reverifyIn_eq (s : State) (st : StationId) :
    s.reverifyIn st = { s with retained := (s.reverifyIn st).retained } := by
  unfold State.reverifyIn State.setCustody
  split
  · exact s.updReel_eq _ _
  · rfl

theorem State.reverifyIn_retained_congr (h : t.retained = s.retained) (st : StationId) :
    (t.reverifyIn st).retained = (s.reverifyIn st).retained := by
  have inside : t.reelIn st = s.reelIn st := State.reelAt_congr h _
  unfold State.reverifyIn State.setCustody
  rw [inside]
  split
  · exact State.updReel_retained_congr h _ _
  · exact h

/-- One station's part of a suite reset, with the lanes free (R28, R86, R114, R187). -/
theorem State.resetStation_powerOn (s : State) (free : s.lanes = .powerOn) (st : StationId) :
    ∃ e, s.resetStation st = s.rediscovered st e ∧ Emission.station st .safe ∈ e ∧ Emission.station st .stationClear ∈ e := by
  obtain ⟨x, e, aborts, kept⟩ := s.abortOrder_powerOn free st
  have ports : ((((s.aborted st x e).toStation st .safe).toStation st .stationClear).toStation st .ident)
      = s.aborted st x (e ++ [.station st .safe, .station st .stationClear, .station st .ident]) := by
    simp only [State.aborted, State.toStation, List.append_assoc, List.cons_append, List.nil_append]
  have record : ∀ e, (s.aborted st x e).station st = x := fun e => s.station_putStation st x
  have retained : ∀ e, (s.aborted st x e).retained = (if s.hasOrder st then s.completedFor (s.order st) else s).retained := by
    intro e
    unfold State.aborted
    dsimp only
    split <;> rfl
  have updated : ∀ e, ((s.aborted st x e).updStation st (·.afterReset)).freeSource st
      = (s.aborted st x e).putStation st (s.station st).afterReset := by
    intro e
    rw [State.updStation_cleared _ st (·.afterReset) rfl, record, kept]
    refine State.updSource_id _ _ ?_
    have idle : ((s.aborted st x e).putStation st (s.station st).afterReset).lanes.source = .idle := by
      change s.lanes.source = _
      rw [free]
      rfl
    rw [idle]
    rfl
  have rewritten : ∀ e y, (s.aborted st x e).putStation st y = { s.aborted st x e with stations := s.stations.set st y } :=
    fun e y => congrArg (fun v => ({ s.aborted st x e with stations := v } : State)) (Vector.set_set ..)
  have reverified : ∀ e y, (((s.aborted st x e).putStation st y).reverifyIn st).retained
      = ((if s.hasOrder st then s.completedFor (s.order st) else s).reverifyIn st).retained :=
    fun e y => State.reverifyIn_retained_congr (t := (s.aborted st x e).putStation st y) (retained e) st
  refine ⟨e ++ [.station st .safe, .station st .stationClear, .station st .ident], ?_, by simp, by simp⟩
  rw [State.resetStation, aborts, State.rediscover, ports, updated, State.reverifyIn_eq, reverified, rewritten]
  rfl

end Sys2Proof.Machine
end

section
/-!
PROOFS. The four stations' parts of a suite reset, one after another (R24, R28, R86, R114, R127, R187).
-/

-- One proof after another, as in the model's tests: each thread's stack counts against the memory limit.
set_option Elab.async false

namespace Sys2Proof.Machine

variable {s t v : State} {i j : Nat} {r : Reel} {st : StationId} {L : List StationId}

/-! ### A pass aborted (R24) -/

theorem Reel.completePass_order (r : Reel) (o : PassOutcome) : (r.completePass o).order = none := by
  unfold Reel.completePass
  split
  · rfl
  · dsimp only
    split <;> rfl

theorem Reel.completePass_location (r : Reel) (o : PassOutcome) : (r.completePass o).location = r.location := by
  unfold Reel.completePass
  split
  · rfl
  · dsimp only
    split <;> rfl

theorem Reel.completePass_cameFrom (r : Reel) (o : PassOutcome) : (r.completePass o).cameFrom = r.cameFrom := by
  unfold Reel.completePass
  split
  · rfl
  · dsimp only
    split <;> rfl

theorem Reel.custody_completePass (r : Reel) (o : PassOutcome) : (r.completePass o).custody = r.custody := by
  unfold Reel.completePass
  split
  · rfl
  · dsimp only
    split <;> rfl

/-- Custody is no part of a pass. -/
theorem Reel.completePass_custody (r : Reel) (o : PassOutcome) (c : Custody) :
    ({ r with custody := c } : Reel).completePass o = { r.completePass o with custody := c } := by
  have running : ({ r with custody := c } : Reel).running = r.running := rfl
  have splices : ({ r with custody := c } : Reel).knownSplices = r.knownSplices := rfl
  unfold Reel.completePass
  rw [running, splices]
  cases r.running with
  | none => rfl
  | some p =>
    dsimp only
    split <;> rfl

/-- The history after a pass has been aborted. -/
theorem Reel.completePass_history (r : Reel) : (r.completePass .aborted).history =
    r.history.map (fun p => if p.outcome = .running then { p with outcome := .aborted } else p) := by
  have known : ∀ g : PassRecord → PassRecord, (r.updRunning g).history
      = r.history.map (fun p => if p.outcome = .running then g p else p) := fun g => by rw [Reel.updRunning_eq]
  unfold Reel.completePass
  cases running : r.running with
  | none =>
    have none' : ∀ p ∈ r.history, p.outcome ≠ .running := by simpa [Reel.running] using running
    exact ((List.map_congr_left fun p m => if_neg (none' p m)).trans (List.map_id' _)).symm
  | some p =>
    dsimp only
    split <;> exact known _

/-- After an abort no pass runs. -/
theorem Reel.completePass_running (r : Reel) : (r.completePass .aborted).running = none := by
  rw [Reel.running, r.completePass_history, List.find?_eq_none]
  intro p m
  obtain ⟨q, -, rfl⟩ := List.mem_map.mp m
  split <;> simp_all

theorem Reel.completePass_again (r : Reel) : (r.completePass .aborted).completePass .aborted = r.completePass .aborted := by
  have order := r.completePass_order .aborted
  have running := r.completePass_running
  generalize r.completePass .aborted = q at order running ⊢
  unfold Reel.completePass
  rw [running]
  dsimp only
  rw [← order]

/-- The record with its pass aborted, where a work order that is aborted names the reel (R24). -/
def Reel.abortedIf (r : Reel) (works : Bool) : Reel := if works then r.completePass .aborted else r

theorem Reel.abortedIf_custody (r : Reel) (works : Bool) (c : Custody) :
    ({ r with custody := c } : Reel).abortedIf works = { r.abortedIf works with custody := c } := by
  cases works
  · rfl
  · exact r.completePass_custody _ c

theorem Reel.abortedIf_abortedIf (r : Reel) (a b : Bool) : (r.abortedIf a).abortedIf b = r.abortedIf (a || b) := by
  cases a
  · rfl
  · cases b
    · rfl
    · exact r.completePass_again

/-- What a suite reset makes of a reel's record: the pass of its work order is aborted, and a reel in a chamber must be
verified again (R24, R28). -/
def Reel.suiteReset (r : Reel) (works inside : Bool) : Reel :=
  { r.abortedIf works with custody := if inside then .reverify else r.custody }

theorem Reel.suiteReset_location (r : Reel) (works inside : Bool) : (r.suiteReset works inside).location = r.location := by
  cases works
  · rfl
  · exact r.completePass_location _

theorem Reel.suiteReset_cameFrom (r : Reel) (works inside : Bool) : (r.suiteReset works inside).cameFrom = r.cameFrom := by
  cases works
  · rfl
  · exact r.completePass_cameFrom _

/-- A record reset for one station and then for others. -/
theorem Reel.suiteReset_suiteReset (r : Reel) (a b c d : Bool) :
    (r.suiteReset a b).suiteReset c d = r.suiteReset (a || c) (b || d) := by
  have custody : (if d then Custody.reverify else if b then Custody.reverify else r.custody)
      = if b || d then Custody.reverify else r.custody := by cases b <;> cases d <;> rfl
  simp only [Reel.suiteReset, Reel.abortedIf_custody, Reel.abortedIf_abortedIf, custody]

/-! ### The registry after one station's part -/

/-- The registry's settings are no part of a reel's record. -/
theorem State.updReel_settings (s : State) (i : Nat) (m : Reel → Reel) :
    (s.updReel i m).retained.dwell = s.retained.dwell ∧ (s.updReel i m).retained.threshold = s.retained.threshold := by
  unfold State.updReel
  split <;> exact ⟨rfl, rfl⟩

/-- A work order that is not CLOSED names reel `i`. -/
def State.works (s : State) (st : StationId) (i : Nat) : Bool :=
  s.hasOrder st && ((s.order st).body.bind (·.reel) == some i)

/-- The first registered reel at a place depends on where the reels are alone. -/
theorem State.reelAt_of_locations (h : ∀ j, (t.reel? j).map (·.location) = (s.reel? j).map (·.location)) (l : Location) :
    t.reelAt l = s.reelAt l := by
  have mapped : ∀ u : State, u.reelAt l = (u.retained.reels.toList.map (fun o => o.map (·.location))).findIdx?
      (fun o => o.any (· == l)) := by
    intro u
    rw [State.reelAt, State.findReel, List.findIdx?_map]
    congr 1
    funext o
    cases o <;> rfl
  rw [mapped, mapped]
  congr 1
  refine List.ext_getElem (by simp) fun j a b => ?_
  have e := h j
  simp only [List.length_map, Vector.length_toList] at a b
  simpa [State.reel?, a] using e

theorem State.reel?_reverifyIn (s : State) (st : StationId) (i : Nat) : (s.reverifyIn st).reel? i =
    (s.reel? i).map (fun r => { r with custody := if s.reelIn st = some i then .reverify else r.custody }) := by
  unfold State.reverifyIn State.setCustody
  cases inside : s.reelIn st with
  | none => simp
  | some j =>
    dsimp only
    rw [State.reel?_updReel]
    by_cases e : j = i
    · subst e
      simp
    · simp [e]

theorem State.reel?_completedFor (s : State) (w : WorkOrder) (i : Nat) : (s.completedFor w).reel? i =
    (s.reel? i).map (·.abortedIf (w.body.bind (·.reel) == some i)) := by
  unfold State.completedFor
  cases reel : w.body.bind (·.reel) with
  | none =>
    refine (Option.map_id' (x := s.reel? i)).symm.trans ?_
    rfl
  | some j =>
    rw [Option.elim, State.reel?_updReel]
    by_cases e : j = i
    · subst e
      simp only [if_true, beq_self_eq_true]
      rfl
    · have other : (some j == some i) = false := by simp [e]
      rw [if_neg e, other]
      exact (Option.map_id' (x := s.reel? i)).symm

theorem State.reel?_rediscovered (s : State) (st : StationId) (e : List Emission) (i : Nat) :
    (s.rediscovered st e).reel? i = (s.reel? i).map (·.suiteReset (s.works st i) (s.reelIn st == some i)) := by
  have closed : ∀ j, (if s.hasOrder st then s.completedFor (s.order st) else s).reel? j
      = (s.reel? j).map (·.abortedIf (s.works st j)) := by
    intro j
    unfold State.works
    split
    · next opened => rw [State.reel?_completedFor, opened, Bool.true_and]
    · next closed =>
      rw [Bool.eq_false_iff.mpr closed, Bool.false_and]
      exact (Option.map_id' (x := s.reel? j)).symm
  have inside : (if s.hasOrder st then s.completedFor (s.order st) else s).reelIn st = s.reelIn st := by
    refine State.reelAt_of_locations (fun j => ?_) _
    rw [closed, Option.map_map]
    congr 1
    funext r
    exact r.suiteReset_location (s.works st j) false
  have retained : (s.rediscovered st e).reel? i
      = ((if s.hasOrder st then s.completedFor (s.order st) else s).reverifyIn st).reel? i := State.reel?_congr rfl i
  rw [retained, State.reel?_reverifyIn, closed, Option.map_map, inside]
  congr 1
  funext r
  have custody : (r.abortedIf (s.works st i)).custody = r.custody := by
    cases s.works st i
    · rfl
    · exact r.custody_completePass .aborted
  simp only [Function.comp, Reel.suiteReset, custody, beq_iff_eq]

theorem State.rediscovered_settings (s : State) (st : StationId) (e : List Emission) :
    (s.rediscovered st e).retained.dwell = s.retained.dwell
      ∧ (s.rediscovered st e).retained.threshold = s.retained.threshold := by
  have closed : (if s.hasOrder st then s.completedFor (s.order st) else s).retained.dwell = s.retained.dwell
      ∧ (if s.hasOrder st then s.completedFor (s.order st) else s).retained.threshold = s.retained.threshold := by
    split
    · unfold State.completedFor
      cases (s.order st).body.bind (·.reel) with
      | none => exact ⟨rfl, rfl⟩
      | some i => exact s.updReel_settings i _
    · exact ⟨rfl, rfl⟩
  unfold State.rediscovered
  dsimp only
  revert closed
  generalize (if s.hasOrder st then s.completedFor (s.order st) else s) = u
  intro closed
  rw [← closed.1, ← closed.2]
  unfold State.reverifyIn State.setCustody
  split
  · exact u.updReel_settings _ _
  · exact ⟨rfl, rfl⟩

/-! ### The stations of a list, one after another -/

/-- What the parts of the stations of a list have done (R24, R28, R86, R114, R127). -/
structure StationsReset (L : List StationId) (s t : State) : Prop where
  frame : t = { s with
    stations := t.stations, orders := t.orders, store := t.store, retained := t.retained, sent := t.sent }
  dwell : t.retained.dwell = s.retained.dwell
  threshold : t.retained.threshold = s.retained.threshold
  station : ∀ u, t.station u = if u ∈ L then (s.station u).afterReset else s.station u
  order : ∀ u, t.order u = if u ∈ L then (s.order u).reset else s.order u
  kept : ∀ e ∈ s.sent, e ∈ t.sent
  sent : ∀ u ∈ L, Emission.station u .safe ∈ t.sent ∧ Emission.station u .stationClear ∈ t.sent
  stays : ∀ k x, s.slot? k = some x → (∀ u ∈ L, x.order = some u → s.hasOrder u = false) → t.slot? k = some x
  closes : ∀ k x u, s.slot? k = some x → x.order = some u → u ∈ L → s.hasOrder u = true → t.slot? k = some x.closed
  queue : ∀ k ∈ t.store.queue, k ∈ s.store.queue
  leaves : ∀ k x u, s.slot? k = some x → x.order = some u → u ∈ L → s.hasOrder u = true → k ∉ t.store.queue
  reels : ∀ i, t.reel? i = (s.reel? i).map (·.suiteReset (L.any (s.works · i)) (L.any (fun u => s.reelIn u == some i)))

namespace StationsReset

theorem nil (s : State) : StationsReset [] s s where
  frame := rfl
  dwell := rfl
  threshold := rfl
  station _ := rfl
  order _ := rfl
  kept _ h := h
  sent _ h := absurd h (List.not_mem_nil)
  stays _ _ e _ := e
  closes _ _ _ _ _ m _ := absurd m (List.not_mem_nil)
  queue _ h := h
  leaves _ _ _ _ _ m _ := absurd m (List.not_mem_nil)
  reels i := (Option.map_id' (x := s.reel? i)).symm

theorem hasOrder (h : StationsReset L s t) {u : StationId} (n : u ∉ L) : t.hasOrder u = s.hasOrder u := by
  unfold State.hasOrder
  rw [h.order u, if_neg n]

theorem works (h : StationsReset L s t) {u : StationId} (n : u ∉ L) (i : Nat) : t.works u i = s.works u i := by
  unfold State.works
  rw [h.hasOrder n, h.order u, if_neg n]

theorem reelIn (h : StationsReset L s t) (u : StationId) : t.reelIn u = s.reelIn u := by
  refine State.reelAt_of_locations (fun j => ?_) _
  rw [h.reels, Option.map_map]
  congr 1
  funext r
  exact r.suiteReset_location _ _

end StationsReset

/-- A slot of the store after a work order has closed (R127). -/
theorem FrameStore.slot_closedFor (v : FrameStore) (st : StationId) (k : Nat) : (v.closedFor st).slots[k]? =
    (v.slots[k]?).map (fun x => if x.order = some st then x.closed else x) := by
  simp [FrameStore.closedFor]

theorem State.slot?_rediscovered (s : State) (st : StationId) (e : List Emission) (k : Nat) :
    (s.rediscovered st e).slot? k =
      (s.slot? k).map (fun x => if x.order = some st ∧ s.hasOrder st = true then x.closed else x) := by
  unfold State.slot? State.rediscovered
  dsimp only
  split
  · next opened => simp only [FrameStore.slot_closedFor, opened, and_true]
  · next closed => simp [closed]

/-- One station's part. -/
theorem StationsReset.single (s : State) (st : StationId) (e : List Emission) (safe : Emission.station st .safe ∈ e)
    (clear : Emission.station st .stationClear ∈ e) : StationsReset [st] s (s.rediscovered st e) where
  frame := rfl
  dwell := (s.rediscovered_settings st e).1
  threshold := (s.rediscovered_settings st e).2
  station u := by
    by_cases n : u = st
    · subst n
      simp [State.station, State.rediscovered]
    · have other : st.val ≠ u.val := fun k => n (Fin.ext k.symm)
      simp [State.station, State.rediscovered, n, other]
  order u := by
    by_cases n : u = st
    · subst n
      simp [State.order, State.rediscovered]
    · have other : st.val ≠ u.val := fun k => n (Fin.ext k.symm)
      simp [State.order, State.rediscovered, n, other]
  kept x m := List.mem_append_left _ m
  sent u m := by
    obtain rfl := List.mem_singleton.mp m
    exact ⟨List.mem_append_right _ safe, List.mem_append_right _ clear⟩
  stays k x h closed := by
    rw [s.slot?_rediscovered, h, Option.map_some, if_neg]
    rintro ⟨order, opened⟩
    rw [closed st (List.mem_singleton_self st) order] at opened
    exact Bool.false_ne_true opened
  closes k x u h order m opened := by
    obtain rfl := List.mem_singleton.mp m
    rw [s.slot?_rediscovered, h, Option.map_some, if_pos ⟨order, opened⟩]
  queue k m := by
    unfold State.rediscovered at m
    dsimp only at m
    split at m
    · exact (List.mem_filter.mp m).1
    · exact m
  leaves k x u h order m opened := by
    obtain rfl := List.mem_singleton.mp m
    intro queued
    have queued : k ∈ (s.store.closedFor u).queue := by
      simpa [State.rediscovered, opened] using queued
    have free := (List.mem_filter.mp queued).2
    unfold State.slot? at h
    simp [h, order] at free
  reels i := by
    rw [s.reel?_rediscovered]
    simp

theorem Slot.closed_order (x : Slot) : x.closed.order = x.order ∨ x.closed.order = none := by
  unfold Slot.closed
  split
  · exact .inl rfl
  · exact .inl rfl
  · exact .inl rfl
  · exact .inr rfl

/-- The part of one more station. -/
theorem StationsReset.snoc (h : StationsReset L s t) (new : st ∉ L) (k : StationsReset [st] t v) :
    StationsReset (L ++ [st]) s v where
  frame := by
    rw [k.frame, h.frame]
  dwell := k.dwell.trans h.dwell
  threshold := k.threshold.trans h.threshold
  station u := by
    rw [k.station, h.station]
    by_cases n : u = st
    · subst n
      simp [new]
    · simp [n]
  order u := by
    rw [k.order, h.order]
    by_cases n : u = st
    · subst n
      simp [new]
    · simp [n]
  kept e m := k.kept e (h.kept e m)
  sent u m := by
    rcases List.mem_append.mp m with m | m
    · obtain ⟨safe, clear⟩ := h.sent u m
      exact ⟨k.kept _ safe, k.kept _ clear⟩
    · exact k.sent u m
  stays n x e closed := by
    refine k.stays n x (h.stays n x e fun u m => closed u (List.mem_append_left _ m)) fun u m order => ?_
    obtain rfl := List.mem_singleton.mp m
    rw [h.hasOrder new]
    exact closed u (List.mem_append_right _ m) order
  closes n x u e order m opened := by
    rcases List.mem_append.mp m with old | m
    · refine k.stays n _ (h.closes n x u e order old opened) fun w q order' => ?_
      obtain rfl := List.mem_singleton.mp q
      rcases x.closed_order with same | none'
      · rw [same, order] at order'
        exact absurd (Option.some.inj order' ▸ old) new
      · rw [none'] at order'
        exact absurd order' nofun
    · obtain rfl := List.mem_singleton.mp m
      refine k.closes n x u (h.stays n x e fun w q order' => ?_) order m (by rw [h.hasOrder new, opened])
      rw [order] at order'
      exact absurd (Option.some.inj order' ▸ q) new
  queue n m := h.queue n (k.queue n m)
  leaves n x u e order m opened := by
    rcases List.mem_append.mp m with m | m
    · exact fun q => h.leaves n x u e order m opened (k.queue n q)
    · obtain rfl := List.mem_singleton.mp m
      refine k.leaves n x u (h.stays n x e fun w q order' => ?_) order m (by rw [h.hasOrder new, opened])
      rw [order] at order'
      exact absurd (Option.some.inj order' ▸ q) new
  reels i := by
    rw [k.reels, h.reels, Option.map_map]
    congr 1
    funext r
    simp only [Function.comp, Reel.suiteReset_suiteReset, List.any_append, List.any_cons, List.any_nil, Bool.or_false,
      h.works new, h.reelIn]

theorem State.resetStations_powerOn (s : State) (free : s.lanes = .powerOn) (L : List StationId) (once : L.Nodup) :
    StationsReset L s (L.foldl State.resetStation s) := by
  induction L using List.reverseRecOn with
  | nil => exact .nil s
  | append_singleton L st ih =>
    obtain ⟨once, -, apart⟩ := List.nodup_append.mp once
    have before := ih once
    have lanes : (L.foldl State.resetStation s).lanes = .powerOn := by
      rw [before.frame]
      exact free
    obtain ⟨e, reset, safe, clear⟩ := (L.foldl State.resetStation s).resetStation_powerOn lanes st
    rw [List.foldl_append, List.foldl_cons, List.foldl_nil, reset]
    exact before.snoc (fun m => apart st m st (List.mem_singleton_self st) rfl) (.single _ st e safe clear)

end Sys2Proof.Machine
end

section
/-!
PROOFS. The captures abandoned, the lift stopped and the end of the event of a suite reset (R59, R98, R187).
-/

-- One proof after another, as in the model's tests: each thread's stack counts against the memory limit.
set_option Elab.async false

namespace Sys2Proof.Machine

variable {s t v : State} {st : StationId} {L : List StationId}

/-! ### Captures abandoned (R98) -/

/-- Captures have been abandoned: their slots are cleared, and nothing else is touched that a reset keeps. -/
structure Abandoned (s t : State) : Prop where
  frame : t = { s with stations := t.stations, lanes := t.lanes, store := t.store }
  queue : t.store.queue = s.store.queue
  station : ∀ u, (t.station u).afterReset = (s.station u).afterReset
  carriages : ∀ l c, (t.lane l).carriage = some c → (s.lane l).carriage = some c
  slots : ∀ k x, s.slot? k = some x →
    t.slot? k = some x ∨ (t.slot? k = some x.cleared ∧ ∃ l c, (s.lane l).carriage = some c ∧ c.slot = k)

theorem Abandoned.refl (s : State) : Abandoned s s := ⟨rfl, rfl, fun _ => rfl, fun _ _ h => h, fun _ _ h => .inl h⟩

theorem Abandoned.trans (h : Abandoned s t) (k : Abandoned t v) : Abandoned s v where
  frame := by rw [k.frame, h.frame]
  queue := k.queue.trans h.queue
  station u := (k.station u).trans (h.station u)
  carriages l c e := h.carriages l c (k.carriages l c e)
  slots n x e := by
    rcases h.slots n x e with same | ⟨cleared, carried⟩
    · rcases k.slots n x same with same' | ⟨cleared', l, c, carried, slot⟩
      · exact .inl same'
      · exact .inr ⟨cleared', l, c, h.carriages l c carried, slot⟩
    · rcases k.slots n _ cleared with same' | ⟨cleared', -⟩
      · exact .inr ⟨same', carried⟩
      · exact .inr ⟨cleared', carried⟩

theorem Abandoned.updStation (s : State) (st : StationId) (m : Station → Station)
    (h : (m (s.station st)).afterReset = (s.station st).afterReset) : Abandoned s (s.updStation st m) := by
  obtain ⟨x, e, kept⟩ := s.updStation_fixture st m h
  rw [e]
  refine ⟨rfl, rfl, fun u => ?_, fun _ _ h => h, fun _ _ h => .inl h⟩
  by_cases n : u = st
  · subst n
    rw [State.station_putStation, kept]
  · rw [s.station_putStation_of_ne x n]

/-- A station's capture in flight forgotten. -/
theorem Abandoned.grounded (h : Abandoned s t) : Abandoned s (t.updStation st (fun t => { t with inFlight := none })) :=
  h.trans (.updStation t st _ rfl)

/-- One capture given up: its lane carries nothing, and its slot is cleared. -/
theorem Abandoned.lane (s : State) (l : LaneId) {c : Capture} (e : (s.lane l).carriage = some c) :
    Abandoned s ((s.setLane l { s.lane l with carriage := none }).updSlot c.slot (·.cleared)) := by
  have lanes : ∀ m, ((s.setLane l { s.lane l with carriage := none }).updSlot c.slot (·.cleared)).lane m
      = (s.setLane l { s.lane l with carriage := none }).lane m := fun m => by cases m <;> simp [State.lane]
  refine ⟨?_, ?_, fun u => ?_, fun m d h => ?_, fun k x h => ?_⟩
  · unfold State.updSlot
    cases l <;> (dsimp only [State.setLane]; split <;> rfl)
  · unfold State.updSlot
    cases l <;> (dsimp only [State.setLane]; split <;> rfl)
  · simp [State.station]
  · rw [lanes, State.lane_setLane] at h
    split at h
    · exact absurd h nofun
    · exact h
  · have same : (s.setLane l { s.lane l with carriage := none }).slot? k = some x := by
      simpa [State.slot?] using h
    rw [State.slot?_updSlot]
    by_cases n : c.slot = k
    · refine .inr ⟨?_, l, c, e, n⟩
      rw [if_pos n, n, same]
      rfl
    · exact .inl (by rw [if_neg n, same])

theorem Abandoned.abandonQuietly (s : State) (st : StationId) : Abandoned s (s.abandonQuietly st) := by
  unfold State.abandonQuietly
  dsimp only
  refine Abandoned.grounded ?_
  split
  · exact .refl s
  · next l _ =>
    split
    · exact .refl s
    · next c e => exact .lane s l e

theorem Abandoned.foldl (L : List StationId) (s : State) : Abandoned s (L.foldl State.abandonQuietly s) := by
  induction L generalizing s with
  | nil => exact .refl s
  | cons u L ih => exact (Abandoned.abandonQuietly s u).trans (ih _)

/-! ### The lift stopped (R59) -/

/-- What a suite reset does to the stacks (R59): LNK, whose master enable is off, is told of a halt. -/
structure StacksReset (s t : State) : Prop where
  frame : t = { s with stk := t.stk, link := { s.link with word := t.link.word, pending := t.link.pending }, sent := t.sent }
  positions : t.stk.positions = s.stk.positions
  queue : ∀ m ∈ t.stk.queue, m.state = .moving ∨ m.state = .halted
  word : t.link.word = if s.stk.lift = .moving then s.link.word ||| BitVec.twoPow 22 15 else s.link.word
  kept : ∀ e ∈ s.sent, e ∈ t.sent
  moving : s.stk.lift = .moving → t.stk.lift = .halted ∧ t.stk.cause = some .reset ∧ t.stk.timer = none
    ∧ Emission.lift .stop ∈ t.sent
  direct : s.stk.lift = .direct → t.stk.forwarded = none
    ∧ t.stk.lift = if s.stk.carriage = .empty then LiftState.idle else .direct

theorem MoveRecord.isMove_iff (m : MoveRecord) : m.isMove = true ↔ m.state = .moving ∨ m.state = .halted := by
  simp [MoveRecord.isMove]

/-- The lift's move halts with cause RESET (R48, R59). -/
theorem State.resetLift_moving (s : State) (disabled : s.link.enable = false) (lift : s.stk.lift = .moving) :
    ∃ p, s.resetLift = { s with
      stk := { s.stk with
        queue := s.stk.queue.map (fun m => if m.isMove then { m with state := .halted, cause := some .reset } else m)
        lift := .halted, cause := some .reset, timer := none }
      link := { s.link with word := s.link.word ||| BitVec.twoPow 22 15, pending := p }
      sent := s.sent ++ [.lift .stop] } := by
  refine ⟨s.link.pending.set 15 (some ((HaltCause.reset.names s.stk.carriage).context s.link.clock)), ?_⟩
  unfold State.resetLift State.haltMove
  rw [lift]
  dsimp only
  rw [State.raise_disabled]
  · rfl
  · exact disabled

theorem State.resetLift_direct (s : State) (lift : s.stk.lift = .direct) : s.resetLift = { s with
    stk := if s.stk.carriage = .empty then { s.stk with forwarded := none, lift := .idle, cause := none }
      else { s.stk with forwarded := none }
    sent := s.sent ++ [.lift .stop] } := by
  unfold State.resetLift
  rw [lift]
  dsimp only [State.toLift, State.endForwarded, State.liftIdle]
  split <;> rfl

theorem State.resetLift_still (s : State) (lift : s.stk.lift = .idle ∨ s.stk.lift = .halted) : s.resetLift = s := by
  unfold State.resetLift
  rcases lift with e | e <;> rw [e]

/-- The state whose queue holds the lift's move alone (R59). -/
def State.onlyMove (s : State) : State := { s with stk := { s.stk with queue := s.stk.queue.filter (·.isMove) } }

theorem State.onlyMove_queue (s : State) : ∀ m ∈ s.onlyMove.stk.queue, m.state = .moving ∨ m.state = .halted := fun m k =>
  m.isMove_iff.mp (List.mem_filter.mp k).2

theorem State.resetStacks_reset (s : State) (disabled : s.link.enable = false) : StacksReset s s.resetStacks := by
  have reset : s.resetStacks = s.onlyMove.resetLift := rfl
  rw [reset]
  have same : s.onlyMove.stk.lift = s.stk.lift := rfl
  cases lift : s.stk.lift with
  | moving =>
    obtain ⟨p, e⟩ := s.onlyMove.resetLift_moving disabled (same.trans lift)
    rw [e]
    refine ⟨rfl, rfl, fun m k => ?_, by rw [lift]; rfl, fun e m => List.mem_append_left _ m, fun _ => ⟨rfl, rfl, rfl, ?_⟩,
      by rw [lift]; nofun⟩
    · obtain ⟨n, old, rfl⟩ := List.mem_map.mp k
      split
      · exact .inr rfl
      · exact s.onlyMove_queue n old
    · exact List.mem_append_right _ (List.mem_singleton_self _)
  | direct =>
    have queue := s.onlyMove_queue
    rw [s.onlyMove.resetLift_direct (same.trans lift)]
    refine ⟨rfl, ?_, ?_, by rw [lift]; rfl, fun e m => List.mem_append_left _ m, by rw [lift]; nofun, fun _ => ?_⟩
    · dsimp only
      split <;> rfl
    · dsimp only
      split <;> exact queue
    · have carriage : s.onlyMove.stk.carriage = s.stk.carriage := rfl
      dsimp only
      rw [carriage]
      split
      · exact ⟨rfl, rfl⟩
      · exact ⟨rfl, lift⟩
  | idle =>
    rw [s.onlyMove.resetLift_still (.inl (same.trans lift))]
    exact ⟨rfl, rfl, s.onlyMove_queue, by rw [lift]; rfl, fun _ m => m, by rw [lift]; nofun, by rw [lift]; nofun⟩
  | halted =>
    rw [s.onlyMove.resetLift_still (.inr (same.trans lift))]
    exact ⟨rfl, rfl, s.onlyMove_queue, by rw [lift]; rfl, fun _ m => m, by rw [lift]; nofun, by rw [lift]; nofun⟩

/-! ### The end of the event -/

/-- A record that is the lift's move is none the arbiter considers (R44). -/
theorem State.arbitrate_moves (s : State) (before l : List MoveRecord) (h : ∀ m ∈ l, m.state = .moving ∨ m.state = .halted) :
    s.arbitrate before l = { s with stk := { s.stk with queue := before ++ l } } := by
  induction l generalizing before with
  | nil =>
    rw [List.append_nil]
    rfl
  | cons m l ih =>
    have started : ¬ (m.state = .queued ∧ s.sourceHolds m = true) := fun k => by
      rcases h m List.mem_cons_self with e | e <;> rw [e] at k <;> exact absurd k.1 nofun
    rw [State.arbitrate, if_neg started, ih _ fun n k => h n (List.mem_cons_of_mem _ k), List.append_assoc]
    rfl

section Settle

variable (moves : ∀ m ∈ s.stk.queue, m.state = .moving ∨ m.state = .halted)
include moves

theorem State.followDwell_moves : s.followDwell = s := by
  have queue : s.stk.queue.map (fun m =>
      if m.kind = .mount ∧ (m.state = .queued ∨ m.state = .dwellWait) then { m with state := s.mountState m } else m)
      = s.stk.queue := by
    refine (List.map_congr_left fun m k => if_neg ?_).trans (List.map_id' _)
    rintro ⟨-, waits⟩
    rcases moves m k with e | e <;> rw [e] at waits <;> exact absurd waits (by decide)
  unfold State.followDwell
  rw [queue]

theorem State.liftArbiter_moves : s.liftArbiter = s := by
  unfold State.liftArbiter
  split
  · exact s.arbitrate_moves [] _ moves
  · rfl

/-- With the lift's move alone in the queue and every due position announced, nothing of chapter 2 is due (R34, R41, R44). -/
theorem State.settle_moves (announced : ∀ (p i : Nat) (x : Staging) (r : Reel), s.position? p = some x → x.state = .occupied →
      s.reel? i = some r → r.location = .staging p → x.announced = true ∨ x.dwell < s.retained.dwell.of r.cameFrom) :
    s.settle = s := by
  have announce : ∀ p, s.announce p = s := by
    intro p
    unfold State.announce
    split
    · next x i hx hi =>
      split
      · rfl
      · next r hr =>
        refine if_neg fun ⟨occupied, unannounced, due⟩ => ?_
        rcases announced p i x r hx occupied hr (s.reelAt_location (.staging p) i r hi hr) with a | d
        · rw [a] at unannounced
          exact absurd unannounced nofun
        · exact absurd due (Nat.not_le.mpr d)
    · rfl
  have all : ∀ l : List Nat, l.foldl State.announce s = s := by
    intro l
    induction l with
    | nil => rfl
    | cons p l ih => rw [List.foldl_cons, announce p]; exact ih
  rw [State.settle, State.followDwell_moves moves, State.announceAll, all, State.liftArbiter_moves moves]

end Settle

end Sys2Proof.Machine
end

section
/-!
PROOFS. A suite reset as a whole: what it makes of every block (R24, R25, R28, R59, R98, R127, R187).
-/

-- One proof after another, as in the model's tests: each thread's stack counts against the memory limit.
set_option Elab.async false

namespace Sys2Proof.Machine

variable {s t v : State} {st : StationId} {q : RequestHeader}

/-! ### LNK's own part (R187) -/

/-- The transmitter takes notices: a picture message stays where it is. -/
theorem Link.transmit_picture (l : Link) (h : Outbound.picture ∈ l.outbound) : Outbound.picture ∈ l.transmit.outbound := by
  unfold Link.transmit
  split
  · next f rest e =>
    have tail : Outbound.picture ∈ rest := by simpa [e] using h
    split
    · exact List.mem_cons_of_mem _ tail
    · exact tail
  · exact h

theorem Link.transmit_queue (l : Link) : l.transmit.queue = l.queue := by
  obtain ⟨p, o, frame⟩ := l.transmit_frame
  rw [frame]

theorem Link.transmit_retainedPassed (l : Link) : l.transmit.retainedPassed = l.retainedPassed := by
  obtain ⟨p, o, frame⟩ := l.transmit_frame
  rw [frame]

/-- The reply placed and LNK's own state reset. -/
def State.resetAnswered (s : State) (q : RequestHeader) : State := (s.reply q (.done .empty)).updLink (·.afterReset)

/-- What LNK's own reset leaves (R187): the reply alone is placed, and the clock and the retained check stay. -/
structure LinkReset (q : RequestHeader) (l m : Link) : Prop where
  replies : m.outbound.filter (·.isReply) = [.reply { kind := q.kind, number := q.number, body := .done .empty }]
  queue : m.queue = []
  mask : m.mask = BitVec.allOnes 22
  enable : m.enable = false
  rejection : m.rejection = none
  word : m.word = 0
  clock : m.clock = l.clock
  retainedPassed : m.retainedPassed = l.retainedPassed
  picture : Outbound.picture ∈ l.outbound → Outbound.picture ∈ m.outbound

/-- An entry that survives a reset stays in the list. -/
theorem Link.mem_afterReset (l : Link) (e : Outbound) (h : e.survivesReset = true) (m : e ∈ l.outbound) :
    e ∈ l.afterReset.outbound := by
  have cut : e ∈ l.outbound.take 1 ++ l.outbound.drop 1 := by rwa [List.take_append_drop]
  rcases List.mem_append.mp cut with m | m
  · exact List.mem_append_left _ m
  · exact List.mem_append_right _ (List.mem_filter.mpr ⟨m, h⟩)

/-- A reset keeps the replies. -/
theorem Link.afterReset_replies (l : Link) : l.afterReset.outbound.filter (·.isReply) = l.outbound.filter (·.isReply) := by
  have kept : ((l.outbound.drop 1).filter (·.survivesReset)).filter (·.isReply) = (l.outbound.drop 1).filter (·.isReply) := by
    rw [List.filter_filter]
    congr 1
    funext e
    cases e <;> rfl
  calc l.afterReset.outbound.filter (·.isReply)
      = (l.outbound.take 1).filter (·.isReply) ++ ((l.outbound.drop 1).filter (·.survivesReset)).filter (·.isReply) :=
        List.filter_append ..
    _ = (l.outbound.take 1 ++ l.outbound.drop 1).filter (·.isReply) := by rw [kept, List.filter_append]
    _ = l.outbound.filter (·.isReply) := by rw [List.take_append_drop]

theorem State.resetAnswered_link (s : State) (q : RequestHeader) (quiet : s.link.outbound.filter (·.isReply) = []) :
    LinkReset q s.link (s.resetAnswered q).link := by
  have placed := s.link.place_replies (.reply { kind := q.kind, number := q.number, body := .done .empty })
  rw [quiet] at placed
  refine ⟨(Link.afterReset_replies _).trans placed, rfl, rfl, rfl, rfl, rfl, Link.transmit_clock _,
    Link.transmit_retainedPassed _, fun m => ?_⟩
  exact Link.mem_afterReset _ _ rfl (Link.transmit_picture _ (List.mem_append_left _ m))

/-! ### The work orders' slots (R127) -/

theorem Slot.closed_free (x : Slot) (analysing : x.state ≠ .analysing) (sending : x.state ≠ .sending) :
    x.closed.state = .free := by
  unfold Slot.closed
  split
  · assumption
  · next e => exact absurd e analysing
  · next e => exact absurd e sending
  · rfl

theorem Slot.closed_running (x : Slot) (h : x.state = .analysing ∨ x.state = .sending) :
    x.closed = { x with freeAtEnd := true } := by
  unfold Slot.closed
  rcases h with e | e <;> rw [e]

/-! ### The whole reset -/

/-- What a suite reset makes of every block. -/
structure SuiteReset (q : RequestHeader) (s t : State) : Prop where
  replies : t.link.outbound.filter (·.isReply) = [.reply { kind := q.kind, number := q.number, body := .done .empty }]
  queue : t.link.queue = []
  mask : t.link.mask = BitVec.allOnes 22
  enable : t.link.enable = false
  rejection : t.link.rejection = none
  word : t.link.word = if s.stk.lift = .moving then BitVec.twoPow 22 15 else 0
  clock : t.link.clock = s.link.clock
  retainedPassed : t.link.retainedPassed = s.link.retainedPassed
  picture : Outbound.picture ∈ s.link.outbound → Outbound.picture ∈ t.link.outbound
  lanes : t.lanes = .powerOn
  station : ∀ u, t.station u = (s.station u).afterReset
  order : ∀ u, t.order u = (s.order u).reset
  sent : ∀ u, Emission.station u .safe ∈ t.sent ∧ Emission.station u .stationClear ∈ t.sent
  delivery : t.delivery = { s.delivery with lastServed := 3 }
  engine : t.engine = s.engine
  snapshot : t.snapshot = s.snapshot
  repairs : (∀ k ∈ s.store.queue, (∃ x u, s.slot? k = some x ∧ x.order = some u ∧ s.hasOrder u = true)
    ∧ ∀ l c, (s.lane l).carriage = some c → c.slot ≠ k) → t.store.queue = []
  frees : ∀ k x u, s.slot? k = some x → x.order = some u → s.hasOrder u = true → x.state ≠ .analysing → x.state ≠ .sending →
    ∃ y, t.slot? k = some y ∧ y.state = .free
  runsOn : ∀ k x u, s.slot? k = some x → x.order = some u → s.hasOrder u = true →
    (x.state = .analysing ∨ x.state = .sending) → (∀ l c, (s.lane l).carriage = some c → c.slot ≠ k) →
    t.slot? k = some { x with freeAtEnd := true }
  dwell : t.retained.dwell = s.retained.dwell
  threshold : t.retained.threshold = s.retained.threshold
  reels : ∀ i, t.reel? i = (s.reel? i).map (·.suiteReset ([0, 1, 2, 3].any (s.works · i))
    ([0, 1, 2, 3].any (fun u => s.reelIn u == some i)))
  moving : s.stk.lift = .moving → t.stk.lift = .halted ∧ t.stk.cause = some .reset ∧ t.stk.timer = none
    ∧ Emission.lift .stop ∈ t.sent
  direct : s.stk.lift = .direct → t.stk.forwarded = none
    ∧ t.stk.lift = if s.stk.carriage = .empty then LiftState.idle else .direct
  moves : ∀ m ∈ t.stk.queue, m.state = .moving ∨ m.state = .halted
  positions : t.stk.positions = s.stk.positions

/-- The lanes cleared (R98): the captures are abandoned, and nothing but the lanes, the stations and the store is touched. -/
theorem State.clearLanes_frame (s : State) : s.clearLanes = { s with
    stations := s.clearLanes.stations, lanes := .powerOn, store := s.clearLanes.store } := by
  have abandoned := Abandoned.foldl [0, 1, 2, 3] s
  unfold State.clearLanes
  generalize ([0, 1, 2, 3] : List StationId).foldl State.abandonQuietly s = t at abandoned ⊢
  rw [abandoned.frame]

theorem mem_allStations (u : StationId) : u ∈ ([0, 1, 2, 3] : List StationId) := by
  revert u
  decide

/-- The stations' parts of a suite reset, with the captures abandoned before them. -/
structure WorkReset (s t : State) : Prop where
  frame : t = { s with
    stations := t.stations, lanes := .powerOn, orders := t.orders, store := t.store, retained := t.retained, sent := t.sent }
  dwell : t.retained.dwell = s.retained.dwell
  threshold : t.retained.threshold = s.retained.threshold
  station : ∀ u, t.station u = (s.station u).afterReset
  order : ∀ u, t.order u = (s.order u).reset
  sent : ∀ u, Emission.station u .safe ∈ t.sent ∧ Emission.station u .stationClear ∈ t.sent
  repairs : (∀ k ∈ s.store.queue, (∃ x u, s.slot? k = some x ∧ x.order = some u ∧ s.hasOrder u = true)
    ∧ ∀ l c, (s.lane l).carriage = some c → c.slot ≠ k) → t.store.queue = []
  frees : ∀ k x u, s.slot? k = some x → x.order = some u → s.hasOrder u = true → x.state ≠ .analysing → x.state ≠ .sending →
    ∃ y, t.slot? k = some y ∧ y.state = .free
  runsOn : ∀ k x u, s.slot? k = some x → x.order = some u → s.hasOrder u = true →
    (x.state = .analysing ∨ x.state = .sending) → (∀ l c, (s.lane l).carriage = some c → c.slot ≠ k) →
    t.slot? k = some { x with freeAtEnd := true }
  reels : ∀ i, t.reel? i = (s.reel? i).map (·.suiteReset ([0, 1, 2, 3].any (s.works · i))
    ([0, 1, 2, 3].any (fun u => s.reelIn u == some i)))

theorem State.workReset (s : State) : WorkReset s (([0, 1, 2, 3] : List StationId).foldl State.resetStation s.clearLanes) := by
  have abandoned := Abandoned.foldl [0, 1, 2, 3] s
  have frame := s.clearLanes_frame
  have lanes : s.clearLanes.lanes = .powerOn := rfl
  have done := s.clearLanes.resetStations_powerOn lanes [0, 1, 2, 3] (by decide)
  have station : ∀ u, (s.clearLanes.station u).afterReset = (s.station u).afterReset := abandoned.station
  have slots : ∀ k x, s.slot? k = some x → s.clearLanes.slot? k = some x
      ∨ (s.clearLanes.slot? k = some x.cleared ∧ ∃ l c, (s.lane l).carriage = some c ∧ c.slot = k) := abandoned.slots
  have queue : s.clearLanes.store.queue = s.store.queue := abandoned.queue
  generalize s.clearLanes = u at *
  generalize ([0, 1, 2, 3] : List StationId).foldl State.resetStation u = t at *
  have orders : u.orders = s.orders := by rw [frame]
  have retained : u.retained = s.retained := by rw [frame]
  have order : ∀ w, u.order w = s.order w := fun w => congrArg (·[w]) orders
  have opened : ∀ w, u.hasOrder w = s.hasOrder w := fun w => by rw [State.hasOrder, State.hasOrder, order]
  have works : ∀ w i, u.works w i = s.works w i := fun w i => by rw [State.works, State.works, opened, order]
  have inside : ∀ w, u.reelIn w = s.reelIn w := fun w => State.reelAt_congr retained _
  have same : ∀ k x, s.slot? k = some x → (∀ l c, (s.lane l).carriage = some c → c.slot ≠ k) → u.slot? k = some x := by
    intro k x e apart
    rcases slots k x e with same | ⟨-, l, c, carried, slot⟩
    · exact same
    · exact absurd slot (apart l c carried)
  refine ⟨?_, ?_, ?_, fun w => ?_, fun w => ?_, fun w => done.sent w (mem_allStations w), fun named => ?_,
    fun k x w e own open' analysing sending => ?_, fun k x w e own open' runs apart => ?_, fun i => ?_⟩
  · rw [done.frame, frame]
  · rw [done.dwell, retained]
  · rw [done.threshold, retained]
  · rw [done.station, if_pos (mem_allStations w), station]
  · rw [done.order, if_pos (mem_allStations w), order]
  · refine List.eq_nil_iff_forall_not_mem.mpr fun k m => ?_
    obtain ⟨⟨x, w, e, own, open'⟩, apart⟩ := named k (queue ▸ done.queue k m)
    exact done.leaves k x w (same k x e apart) own (mem_allStations w) ((opened w).trans open') m
  · rcases slots k x e with same | ⟨cleared, -⟩
    · exact ⟨_, done.closes k x w same own (mem_allStations w) ((opened w).trans open'), x.closed_free analysing sending⟩
    · exact ⟨_, done.stays k x.cleared cleared nofun, rfl⟩
  · rw [done.closes k x w (same k x e apart) own (mem_allStations w) ((opened w).trans open'), x.closed_running runs]
  · rw [done.reels, State.reel?_congr retained]
    simp only [works, inside]

section Stopped

variable (h : StacksReset s t)
include h

theorem StacksReset.link : t.link = { s.link with word := t.link.word, pending := t.link.pending } := by rw [h.frame]
theorem StacksReset.stations : t.stations = s.stations := by rw [h.frame]
theorem StacksReset.lanes : t.lanes = s.lanes := by rw [h.frame]
theorem StacksReset.orders : t.orders = s.orders := by rw [h.frame]
theorem StacksReset.store : t.store = s.store := by rw [h.frame]
theorem StacksReset.retained : t.retained = s.retained := by rw [h.frame]
theorem StacksReset.delivery : t.delivery = s.delivery := by rw [h.frame]
theorem StacksReset.engine : t.engine = s.engine := by rw [h.frame]
theorem StacksReset.snapshot : t.snapshot = s.snapshot := by rw [h.frame]

end Stopped

theorem State.resetSuite_reset (s : State) (q : RequestHeader) (quiet : s.link.outbound.filter (·.isReply) = []) :
    SuiteReset q s (s.resetSuite q) := by
  have link := s.resetAnswered_link q quiet
  have work := (s.resetAnswered q).workReset
  have answered : (s.reply q (.done .empty)).updLink (·.afterReset) = s.resetAnswered q := rfl
  unfold State.resetSuite
  dsimp only
  rw [answered]
  generalize ([0, 1, 2, 3] : List StationId).foldl State.resetStation (s.resetAnswered q).clearLanes = t at *
  have linked : t.link = (s.resetAnswered q).link := by rw [work.frame]
  have lift : t.stk = s.stk := by rw [work.frame]; rfl
  have lanes : t.lanes = .powerOn := by rw [work.frame]
  have delivery : t.delivery = s.delivery := by rw [work.frame]; rfl
  have engine : t.engine = s.engine := by rw [work.frame]; rfl
  have snapshot : t.snapshot = s.snapshot := by rw [work.frame]; rfl
  have stopped := State.resetStacks_reset { t with delivery := { t.delivery with lastServed := 3 } }
    ((congrArg Link.enable linked).trans link.enable)
  generalize State.resetStacks { t with delivery := { t.delivery with lastServed := 3 } } = v at *
  have same : v.link = { t.link with word := v.link.word, pending := v.link.pending } := stopped.link
  have outbound : v.link.outbound = (s.resetAnswered q).link.outbound := (congrArg Link.outbound same).trans (by rw [linked])
  have stations : v.stations = t.stations := stopped.stations
  have orders : v.orders = t.orders := stopped.orders
  have store : v.store = t.store := stopped.store
  have retained : v.retained = t.retained := stopped.retained
  have slot : ∀ k, v.slot? k = t.slot? k := fun k => by rw [State.slot?, State.slot?, store]
  have lifted : t.stk.lift = s.stk.lift := congrArg Stacks.lift lift
  refine ⟨?_, ?_, ?_, ?_, ?_, ?_, ?_, ?_, fun m => ?_, ?_, fun u => ?_, fun u => ?_, fun u => ?_, ?_, ?_, ?_, fun named => ?_,
    fun k x u e own open' analysing sending => ?_, fun k x u e own open' runs apart => ?_, ?_, ?_, fun i => ?_, fun m => ?_,
    fun m => ?_, stopped.queue, ?_⟩
  · rw [outbound, link.replies]
  · exact (congrArg Link.queue same).trans ((congrArg Link.queue linked).trans link.queue)
  · exact (congrArg Link.mask same).trans ((congrArg Link.mask linked).trans link.mask)
  · exact (congrArg Link.enable same).trans ((congrArg Link.enable linked).trans link.enable)
  · exact (congrArg Link.rejection same).trans ((congrArg Link.rejection linked).trans link.rejection)
  · have zero : t.link.word = 0 := (congrArg Link.word linked).trans link.word
    rw [stopped.word]
    dsimp only
    rw [lifted, zero]
    split
    · decide
    · rfl
  · exact (congrArg Link.clock same).trans ((congrArg Link.clock linked).trans link.clock)
  · exact (congrArg Link.retainedPassed same).trans ((congrArg Link.retainedPassed linked).trans link.retainedPassed)
  · rw [outbound]
    exact link.picture m
  · exact stopped.lanes.trans lanes
  · exact (congrArg (·[u]) stations).trans (work.station u)
  · exact (congrArg (·[u]) orders).trans (work.order u)
  · exact (work.sent u).imp (stopped.kept _) (stopped.kept _)
  · refine stopped.delivery.trans ?_
    dsimp only
    rw [delivery]
  · exact stopped.engine.trans engine
  · exact stopped.snapshot.trans snapshot
  · rw [store]
    exact work.repairs named
  · rw [slot]
    exact work.frees k x u e own open' analysing sending
  · rw [slot]
    exact work.runsOn k x u e own open' runs apart
  · exact (congrArg Retained.dwell retained).trans work.dwell
  · exact (congrArg Retained.threshold retained).trans work.threshold
  · rw [State.reel?_congr retained]
    exact work.reels i
  · exact stopped.moving (lifted.trans m)
  · have carriage : t.stk.carriage = s.stk.carriage := congrArg Stacks.carriage lift
    have direct := stopped.direct (lifted.trans m)
    dsimp only at direct
    rwa [carriage] at direct
  · rw [stopped.positions]
    exact congrArg Stacks.positions lift

end Sys2Proof.Machine
end

section
/-!
PROOFS. The event that takes RESET SUITE, at its arrival or from the queue, and O56 (R24, R25, R28, R59, R98, R187).
-/

-- One proof after another, as in the model's tests: each thread's stack counts against the memory limit.
set_option Elab.async false

namespace Sys2Proof.Machine

variable {s t u v : State} {st : StationId} {n : RequestNumber} {q : RequestHeader}

/-! ### The condition grade by counted bounds (R24) -/

/-- The number of bounds a value has reached: the rank of its band (R24). -/
def bandRank (v : Int) (bounds : List Int) : Nat := bounds.countP (fun b => decide (b ≤ v))

/-- The worst of the four bands of a pass, as a rank (R24). -/
def PassRecord.worstBand (p : PassRecord) (splices : Nat) : Nat :=
  max (max (match p.peak with
      | some v => bandRank v [50, 100, 150, 250]
      | none => 0) (bandRank splices [5, 15, 30, 60]))
    (max (bandRank p.tears [1, 1, 2, 4]) (bandRank (p.defectTiles * 100 / p.frames : Nat) [5, 20, 50, 100]))

theorem Grade.rank_worse (x y : Grade) : (x.worse y).rank = max x.rank y.rank := by
  unfold Grade.worse
  split <;> omega

theorem Grade.getElem_rank (g : Grade) : some g = [Grade.a, .b, .c, .d, .e][g.rank]? := by cases g <;> rfl

theorem Grade.rank_eq_four_iff (g : Grade) : g.rank = 4 ↔ g = .e := by cases g <;> simp [Grade.rank]

/-- A chain of four bounds counts the bounds reached. -/
theorem bandRank_four (v a b c d : Int) (ab : a ≤ b) (bc : b ≤ c) (cd : c ≤ d) :
    bandRank v [a, b, c, d] = if v < a then 0 else if v < b then 1 else if v < c then 2 else if v < d then 3 else 4 := by
  simp only [bandRank, List.countP_cons, List.countP_nil, decide_eq_true_eq]
  split_ifs <;> omega

theorem peakBand_rank (o : Option Int) : (peakBand o).rank = match o with
    | some v => bandRank v [50, 100, 150, 250]
    | none => 0 := by
  cases o with
  | none => rfl
  | some v =>
    dsimp only
    rw [bandRank_four v _ _ _ _ (by decide) (by decide) (by decide)]
    unfold peakBand
    dsimp only
    split_ifs <;> rfl

theorem spliceBand_rank (n : Nat) : (spliceBand n).rank = bandRank n [5, 15, 30, 60] := by
  rw [bandRank_four n _ _ _ _ (by decide) (by decide) (by decide)]
  unfold spliceBand
  split_ifs <;> simp only [Grade.rank] <;> omega

theorem tearBand_rank (n : Nat) : (tearBand n).rank = bandRank n [1, 1, 2, 4] := by
  rw [bandRank_four n _ _ _ _ (by decide) (by decide) (by decide)]
  unfold tearBand
  split_ifs <;> simp only [Grade.rank] <;> omega

theorem densityBand_rank (n : Nat) : (densityBand n).rank = bandRank n [5, 20, 50, 100] := by
  rw [bandRank_four n _ _ _ _ (by decide) (by decide) (by decide)]
  unfold densityBand
  split_ifs <;> simp only [Grade.rank] <;> omega

theorem gradeOf_rank (p : PassRecord) (splices : Nat) : (gradeOf p splices).rank = p.worstBand splices := by
  rw [gradeOf, Grade.rank_worse, Grade.rank_worse, Grade.rank_worse, peakBand_rank, spliceBand_rank, tearBand_rank,
    densityBand_rank]
  rfl

/-! ### What an aborted pass leaves of the record (R24, R25) -/

/-- An aborted pass changes the grade, the peak, the pass limit and the outcome of the pass, and clears the work order. -/
theorem Reel.completePass_aborted (r : Reel) : r.completePass .aborted = { r with
    order := none, grade := (r.completePass .aborted).grade, peak := (r.completePass .aborted).peak
    passLimit := (r.completePass .aborted).passLimit
    history := r.history.map (fun p => if p.outcome = .running then { p with outcome := .aborted } else p) } := by
  rw [← r.completePass_history]
  unfold Reel.completePass
  split
  · rfl
  · dsimp only
    split <;> rfl

/-- A pass without a captured frame is not graded (R25). -/
theorem Reel.completePass_blank (r : Reel) (blank : ∀ p ∈ r.history, p.outcome = .running → p.frames = 0) :
    (r.completePass .aborted).grade = r.grade ∧ (r.completePass .aborted).peak = r.peak
      ∧ (r.completePass .aborted).passLimit = r.passLimit := by
  unfold Reel.completePass
  cases running : r.running with
  | none => exact ⟨rfl, rfl, rfl⟩
  | some p =>
    have none' : p.frames = 0 :=
      blank p (List.mem_of_find?_eq_some running) (by simpa using List.find?_some running)
    dsimp only
    rw [if_pos none']
    exact ⟨rfl, rfl, rfl⟩

/-- A pass with a captured frame is graded by its worst band (R24, R25). -/
theorem Reel.completePass_graded (r : Reel) {before after : List PassRecord} {p : PassRecord}
    (history : r.history = before ++ p :: after) (first : ∀ q ∈ before, q.outcome ≠ .running) (runs : p.outcome = .running)
    (frames : 0 < p.frames) :
    (r.completePass .aborted).grade
        = [Grade.a, .b, .c, .d, .e][p.worstBand (r.segments.countP (·.spliceStart) + p.unrecorded)]?
      ∧ (r.completePass .aborted).peak = p.peak
      ∧ (r.completePass .aborted).passLimit
        = if p.worstBand (r.segments.countP (·.spliceStart) + p.unrecorded) = 4 then min r.passLimit (r.history.length + 1)
          else r.passLimit := by
  have none' : before.find? (fun p => p.outcome == .running) = none :=
    List.find?_eq_none.mpr fun q m => by simpa using first q m
  have running : r.running = some p := by
    rw [Reel.running, history, List.find?_append, none']
    simp [runs]
  have splices : r.knownSplices = r.segments.countP (·.spliceStart) + p.unrecorded := by
    rw [Reel.knownSplices, running]
    rfl
  unfold Reel.completePass
  rw [running]
  dsimp only
  rw [if_neg (Nat.ne_of_gt frames), splices, ← gradeOf_rank]
  refine ⟨Grade.getElem_rank _, rfl, ?_⟩
  simp only [beq_iff_eq, Grade.rank_eq_four_iff]

/-! ### The event -/

/-- The state in which LNK takes RESET SUITE: only the link and what was sent have changed, and no reply waits. -/
structure TakesReset (s u : State) : Prop where
  frame : u = { s with link := u.link, sent := u.sent }
  quiet : u.link.outbound.filter (·.isReply) = []
  clock : u.link.clock = s.link.clock
  retainedPassed : u.link.retainedPassed = s.link.retainedPassed
  picture : Outbound.picture ∈ s.link.outbound → Outbound.picture ∈ u.link.outbound

/-- RESET SUITE is taken as it arrives (R178, R187). -/
theorem exec_resetSuite (free : Free s) (n : RequestNumber) : ∃ u, TakesReset s u
    ∧ exec (.resetSuite n) s = .next (u.resetSuite { kind := Request.resetSuite.kind, number := n }).settle := by
  refine ⟨s.silent, ⟨rfl, free.quiet, rfl, rfl, id⟩, ?_⟩
  refine (exec_command n .resetSuite s).trans ?_
  unfold event
  rw [if_pos free.powered]
  exact congrArg (fun t => Host.Outcome.next (State.settle t)) (s.silent.request_free n .resetSuite free.silent rfl)

/-- The messages behind the head stay, but for the arbiter's test directly behind it (R181). -/
theorem Link.headSent_rest (l : Link) {e : Outbound} {rest : List Outbound} (h : l.outbound = e :: rest) :
    ∃ behind, l.headSent = ({ l with outbound := behind } : Link).transmit
      ∧ (behind = rest ∨ rest = .arbiterTest :: behind) := by
  unfold Link.headSent Link.testBehind
  rw [h]
  cases rest with
  | nil => exact ⟨_, rfl, .inl rfl⟩
  | cons x l =>
    refine ⟨_, rfl, ?_⟩
    by_cases test : x = .arbiterTest
    · exact .inr (by simp [test])
    · exact .inl (by simp [test])

/-- With every work order closed no delivery begins (R168, R169). -/
theorem State.deliveryArbiter_closed (s : State) (closed : ∀ u, (s.order u).state = .closed) : s.deliveryArbiter = s := by
  have nothing : ∀ u, s.item u = none := fun u => by
    unfold State.item
    rw [closed]
    rfl
  have none' : (rotation s.delivery.lastServed).find? (fun u => (s.item u).isSome) = none :=
    List.find?_eq_none.mpr fun u _ => by rw [nothing u]; exact Bool.false_ne_true
  unfold State.deliveryArbiter
  rw [none']
  split <;> rfl

theorem WorkOrder.reset_state (w : WorkOrder) : w.reset.state = .closed := by
  unfold WorkOrder.reset
  split
  · assumption
  · rfl

theorem State.messageSent_reply (s : State) {b : Reply} {rest : List Outbound} (h : s.link.outbound = .reply b :: rest) :
    s.messageSent = (s.emit (.reply b)).headLeaves (·.takeNext) := by
  unfold State.messageSent
  rw [h]

/-- The reply at the head of the outbound list has left it (R181). -/
def State.replyLeft (s : State) (b : Reply) : State := (s.silent.emit (.reply b)).updLink (·.headSent)

/-- The head of the request queue has been taken behind that reply, and `waiting` still waits (R178). -/
def State.headTakenBehind (s : State) (b : Reply) (waiting : List QueuedRequest) : State :=
  (s.replyLeft b).updLink (fun l => { l with queue := waiting })

/-- RESET SUITE is taken from the queue when the reply before it has been sent (R178, R187). -/
theorem exec_outboundMessageSent_resetSuite (powered : s.powered = true) {b : Reply} {rest : List Outbound}
    {waiting : List QueuedRequest} (head : s.link.outbound = .reply b :: rest) (last : rest.any (·.isReply) = false)
    (queue : s.link.queue = { kind := Request.resetSuite.kind, number := n, request := some .resetSuite } :: waiting) :
    ∃ u, TakesReset s u ∧ exec .outboundMessageSent s
      = .next (u.resetSuite { kind := Request.resetSuite.kind, number := n }).settle := by
  obtain ⟨behind, sent, stay⟩ := s.link.headSent_rest head
  have replies : s.link.headSent.outbound.filter (·.isReply) = [] := by
    have none' : rest.filter (·.isReply) = [] := List.filter_eq_nil_iff.mpr (List.any_eq_false.mp last)
    rw [sent, Link.transmit_replies]
    rcases stay with rfl | rfl
    · exact none'
    · simpa [Outbound.isReply] using none'
  have takes : TakesReset s (s.headTakenBehind b waiting) := by
    refine ⟨rfl, replies, s.link.headSent_clock, ?_, fun m => ?_⟩
    · exact (congrArg Link.retainedPassed sent).trans (Link.transmit_retainedPassed _)
    · have m : Outbound.picture ∈ behind := by
        rw [head] at m
        rcases stay with rfl | rfl
        · simpa using m
        · simpa using m
      have kept : Outbound.picture ∈ s.link.headSent.outbound := by
        rw [sent]
        exact Link.transmit_picture _ m
      exact kept
  have ready : (s.replyLeft b).link.ready = true := by
    have none' := List.filter_eq_nil_iff.mp replies
    simpa [Link.ready, State.replyLeft, State.updLink, State.emit, State.silent] using none'
  have waits : (s.replyLeft b).link.queue
      = { kind := Request.resetSuite.kind, number := n, request := some .resetSuite } :: waiting := by
    have same : s.link.headSent.queue = s.link.queue :=
      (congrArg Link.queue sent).trans (Link.transmit_queue _)
    exact same.trans queue
  have next : (s.replyLeft b).takeNext
      = (s.headTakenBehind b waiting).resetSuite { kind := Request.resetSuite.kind, number := n } := by
    rw [State.takeNext_cons _ _ waiting ready waits]
    rfl
  refine ⟨s.headTakenBehind b waiting, takes, ?_⟩
  have reset := (s.headTakenBehind b waiting).resetSuite_reset { kind := Request.resetSuite.kind, number := n } takes.quiet
  generalize (s.headTakenBehind b waiting).resetSuite { kind := Request.resetSuite.kind, number := n } = t at next reset ⊢
  have quiet : t.deliveryArbiter = t := t.deliveryArbiter_closed fun w => by rw [reset.order, WorkOrder.reset_state]
  have messages : s.silent.messageSent = t := by
    rw [s.silent.messageSent_reply head, State.headLeaves, ← State.replyLeft, next, quiet]
    exact ite_self _
  have run : exec .outboundMessageSent s = event (·.messageSent) s := rfl
  rw [run, event, if_pos powered]
  exact congrArg (fun t => Host.Outcome.next (State.settle t)) messages

/-- After a suite reset nothing of chapter 2 is due (R34, R41, R44, R59). -/
theorem State.settle_resetSuite (rested : Rested s) (takes : TakesReset s u) (h : SuiteReset q u v) : v.settle = v := by
  have retained : u.retained = s.retained := by rw [takes.frame]
  have positions : v.stk.positions = s.stk.positions := by rw [h.positions, takes.frame]
  refine State.settle_moves h.moves fun p i x r hx occupied hr location => ?_
  rw [h.reels, State.reel?_congr retained] at hr
  obtain ⟨old, e, rfl⟩ := Option.map_eq_some_iff.mp hr
  rw [Reel.suiteReset_location] at location
  rw [Reel.suiteReset_cameFrom, h.dwell, retained]
  refine rested.announced p i x old ?_ occupied e location
  rw [State.position?, ← positions]
  exact hx

/-! ### The records after a suite reset (R24, R25, R28) -/

theorem State.any_works_iff (s : State) (i : Nat) : ([0, 1, 2, 3] : List StationId).any (s.works · i) = true
    ↔ ∃ st b, (s.order st).state ≠ .closed ∧ (s.order st).body = some b ∧ b.reel = some i := by
  simp only [List.any_eq_true, mem_allStations, true_and, State.works, State.hasOrder, Bool.and_eq_true, bne_iff_ne, beq_iff_eq,
    Option.bind_eq_some_iff]
  exact ⟨fun ⟨st, o, b, e, r⟩ => ⟨st, b, o, e, r⟩, fun ⟨st, b, o, e, r⟩ => ⟨st, o, b, e, r⟩⟩

theorem State.any_reelIn_iff (s : State) (i : Nat) {r : Reel} (h : s.reel? i = some r) :
    ([0, 1, 2, 3] : List StationId).any (fun u => s.reelIn u == some i) = true
      ↔ ∃ st : StationId, r.location = .chamber st.val ∧ s.reelAt r.location = some i := by
  simp only [List.any_eq_true, mem_allStations, true_and, beq_iff_eq]
  constructor
  · rintro ⟨st, inside⟩
    have location := s.reelAt_location (.chamber st.val) i r inside h
    exact ⟨st, location, location ▸ inside⟩
  · rintro ⟨st, location, inside⟩
    exact ⟨st, by rw [location] at inside; exact inside⟩

/-- The custody state after a suite reset (R28). -/
theorem State.custody_resetSuite (s : State) (i : Nat) {r : Reel} (h : s.reel? i = some r) {custody : Custody}
    (c : ((∃ st : StationId, r.location = .chamber st.val ∧ s.reelAt r.location = some i) ∧ custody = Custody.reverify)
      ∨ ((∀ st : StationId, r.location ≠ .chamber st.val) ∧ custody = r.custody)) :
    (if ([0, 1, 2, 3] : List StationId).any (fun u => s.reelIn u == some i) then Custody.reverify else r.custody)
      = custody := by
  have inside := s.any_reelIn_iff i h
  rcases c with ⟨chamber, rfl⟩ | ⟨outside, rfl⟩
  · exact if_pos (inside.mpr chamber)
  · exact if_neg fun k => by
      obtain ⟨st, location, -⟩ := inside.mp k
      exact outside st location

theorem Station.afterReset_eq (x : Station) : x.afterReset = { Station.powerOn with
    state := .discovering, capabilities := x.capabilities, reservation := x.reservation
    filterSetting := x.filterSetting, tenure := x.tenure, discovery := some 2000 } := rfl

theorem State.hasOrder_of_open (s : State) (h : (s.order st).state ≠ .closed) : s.hasOrder st = true := by
  simpa [State.hasOrder] using h

/-- Settles O56: a suite reset block by block, taken as it arrives or from the queue. -/
theorem suiteResetRestoresTheVolatileBlocks : Obligations.SuiteResetRestoresTheVolatileBlocks := by
  unfold Obligations.SuiteResetRestoresTheVolatileBlocks
  intro s n c powered rested taken
  obtain ⟨u, takes, run⟩ : ∃ u, TakesReset s u
      ∧ exec c s = .next (u.resetSuite { kind := Request.resetSuite.kind, number := n }).settle := by
    rcases taken with ⟨free, rfl⟩ | ⟨rfl, b, rest, waiting, head, last, queue⟩
    · exact exec_resetSuite free n
    · exact exec_outboundMessageSent_resetSuite powered head last queue
  have reset := u.resetSuite_reset { kind := Request.resetSuite.kind, number := n } takes.quiet
  rw [State.settle_resetSuite rested takes reset] at run
  generalize u.resetSuite { kind := Request.resetSuite.kind, number := n } = t at run reset
  have retained : u.retained = s.retained := by rw [takes.frame]
  have stations : u.stations = s.stations := by rw [takes.frame]
  have orders : u.orders = s.orders := by rw [takes.frame]
  have lanes : u.lanes = s.lanes := by rw [takes.frame]
  have store : u.store = s.store := by rw [takes.frame]
  have stacked : u.stk = s.stk := by rw [takes.frame]
  have delivery : u.delivery = s.delivery := by rw [takes.frame]
  have engine : u.engine = s.engine := by rw [takes.frame]
  have snapshot : u.snapshot = s.snapshot := by rw [takes.frame]
  have station : ∀ w, u.station w = s.station w := fun w => congrArg (·[w]) stations
  have order : ∀ w, u.order w = s.order w := fun w => congrArg (·[w]) orders
  have lane : ∀ l, u.lane l = s.lane l := fun l => by cases l <;> (simp only [State.lane]; rw [lanes])
  have slot : ∀ k, u.slot? k = s.slot? k := fun k => by rw [State.slot?, State.slot?, store]
  have reel : ∀ i, u.reel? i = s.reel? i := fun i => State.reel?_congr retained i
  have opened : ∀ w, (s.order w).state ≠ .closed → u.hasOrder w = true := fun w h =>
    u.hasOrder_of_open (by rw [order]; exact h)
  have inside : ∀ l, u.reelAt l = s.reelAt l := fun l => State.reelAt_congr retained l
  refine ⟨t, run, reset.replies, reset.queue, reset.mask, reset.enable, reset.rejection, reset.clock.trans takes.clock,
    reset.retainedPassed.trans takes.retainedPassed, ?_, reset.lanes, fun w => ?_, fun w => ?_, reset.sent, ?_, ?_, ?_,
    fun m => reset.picture (takes.picture m), fun named => ?_, fun k x w e own open' => ⟨fun analysing sending => ?_,
    fun runs apart => ?_⟩, ?_, ?_, fun i => ?_, fun i r e custody c => ?_, fun m => ?_, fun m => ?_, reset.moves⟩
  · rw [reset.word, stacked]
  · rw [reset.station, station, Station.afterReset_eq]
  · rw [reset.order, order, WorkOrder.reset]
  · rw [reset.delivery, delivery]
  · rw [reset.engine, engine]
  · rw [reset.snapshot, snapshot]
  · refine reset.repairs fun k m => ?_
    obtain ⟨⟨x, w, e, own, open'⟩, apart⟩ := named k (store ▸ m)
    exact ⟨⟨x, w, (slot k).trans e, own, opened w open'⟩, fun l c carried => apart l c (lane l ▸ carried)⟩
  · exact reset.frees k x w ((slot k).trans e) own (opened w open') analysing sending
  · exact reset.runsOn k x w ((slot k).trans e) own (opened w open') runs fun l c carried => apart l c (lane l ▸ carried)
  · rw [reset.dwell, retained]
  · rw [reset.threshold, retained]
  · rw [reset.reels, reel, Option.isSome_map]
  · have record := reset.reels i
    have worked := u.any_works_iff i
    have kept := u.custody_resetSuite i ((reel i).trans e) (custody := custody) (by rw [inside]; exact c)
    simp only [order] at worked
    rw [reel, e, Option.map_some, Reel.suiteReset, kept] at record
    refine ⟨fun idle => ?_, fun works => ⟨(r.completePass .aborted).grade, (r.completePass .aborted).peak,
      (r.completePass .aborted).passLimit, ?_, r.completePass_blank, fun before p after history first runs frames => ?_⟩⟩
    · rw [record, Bool.eq_false_iff.mpr (fun k => idle (worked.mp k))]
      rfl
    · rw [record, worked.mpr works, Reel.abortedIf, if_pos rfl, r.completePass_aborted]
    · exact r.completePass_graded history first runs frames
  · exact reset.moving (by rw [stacked]; exact m)
  · have direct := reset.direct (by rw [stacked]; exact m)
    rwa [stacked] at direct

end Sys2Proof.Machine
end

section
/-!
PROOFS. The suite clock and the settings of a station (R62, R185).
-/

-- One proof after another, as in the model's tests: each thread's stack counts against the memory limit.
set_option Elab.async false

namespace Sys2Proof.Machine

variable {s t : State} {n : RequestNumber} {st : StationId}

theorem clampClock_eq (v : Nat) : clampClock v = min v 86399 := by
  rw [clampClock, clampNat_eq (by decide), Nat.zero_max]

theorem clampEntry_clock (v : Nat) :
    clampEntry 0 v (clampClock v) = if v ≤ 86399 then [] else [{ position := 0, value := 86399 }] := by
  rw [clampClock, clampEntry_clampNat 0 (by decide)]
  by_cases h : v ≤ 86399
  · rw [if_pos ⟨v.zero_le, h⟩, if_pos h]
  · rw [if_neg (fun k => h k.2), if_neg h, Nat.zero_max, Nat.min_eq_right (by omega)]
    rfl

/-- A number from 0 to 3 names its station. -/
theorem stationOf_val (st : StationId) : stationOf st.val = some st := dif_pos st.isLt

theorem stationOf_above {k : Nat} (h : 4 ≤ k) : stationOf k = none := dif_neg (by omega)

/-- What SET STATION writes: each setting it names, clamped (R62). -/
def Station.set (x : Station) (filter tenure : Option Nat) : Station :=
  { x with
    filterSetting := filter.elim x.filterSetting (fun v => max 1 (min v 15))
    tenure := tenure.elim x.tenure (fun v => max 1 (min v 255)) }

/-- The clamp entry of an optional setting with the range 1 to `hi`, at position `p` of its request (R62, R192). -/
def settingClamp (p hi : Nat) (o : Option Nat) : List Clamp :=
  o.elim [] (fun v => if 1 ≤ v ∧ v ≤ hi then [] else [{ position := p, value := (max 1 (min v hi) : Nat) }])

theorem clampEntry?_setting (p : Nat) {hi : Nat} (h : 1 ≤ hi) (o : Option Nat) :
    clampEntry? p o (clampNat 1 hi) = settingClamp p hi o := by
  cases o with
  | none => rfl
  | some v => exact clampEntry_clampNat p h

theorem map_clampNat_getD {hi : Nat} (h : 1 ≤ hi) (o : Option Nat) (old : Nat) :
    (o.map (clampNat 1 hi)).getD old = o.elim old (fun v => max 1 (min v hi)) := by
  cases o with
  | none => rfl
  | some v => exact clampNat_eq h

theorem exec_setStation (h : Calm s) (filter tenure : Option Nat) : exec (.setStation n st.val filter tenure) s =
    .next ((s.silent.putStation st ((s.station st).set filter tenure)).answered (.setStation st.val filter tenure) n
      (doneOr (settingClamp 1 15 filter ++ settingClamp 2 255 tenure) .empty)) := by
  refine exec_changed (.setStation st.val filter tenure) _ h ?_ h.toRested.silent.putStation h.taken
  have written := s.silent.updStation_sameSpeed st (·.set filter tenure) rfl
  unfold Station.set at written
  simp only [← map_clampNat_getD (hi := 15) (by decide), ← map_clampNat_getD (hi := 255) (by decide)] at written
  rw [← clampEntry?_setting 1 (by decide), ← clampEntry?_setting 2 (by decide), Station.set,
    ← map_clampNat_getD (by decide), ← map_clampNat_getD (by decide)]
  simp only [State.serve, State.setStation, stationOf_val]
  exact congrArg (fun u : State => (u, _)) written

/-- Settles O14: the second that ends and the two requests, by their clamps. -/
theorem clockAndStationSettingsAreClamped : Obligations.ClockAndStationSettingsAreClamped := by
  unfold Obligations.ClockAndStationSettingsAreClamped
  refine ⟨⟨fun s powered rested => ?_, fun s n v h => ?_⟩, fun s n filter tenure h => ⟨fun st => ?_, fun k above => ?_⟩⟩
  · exact exec_of_event State.secondEnds rfl powered rfl (rested.congr rfl rfl)
  · rw [← clampClock_eq]
    refine (exec_changed (.setClock v) (doneOr (clampEntry 0 v (clampClock v)) .empty) h rfl (h.toRested.congr rfl rfl)
      h.taken).trans ?_
    rw [clampEntry_clock]
    split <;> rfl
  · refine (exec_setStation h filter tenure).trans ?_
    rw [doneOr_eq]
    cases filter <;> cases tenure <;> rfl
  · refine exec_unchanged (.setStation k filter tenure) _ h ?_
    simp only [State.serve, State.setStation, stationOf_above above]
    rfl

end Sys2Proof.Machine
end

section
/-!
PROOFS. Discovery, heartbeats, the chamber sensor and threading (R65 to R67, R69, R71, R83), at a station without work.
-/

-- One proof after another, as in the model's tests: each thread's stack counts against the memory limit.
set_option Elab.async false

namespace Sys2Proof.Machine

variable {s t : State} {i : Nat} {r : Reel} {st : StationId}

/-! ### What has nothing to do -/

theorem State.updOrder_same (s : State) (m : WorkOrder → WorkOrder) (h : m (s.order st) = s.order st) :
    s.updOrder st m = s := by
  have same : s.orders.set st (s.order st) = s.orders := by simp [State.order]
  unfold State.updOrder
  rw [show m s.orders[st] = s.order st from h, same]

/-- Only an ACTIVE work order is paused (R115). -/
theorem State.pauseOrder_idle (s : State) (h : (s.order st).state ≠ .active) : s.pauseOrder st = s :=
  s.updOrder_same _ (if_neg h)

/-- Only a DRAINING work order acts when nothing more is captured (R109, R112). -/
theorem State.afterCapture_idle (s : State) (h : (s.order st).state ≠ .draining) : s.afterCapture st = s :=
  if_neg fun k => h k.1

theorem State.abandon_idle (s : State) (h : (s.station st).inFlight = none) : s.abandon st = s := by
  simp [State.abandon, h]

theorem State.hasOrder_closed (s : State) (h : (s.order st).state = .closed) : s.hasOrder st = false := by
  simp [State.hasOrder, h]

/-- A station without a work order has none to abort (R114). -/
theorem State.abortOrder_closed (s : State) (quiet : Bool) (h : (s.order st).state = .closed) : s.abortOrder st quiet = s := by
  simp [State.abortOrder, s.hasOrder_closed h]

theorem State.withdrawMarks_unmarked (s : State) (h : ∀ l, (s.lane l).unmark = s.lane l) : s.withdrawMarks = s := by
  have a : s.lanes.laneA.unmark = s.lanes.laneA := h .a
  have b : s.lanes.laneB.unmark = s.lanes.laneB := h .b
  unfold State.withdrawMarks
  split
  · rw [a, b]
  · rfl

/-- A station that holds no lane, where no station waits, has none to leave (R96). -/
theorem State.leaveLanes_laneless (s : State) (lane : s.laneOf st = none) (list : s.lanes.waitList = []) :
    s.leaveLanes st = s.withdrawMarks := by
  have left : s.leaveWaitList st = s.withdrawMarks := by
    unfold State.leaveWaitList
    rw [list, List.filter_nil, ← list]
  have none' : s.withdrawMarks.laneOf st = none := ((SameHolders.withdrawMarks s).laneOf st).trans lane
  unfold State.leaveLanes
  simp only [left, none']

/-- A station without work: no lane, no work order, and no station waits for a lane, so that no release is marked (R88, R93,
R101). -/
structure Workless (s : State) (st : StationId) : Prop where
  lane : s.laneOf st = none
  list : s.lanes.waitList = []
  unmarked : ∀ l, (s.lane l).unmark = s.lane l
  closed : (s.order st).state = .closed

theorem Workless.congr (h : Workless s st) (lanes : t.lanes = s.lanes) (orders : t.orders = s.orders) : Workless t st where
  lane := ((SameHolders.of_lanes lanes).laneOf st).trans h.lane
  list := by rw [lanes, h.list]
  unmarked l := by
    have same : t.lane l = s.lane l := by cases l <;> simp only [State.lane, lanes]
    rw [same]
    exact h.unmarked l
  closed := by
    unfold State.order
    rw [orders]
    exact h.closed

theorem Workless.leaveLanes (h : Workless s st) : s.leaveLanes st = s := by
  rw [s.leaveLanes_laneless h.lane h.list, s.withdrawMarks_unmarked h.unmarked]

theorem Workless.pauseOrder (h : Workless s st) : s.pauseOrder st = s := s.pauseOrder_idle (by rw [h.closed]; nofun)

theorem Workless.afterCapture (h : Workless s st) : s.afterCapture st = s := s.afterCapture_idle (by rw [h.closed]; nofun)

/-! ### One station's record -/

/-- A station that is not RUNNING does not run at speed (R73). -/
theorem Station.still_of_state {x : Station} {y : StationState} (h : x.state = y) (other : y ≠ .running := by nofun) :
    x.runsAtSpeed = false := by
  simp [Station.runsAtSpeed, h, other]

/-- A change of a station that is not RUNNING is written as it stands (R73). -/
theorem State.updStation_still (s : State) (m : Station → Station) {y : StationState} (h : (s.station st).state = y)
    (other : y ≠ .running := by nofun) : s.updStation st m = s.putStation st (m (s.station st)) :=
  s.updStation_eq_putStation st m (.inl (Station.still_of_state h other))

/-- A change that leaves the record is none. -/
theorem State.updStation_same (s : State) (m : Station → Station) (h : m (s.station st) = s.station st) :
    s.updStation st m = s := by
  rw [s.updStation_sameSpeed st m (by rw [h]), h, State.putStation_station]

/-- Rediscovery and the resets leave where the reel in a chamber is: only its custody changes. -/
theorem State.reelIn_setCustody (s : State) (e : s.reel? i = some r) (c : Custody) (u : StationId) :
    (s.setReel i (some { r with custody := c })).reelIn u = s.reelIn u := by
  refine State.reelAt_of_locations (fun j => ?_) _
  rw [State.reel?_setReel]
  split
  · next h => rw [← h.1, e]; rfl
  · rfl

theorem State.reverifyIn_some (s : State) (inside : s.reelIn st = some i) (e : s.reel? i = some r) :
    s.reverifyIn st = s.setReel i (some { r with custody := .reverify }) := by
  simp only [State.reverifyIn, inside, State.setCustody, State.updReel, e]

theorem StationState.beats_iff (x : StationState) :
    x.beats = true ↔ x ≠ .detached ∧ x ≠ .discovering ∧ x ≠ .lost := by
  cases x <;> simp [StationState.beats]

/-! ### Discovery (R65, R66) -/

theorem State.discover_eq (s : State) {y : StationState} (h : (s.station st).state = y) (other : y ≠ .running := by nofun) :
    s.discover st = (s.toStation st .ident).putStation st
      { s.station st with state := .discovering, discovery := some 2000 } :=
  State.updStation_still (s.toStation st .ident) _ h other

theorem exec_attach (powered : s.powered = true) (rested : Rested s)
    (h : (s.station st).state = .detached ∨ (s.station st).state = .discovering ∨ (s.station st).state = .lost) :
    exec (.attach st) s = .next ((s.silent.toStation st .ident).putStation st
      { s.station st with state := .discovering, discovery := some 2000 }) := by
  refine exec_of_event (fun s => s.attached st) rfl powered ?_ (rested.congr rfl rfl)
  have same : s.silent.station st = s.station st := rfl
  rcases h with h | h | h <;>
    simp only [State.attached, same, h] <;> exact State.discover_eq s.silent h

/-- What an IDENT reply with no film found records, before STATION ATTACHED is raised (R66). -/
theorem State.identTaken_eq (s : State) (f : IdentFields) (h : (s.station st).state = .discovering) :
    s.identTaken st f =
      if f.canPresent then
        ((s.putStation st ((s.station st).identified f)).raise .stationAttached { station := some st }).foundCan st f.threaded
      else ((s.putStation st ((s.station st).identified f)).raise .stationAttached { station := some st }).foundEmpty st := by
  simp only [State.identTaken, h, ne_eq, not_true_eq_false, if_false, s.updStation_still (·.identified f) h]

theorem exec_identReply_empty (powered : s.powered = true) (rested : Rested s) (f : IdentFields)
    (h : (s.station st).state = .discovering) (gone : f.canPresent = false) (alone : s.reelIn st = none) :
    exec (.identReply st f) s = .next ((s.silent.putStation st
      { (s.station st).identified f with state := .empty }).raise .stationAttached { station := some st }) := by
  refine exec_of_event (fun s => s.identTaken st f) rfl powered ?_ rested.silent.putStation.raise
  have alone : ((s.silent.putStation st ((s.station st).identified f)).raise .stationAttached
    { station := some st }).reelIn st = none := alone
  have record : ((s.silent.putStation st ((s.station st).identified f)).raise .stationAttached
    { station := some st }).station st = (s.station st).identified f := State.station_putStation _ _ _
  have taken := State.identTaken_eq s.silent f h
  simp only [gone, Bool.false_eq_true, if_false, State.foundEmpty] at taken
  refine taken.trans ?_
  have same : s.silent.station st = s.station st := rfl
  rw [same, alone]
  have written := State.updStation_still _ (fun t => { t with state := .empty }) ((congrArg Station.state record).trans h)
  refine written.trans ?_
  rw [record]
  exact congrArg (·.raise .stationAttached { station := some st }) (s.silent.putStation_putStation st _ _)

theorem exec_identReply_reel (powered : s.powered = true) (rested : Rested s) (f : IdentFields)
    (h : (s.station st).state = .discovering) (found : f.canPresent = true) (inside : s.reelIn st = some i)
    (e : s.reel? i = some r) : exec (.identReply st f) s = .next (((s.silent.putStation st
      { (s.station st).identified f with
        state := if f.threaded then .broken else .loaded, tagRead := none, markRead := none }).setReel i
          (some { r with custody := .reverify })).raise .stationAttached { station := some st }) := by
  refine exec_of_event (fun s => s.identTaken st f) rfl powered ?_ (Rested.raise (rested.judged e rfl rfl))
  have inside' : ((s.silent.putStation st ((s.station st).identified f)).raise .stationAttached
    { station := some st }).reelIn st = some i := inside
  have record : ((s.silent.putStation st ((s.station st).identified f)).raise .stationAttached
    { station := some st }).station st = (s.station st).identified f := State.station_putStation _ _ _
  have taken := State.identTaken_eq s.silent f h
  simp only [found, if_true, State.foundCan] at taken
  refine taken.trans ?_
  have same : s.silent.station st = s.station st := rfl
  simp only [same, inside', Option.isSome_some, if_true, stateWithCan]
  rw [State.updStation_still _ _ ((congrArg Station.state record).trans h), record]
  refine (State.reverifyIn_some (i := i) (r := r) _ (by exact inside) (by exact e)).trans ?_
  exact congrArg (fun u : State => (u.setReel i (some { r with custody := .reverify })).raise .stationAttached
    { station := some st }) (s.silent.putStation_putStation st _ _)

/-! ### Heartbeats (R67) -/

theorem exec_heartbeat (powered : s.powered = true) (rested : Rested s) (beats : (s.station st).state.beats = true) :
    exec (.heartbeat st) s = .next (s.silent.putStation st { s.station st with heartbeat := some 500 }) := by
  refine exec_of_event (fun s => s.heartbeatTaken st) rfl powered ?_ rested.silent.putStation
  have taken : (if (s.silent.station st).state.beats then
      { s.silent.station st with heartbeat := some Config.heartbeatMs } else s.silent.station st)
      = { s.station st with heartbeat := some 500 } := if_pos beats
  refine (State.updStation_sameSpeed s.silent st _ ?_).trans ?_
  · rw [taken]
    rfl
  · rw [taken]

/-- The heartbeat timer runs out where it does not run, or runs for nothing: the expiry is ignored (R67). -/
theorem exec_heartbeatTimerExpiry_idle (powered : s.powered = true) (rested : Rested s)
    (h : ¬ ((s.station st).state.beats = true ∧ (s.station st).heartbeat.isSome = true)) :
    exec (.heartbeatTimerExpiry st) s = .next s.silent :=
  exec_of_event (fun s => s.heartbeatExpired st) rfl powered (if_neg h) rested.silent

theorem exec_heartbeatTimerExpiry (powered : s.powered = true) (e : s.silent.heartbeatFailed st = t) (rested : Rested t)
    (beats : (s.station st).state.beats = true) (runs : (s.station st).heartbeat ≠ none) :
    exec (.heartbeatTimerExpiry st) s = .next t :=
  exec_of_event (fun s => s.heartbeatExpired st) rfl powered
    ((if_pos ⟨beats, Option.isSome_iff_ne_none.mpr runs⟩).trans e) rested

/-- The heartbeat of a station without work fails: the station becomes LOST (R67). -/
theorem Workless.heartbeatFailed (h : Workless s st) (idle : (s.station st).inFlight = none)
    (seized : (s.station st).state ≠ .seized) (film : (s.station st).state ≠ .loopback) :
    s.heartbeatFailed st = (s.putStation st (s.station st).lost).raiseLost st := by
  have written : s.updStation st (·.lost) = s.putStation st (s.station st).lost := s.updStation_cleared st (·.lost) rfl
  have flight : (((s.putStation st (s.station st).lost).raiseLost st).station st).inFlight = none :=
    (congrArg Station.inFlight (s.station_putStation st _)).trans idle
  have work : Workless ((s.putStation st (s.station st).lost).raiseLost st) st := h.congr rfl rfl
  unfold State.heartbeatFailed
  split
  · exact absurd ‹_› seized
  · exact absurd ‹_› film
  · rw [written, State.abandon_idle _ flight, work.leaveLanes, work.pauseOrder, work.afterCapture]

/-- Settles O34: each report and expiry by the state it finds the station in. -/
theorem discoveryAndHeartbeats : Obligations.DiscoveryAndHeartbeats := by
  unfold Obligations.DiscoveryAndHeartbeats
  refine ⟨fun s st powered rested => ⟨exec_attach powered rested, fun seized => ?_, fun waits runs => ?_, fun other f => ?_,
    fun f waits gone alone => exec_identReply_empty powered rested f waits gone alone |>.trans ?_,
    fun f i r waits found inside e => exec_identReply_reel powered rested f waits found inside e |>.trans ?_⟩,
    fun s st powered rested => ?_⟩
  · refine exec_of_event (fun s => s.attached st) rfl powered ?_ rested.silent
    have seized : (s.silent.station st).state = .seized := seized
    simp only [State.attached, seized]
  · refine exec_of_event (fun s => s.discoveryExpired st) rfl powered ?_ rested.silent.putStation
    refine (State.updStation_still s.silent _ waits).trans ?_
    exact congrArg (s.silent.putStation st) (if_pos ⟨waits, Option.isSome_iff_ne_none.mpr runs⟩)
  · exact exec_of_event (fun s => s.identTaken st f) rfl powered (if_pos other) rested.silent
  · rw [Station.identified, gone]
    rfl
  · rw [Station.identified, found]
    rfl
  · dsimp only
    rw [← StationState.beats_iff]
    refine ⟨exec_heartbeat powered rested, fun silent => ⟨?_, ?_⟩, fun idle => ?_, fun seized runs => ?_,
      fun beats seized film runs idle lane list unmarked closed => ?_⟩
    · refine exec_of_event (fun s => s.heartbeatTaken st) rfl powered ?_ rested.silent
      exact State.updStation_same s.silent _ (if_neg silent)
    · exact exec_heartbeatTimerExpiry_idle powered rested fun k => silent k.1
    · exact exec_heartbeatTimerExpiry_idle powered rested fun k => by simp [idle] at k
    · refine exec_heartbeatTimerExpiry powered ?_ rested.silent.putStation (by rw [seized]; rfl) runs
      have seized' : (s.silent.station st).state = .seized := seized
      simp only [State.heartbeatFailed, seized']
      exact State.updStation_still s.silent _ seized
    · have work : Workless s.silent st := ⟨lane, list, fun l => (unmarked l).symm, closed⟩
      exact exec_heartbeatTimerExpiry powered (work.heartbeatFailed idle seized film)
        (Rested.raise rested.silent.putStation) beats runs

end Sys2Proof.Machine
end

section
/-!
PROOFS. The chamber sensor and the film in the path (R69, R71, R83).
-/

-- One proof after another, as in the model's tests: each thread's stack counts against the memory limit.
set_option Elab.async false

namespace Sys2Proof.Machine

variable {s t : State} {i : Nat} {r : Reel} {st : StationId}

/-! ### The chamber sensor (R69) -/

theorem State.canSensed_deaf (s : State) (present : Bool) (h : ¬ (s.station st).state.beats = true) :
    s.canSensed st present = s := if_pos (by simpa using h)

theorem State.canSensed_present (s : State) (beats : (s.station st).state.beats = true) :
    s.canSensed st true = s.putStation st { s.station st with
      sensor := .present, tagRead := none, markRead := none
      state := if (s.station st).state = .empty ∧ (s.station st).reservation = .none then .loaded else (s.station st).state } := by
  refine (if_neg (by simp [beats])).trans ((if_pos rfl).trans ?_)
  refine s.updStation_sameSpeed st _ ?_
  unfold Station.runsAtSpeed
  dsimp only
  split
  · next h => rw [h.1]; rfl
  · rfl

/-- An absent can, at a station where it is missed or not (R69). -/
theorem State.canSensed_absent (s : State) (beats : (s.station st).state.beats = true) :
    s.canSensed st false = if (s.station st).state.holdsCan = true ∧ (s.station st).reservation = .none
      then (s.putStation st { s.station st with sensor := .absent }).canGone st
      else s.putStation st { s.station st with sensor := .absent } := by
  refine (if_neg (by simp [beats])).trans ((if_neg Bool.false_ne_true).trans ?_)
  rw [s.updStation_sameSpeed st (fun t => { t with sensor := .absent }) rfl]

/-- A station that does not run, holds no lane and has none waiting for one changes its record and leaves the lanes. -/
theorem State.updStation_leaveLanes (s : State) (m : Station → Station) {x : Station} (record : s.station st = x)
    (still : x.runsAtSpeed = false) (list : s.lanes.waitList = []) (lane : s.laneOf st = none) :
    (s.updStation st m).leaveLanes st = (s.putStation st (m x)).withdrawMarks := by
  subst record
  rw [s.updStation_eq_putStation st m (.inl still)]
  exact State.leaveLanes_laneless _ lane list

/-- A can gone from a LOADED station without a work order and without a lane: its reel is lost, the station is EMPTY (R69). -/
theorem State.canGone_laneless (s : State) (loaded : (s.station st).state = .loaded) (closed : (s.order st).state = .closed)
    (list : s.lanes.waitList = []) (lane : s.laneOf st = none) (inside : s.reelIn st = some i) (e : s.reel? i = some r) :
    s.canGone st = ((((s.toStation st .safe).setReel i (some { r with location := .unknown, custody := .none })).raise
      .locationUnknown { reel := some i }).putStation st { s.station st with
        state := .empty, motion := .stopped, threaded := false, profile := none, fallback := none
        stopPending := .none }).withdrawMarks := by
  have abort : (s.toStation st .safe).abortOrder st false = s.toStation st .safe := State.abortOrder_closed _ false closed
  have inside' : (s.toStation st .safe).reelIn st = some i := inside
  have lost : (s.toStation st .safe).loseReel i
      = ((s.toStation st .safe).setReel i (some { r with location := .unknown, custody := .none })).raise .locationUnknown
        { reel := some i } := by
    have e' : (s.toStation st .safe).reel? i = some r := e
    simp only [State.loseReel, State.moveReel, State.updReel, e']
    rfl
  simp only [State.canGone, abort, inside', lost]
  exact State.updStation_leaveLanes _ _ (x := s.station st) rfl (Station.still_of_state loaded) list lane

/-! ### The film in the path (R71) -/

theorem State.custodyIn_some (s : State) (inside : s.reelIn st = some i) (e : s.reel? i = some r) :
    s.custodyIn st = some r.custody := by
  simp [State.custodyIn, inside, e]

/-- The film comes out where no preroll is under way, with a VERIFIED reel in the chamber (R71). -/
theorem State.filmOut_verified (s : State) (still : (s.station st).runsAtSpeed = false)
    (rests : (s.station st).motion ≠ .prerolling) (inside : s.reelIn st = some i) (e : s.reel? i = some r)
    (verified : r.custody = .verified) : s.filmOut st = (s.putStation st { s.station st with
      threaded := false, state := .loaded, motion := .stopped, tagRead := none, markRead := none }).setReel i
        (some { r with custody := .reverify }) := by
  have rests' : ((s.station st).motion == .prerolling) = false := by simpa using rests
  unfold State.filmOut
  simp only [rests', Bool.and_false, Bool.false_eq_true, if_false]
  rw [s.updStation_eq_putStation st _ (.inl still)]
  refine (if_pos ?_).trans ?_
  · exact (State.custodyIn_some (i := i) (r := r) _ (by exact inside) (by exact e)).trans (congrArg some verified)
  · exact State.reverifyIn_some _ inside e

theorem State.threadedTaken_loaded (s : State) (loaded : (s.station st).state = .loaded) (inside : s.reelIn st = some i)
    (e : s.reel? i = some r) : s.threadedTaken st = s.putStation st { s.station st with
      threaded := true, state := if r.custody = .verified then StationState.threaded else .loaded } := by
  unfold State.threadedTaken
  rw [s.updStation_still _ loaded, State.custodyIn_some s inside e]
  simp [loaded]

theorem State.threadedTaken_empty (s : State) (empty : (s.station st).state = .empty) :
    s.threadedTaken st = s.putStation st { s.station st with threaded := true } := by
  unfold State.threadedTaken
  rw [s.updStation_still _ empty]
  simp [empty]

theorem State.unthreadedTaken_loaded (s : State) (loaded : (s.station st).state = .loaded) :
    s.unthreadedTaken st = s.putStation st { s.station st with threaded := false } := by
  simp only [State.unthreadedTaken, loaded, s.updStation_still (fun t => { t with threaded := false }) loaded]

theorem State.rewoundTaken_rewinding (s : State) (rewinds : (s.station st).state = .rewinding) :
    s.rewoundTaken st = s.putStation st { s.station st with state := .threaded, motion := .stopped } := by
  unfold State.rewoundTaken
  rw [s.updStation_still _ rewinds, if_pos rewinds]

/-- UNTHREADED where the film ran or could run: it is out of the path (R71). -/
theorem State.unthreadedTaken_filmOut (s : State)
    (h : (s.station st).state = .threaded ∨ (s.station st).state = .broken ∨ (s.station st).state = .rewinding) :
    s.unthreadedTaken st = s.filmOut st := by
  rcases h with h | h | h <;> simp only [State.unthreadedTaken, h]

/-- Settles O35: each report by the state it finds the station in. -/
theorem theChamberSensorAndThreadingAreFollowed : Obligations.TheChamberSensorAndThreadingAreFollowed := by
  unfold Obligations.TheChamberSensorAndThreadingAreFollowed
  refine ⟨fun s st powered rested => ?_, fun s st powered rested => ?_⟩
  · dsimp only
    rw [← StationState.beats_iff]
    refine ⟨fun beats => ?_, fun deaf present => ?_, fun beats kept => ?_, fun i r loaded unreserved closed list lane inside e => ?_⟩
    · exact exec_of_event (fun s => s.canSensed st true) rfl powered (s.silent.canSensed_present beats) rested.silent.putStation
    · exact exec_of_event (fun s => s.canSensed st present) rfl powered (s.silent.canSensed_deaf present deaf) rested.silent
    · refine exec_of_event (fun s => s.canSensed st false) rfl powered ?_ rested.silent.putStation
      refine (s.silent.canSensed_absent beats).trans (if_neg ?_)
      rintro ⟨holds, free⟩
      have holds : (s.station st).state.holdsCan = true := holds
      rcases kept with h | h | h | h
      · exact h free
      all_goals rw [h] at holds; exact absurd holds (by decide)
    · have loaded' : (s.silent.station st).state = .loaded := loaded
      have record : (s.silent.putStation st { s.silent.station st with sensor := .absent }).station st
          = { s.station st with sensor := .absent } := State.station_putStation _ _ _
      have sensed : s.silent.canSensed st false
          = (s.silent.putStation st { s.silent.station st with sensor := .absent }).canGone st :=
        (s.silent.canSensed_absent (by rw [loaded']; rfl)).trans (if_pos ⟨by rw [loaded']; rfl, unreserved⟩)
      have gone := State.canGone_laneless (s.silent.putStation st { s.silent.station st with sensor := .absent })
        ((congrArg Station.state record).trans loaded) closed list lane inside e
      rw [record] at gone
      obtain ⟨lanes, left⟩ := State.withdrawMarks_eq ((((((s.silent.putStation st
        { s.silent.station st with sensor := .absent }).toStation st .safe).setReel i
          (some { r with location := .unknown, custody := .none })).raise .locationUnknown { reel := some i }).putStation st
            { s.station st with
              sensor := .absent, state := .empty, motion := .stopped, threaded := false, profile := none, fallback := none
              stopPending := .none }))
      refine ⟨_, exec_of_event (fun s => s.canSensed st false) rfl powered ((sensed.trans gone).trans left) ?_,
        State.station_putStation _ _ _, State.reel?_setReel_self s e _, ?_, fun j other => ?_, rfl, rfl, rfl⟩
      · exact (Rested.setReel rested (q := { r with location := .unknown, custody := .none }) e nofun).congr rfl rfl
      · exact (State.flag_raise _ .locationUnknown .locationUnknown { reel := some i }).trans (by simp)
      · exact (State.reel?_setReel s i j _).trans (if_neg fun k => other k.1.symm)
  · dsimp only
    refine ⟨fun rewinds => ?_, fun other => ?_, fun empty => ?_, fun loaded => ?_, fun i r inside e => ⟨fun loaded => ?_, fun runs rests verified => ?_⟩⟩
    · exact exec_of_event (fun s => s.rewoundTaken st) rfl powered (s.silent.rewoundTaken_rewinding rewinds)
        rested.silent.putStation
    · exact exec_of_event (fun s => s.rewoundTaken st) rfl powered (s.silent.updStation_same _ (if_neg other)) rested.silent
    · exact exec_of_event (fun s => s.threadedTaken st) rfl powered (s.silent.threadedTaken_empty empty) rested.silent.putStation
    · exact exec_of_event (fun s => s.unthreadedTaken st) rfl powered (s.silent.unthreadedTaken_loaded loaded)
        rested.silent.putStation
    · exact exec_of_event (fun s => s.threadedTaken st) rfl powered (s.silent.threadedTaken_loaded loaded inside e)
        rested.silent.putStation
    · refine exec_of_event (fun s => s.unthreadedTaken st) rfl powered ?_ (rested.judged e rfl rfl)
      refine (s.silent.unthreadedTaken_filmOut runs).trans (s.silent.filmOut_verified ?_ rests inside e verified)
      rcases runs with h | h | h <;> exact Station.still_of_state h

end Sys2Proof.Machine
end

section
/-!
PROOFS. Lanes given up (R94, R96), and STATION RESET (R60, R86).
-/

-- One proof after another, as in the model's tests: each thread's stack counts against the memory limit.
set_option Elab.async false

namespace Sys2Proof.Machine

variable {s t : State} {i : Nat} {r : Reel} {st : StationId} {l m : LaneId}

/-! ### Lanes given up -/

theorem State.heldBy_of_laneOf (s : State) (h : s.laneOf st = some l) : (s.lane l).heldBy st = true := by
  unfold State.laneOf at h
  split at h
  · next a => obtain rfl := Option.some.inj h; exact a
  · split at h
    · next b => obtain rfl := Option.some.inj h; exact b
    · cases h

/-- No station holds two lanes: one that holds a lane does not hold the other. -/
theorem LanesExclusive.heldBy_other (e : LanesExclusive s) (h : s.laneOf st = some l) (other : m ≠ l) :
    (s.lane m).heldBy st = false := by
  have held := s.heldBy_of_laneOf h
  have both := e.holders st
  rw [Bool.eq_false_iff]
  intro k
  cases l with
  | a =>
    cases m with
    | a => exact other rfl
    | b => exact both ⟨held, k⟩
  | b =>
    cases m with
    | a => exact both ⟨k, held⟩
    | b => exact other rfl

/-- A station whose lane becomes FREE holds no lane (R94). -/
theorem LanesExclusive.laneOf_freed (e : LanesExclusive s) (h : s.laneOf st = some l) :
    (s.setLane l .free).laneOf st = none := by
  rw [State.laneOf_none]
  intro m
  rw [State.lane_setLane]
  split
  · rfl
  · next other => exact e.heldBy_other h other

theorem State.setLane_eq (s : State) (l : LaneId) (v : Lane) : s.setLane l v = { s with lanes := (s.setLane l v).lanes } := by
  cases l <;> rfl

theorem State.releaseLane_listless (s : State) (l : LaneId) (list : s.lanes.waitList = []) :
    s.releaseLane l = s.setLane l .free := by
  have list' : (s.setLane l .free).lanes.waitList = [] := (s.setLane_waitList l .free).trans list
  unfold State.releaseLane State.grantLanes
  rw [State.grantLane_idle _ (.inr list'), State.grantLane_idle _ (.inr list')]

theorem State.withdrawMarks_source (s : State) : s.withdrawMarks.lanes.source = s.lanes.source := by
  unfold State.withdrawMarks
  split <;> rfl

theorem State.leaveWaitList_listless (s : State) (list : s.lanes.waitList = []) : s.leaveWaitList st = s.withdrawMarks := by
  unfold State.leaveWaitList
  rw [list, List.filter_nil, ← list]

/-- Where no station waits, a station that gives up its lane changes the lanes alone, and holds none (R96). -/
theorem LanesExclusive.leaveLanes_listless (e : LanesExclusive s) (list : s.lanes.waitList = []) :
    ∃ lanes : Crosspoint, s.leaveLanes st = { s with lanes := lanes } ∧ lanes.waitList = [] ∧ lanes.source = s.lanes.source
      ∧ ({ s with lanes := lanes } : State).laneOf st = none := by
  have same := SameHolders.withdrawMarks s
  have list' : s.withdrawMarks.lanes.waitList = [] := same.waitList.trans list
  obtain ⟨lanes, unmarked⟩ := s.withdrawMarks_eq
  unfold State.leaveLanes
  simp only [s.leaveWaitList_listless list]
  cases h : s.withdrawMarks.laneOf st with
  | none =>
    rw [unmarked] at h list' ⊢
    exact ⟨lanes, rfl, list', by rw [← s.withdrawMarks_source, unmarked], h⟩
  | some l =>
    have freed := (e.congr same).laneOf_freed h
    have eq := State.setLane_eq s.withdrawMarks l .free
    dsimp only
    rw [State.releaseLane_listless _ l list']
    refine ⟨(s.withdrawMarks.setLane l .free).lanes, ?_, ?_, ?_, ?_⟩
    · rw [eq, unmarked]
    · rw [State.setLane_waitList, list']
    · rw [State.setLane_source, s.withdrawMarks_source]
    · rw [eq, unmarked] at freed
      rwa [unmarked]

/-! ### STATION RESET -/

theorem Station.afterReset_filter (x : Station) : x.afterReset.filter = .clear := rfl

/-- Rediscovery of a station in whose chamber a registered reel is recorded (R86). -/
theorem State.rediscover_reel (s : State) (inside : s.reelIn st = some i) (e : s.reel? i = some r) :
    s.rediscover st = ((((s.toStation st .stationClear).toStation st .ident).putStation st
      (s.station st).afterReset).freeSource st).setReel i (some { r with custody := .reverify }) := by
  unfold State.rediscover
  rw [State.updStation_cleared _ st (·.afterReset) (Station.afterReset_filter _)]
  exact State.reverifyIn_some _ inside e

theorem State.freeSource_assigned (s : State) : (s.freeSource st).lanes.source.assigned ≠ some st := by
  unfold State.freeSource State.updSource
  dsimp only
  split
  · exact nofun
  · assumption

/-- Settles O31: the lanes are given up first, then the station is rediscovered. -/
theorem stationResetRediscovers : Obligations.StationResetRediscovers := by
  unfold Obligations.StationResetRediscovers
  intro s n st i r free idle exclusive list closed inside e
  obtain ⟨lanes, left, list', -, lane⟩ :=
    LanesExclusive.leaveLanes_listless (s := s.silent) (st := st) (LanesExclusive.congr (s := s) (.of_lanes rfl) exclusive) list
  have found := State.rediscover_reel { s.silent with lanes := lanes } (st := st) inside e
  have serve : s.silent.serve (.stationReset st.val) = (((((({ s.silent with lanes := lanes } : State).toStation st
      .stationClear).toStation st .ident).putStation st (s.station st).afterReset).freeSource st).setReel i
        (some { r with custody := .reverify }), .done .empty) := by
    have own : s.silent.serve (.stationReset st.val) = s.silent.stationReset st.val := rfl
    rw [own]
    unfold State.stationReset
    rw [stationOf_val]
    simp only [State.abortOrder_closed s.silent false closed, left]
    rw [found]
    rfl
  obtain ⟨u, run, after⟩ := exec_followed (n := n) _ _ free serve (idle.congr rfl) free.quiet
  refine ⟨u, run, ?_, ?_, fun j other => ?_, ?_, ?_, ?_, ?_, ?_, after.work.engine, after.work.delivery,
    ?_, ?_, after.replied⟩
  · rw [State.station, after.work.stations]
    exact (State.station_putStation s st _).trans (Station.afterReset_eq _)
  · rw [State.reel?_congr after.retained]
    exact State.reel?_setReel_self s e _
  · rw [State.reel?_congr after.retained]
    exact (State.reel?_setReel s i j _).trans (if_neg fun k => other k.1.symm)
  · rw [(SameHolders.of_lanes after.work.lanes).laneOf]
    exact lane
  · rw [after.work.lanes]
    exact list' ▸ List.not_mem_nil
  · rw [after.work.lanes]
    exact State.freeSource_assigned _
  · rw [State.order, after.work.orders]
    rfl
  · refine SameStacks.trans ?_ after.stk
    exact SameStacks.of_eq rfl
  · rw [after.sent]
    exact List.mem_cons_self
  · rw [after.sent]
    exact List.mem_cons_of_mem _ List.mem_cons_self

end Sys2Proof.Machine
end

section
/-!
PROOFS. The pattern source and the captures it feeds (R80, R87, R99).
-/

-- One proof after another, as in the model's tests: each thread's stack counts against the memory limit.
set_option Elab.async false

namespace Sys2Proof.Machine

variable {s t : State} {i k : Nat} {r : Reel} {st : StationId} {l m : LaneId} {b : OrderBody} {f : Nat}

/-! ### Captures of the pattern -/

theorem State.openBody_of_open (s : State) (h : (s.order st).state ≠ .closed) : s.openBody? st = (s.order st).body :=
  if_pos (s.hasOrder_of_open h)

/-- Between two captures the target is next-capture (R79). -/
theorem State.target_next (s : State) (idle : (s.station st).inFlight = none) (opened : s.openBody? st = some b)
    (left : b.nextCapture ≤ b.last) : s.target st = some b.nextCapture := by
  simp only [State.target, opened, idle, if_pos left]

/-- A loopback work order begins no pass (R110). -/
theorem State.beginPassIfFirst_loopback (s : State) (opened : s.openBody? st = some b) (reel : b.reel = none) :
    s.beginPassIfFirst st = s := by
  simp [State.beginPassIfFirst, opened, reel]

theorem State.carrying_openBody (s : State) (f : Nat) (l : LaneId) (k : Nat) :
    (s.carrying st f l k).openBody? st = s.openBody? st := by
  obtain ⟨orders, -⟩ := s.carrying_frame st f l k
  have same : (s.carrying st f l k).order st = s.order st := congrArg (·[st]) orders
  unfold State.openBody? State.hasOrder
  rw [same]

theorem State.beginCapture_loopback (s : State) (f : Nat) (lane : s.laneOf st = some l) (slot : s.freeSlot = some k)
    (opened : s.openBody? st = some b) (reel : b.reel = none) : s.beginCapture st f = s.carrying st f l k := by
  rw [s.beginCapture_eq f lane slot]
  exact State.beginPassIfFirst_loopback _ ((s.carrying_openBody f l k).trans opened) reel

theorem State.carrying_crosspoint (s : State) (f : Nat) (l : LaneId) (k : Nat) :
    (s.carrying st f l k).lanes =
      (s.setLane l { s.lane l with carriage := some { station := st, frame := f, slot := k } }).lanes := by
  have same : ∀ g, (s.updSlot k g).lanes = s.lanes := fun g => by simp
  cases l <;> simp only [State.carrying, State.updStation_lanes, State.setLane, same]

/-! ### The pattern source (R87) -/

/-- The pattern source with a frame on offer (R87). -/
def State.fed (s : State) : State := s.updSource (fun p => { p with state := .feeding, intervalOver := false })

theorem State.offerFrame_captures (s : State) (target : s.target st = some f) (can : s.canCapture st = true) :
    s.offerFrame st = s.fed.beginCapture st f := by
  simp only [State.offerFrame, target, can, if_true]
  rfl

/-- The next frame is offered to a station whose lane carries nothing while a slot is FREE: its capture begins (R87). -/
theorem State.offerFrame_carries (s : State) (target : s.target st = some f) (lane : s.laneOf st = some l)
    (free : (s.lane l).carriage = none) (slot : s.freeSlot = some k) (opened : s.openBody? st = some b)
    (reel : b.reel = none) : s.offerFrame st = s.fed.carrying st f l k := by
  have can : s.canCapture st = true := by rw [s.canCapture_eq lane, free, slot]; rfl
  rw [s.offerFrame_captures target can]
  exact State.beginCapture_loopback _ f lane slot opened reel

theorem Rested.carrying (h : Rested s) : Rested (s.carrying st f l k) := by
  obtain ⟨-, retained, -, -, stk⟩ := s.carrying_frame st f l k
  exact h.congr retained stk

theorem State.intervalEnds_idle (s : State) (h : s.lanes.source.state = .idle) : s.intervalEnds = s := by
  unfold State.intervalEnds
  split
  · rfl
  · exact if_pos h

/-- The end of the frame interval at a source that feeds or waits (R87). -/
theorem State.intervalEnds_assigned (s : State) (assigned : s.lanes.source.assigned = some st)
    (busy : s.lanes.source.state ≠ .idle) : s.intervalEnds =
      if (s.updSource (fun p => { p with intervalOver := true })).mayFeed st = true ∧ s.lanes.source.state = .feeding
        ∧ (s.station st).inFlight = none
      then (s.updSource (fun p => { p with intervalOver := true })).offerFrame st
      else s.updSource (fun p => { p with intervalOver := true }) := by
  simp only [State.intervalEnds, assigned, if_neg busy]
  rfl

theorem State.mayFeed_iff (s : State) (st : StationId) : s.mayFeed st = true ↔ (s.station st).state = .loopback
    ∧ s.lanes.source.assigned = some st ∧ (s.order st).state = .active ∧ (s.station st).stopPending = .none := by
  simp [State.mayFeed, and_assoc]

theorem State.fed_carrying_station (s : State) (f : Nat) (l : LaneId) (k : Nat) :
    (s.fed.carrying st f l k).station st = { s.station st with inFlight := some f } :=
  s.fed.carrying_station st f l k

theorem State.fed_carrying_source (s : State) (f : Nat) (l : LaneId) (k : Nat) :
    (s.fed.carrying st f l k).lanes.source = { s.lanes.source with state := .feeding, intervalOver := false } := by
  rw [State.carrying_crosspoint, State.setLane_source]
  rfl

theorem State.fed_carrying_lane (s : State) (f : Nat) (l : LaneId) (k : Nat) :
    (s.fed.carrying st f l k).lane l = { s.lane l with carriage := some { station := st, frame := f, slot := k } } := by
  have crosspoint := s.fed.carrying_crosspoint (st := st) f l k
  cases l <;> simp only [State.lane, crosspoint] <;> rfl

theorem State.carrying_store (s : State) (f : Nat) (l : LaneId) (k : Nat) : (s.carrying st f l k).store =
    (s.updSlot k (·.beginning st f (((s.openBody? st).map (fun b => b.reel.isNone)).getD false))).store := by
  unfold State.carrying
  simp

/-- The slot of a loopback capture is FILLING with its frame, a TEST frame (R87, R119). -/
theorem State.fed_carrying_slot (s : State) (f : Nat) (l : LaneId) (slot : s.freeSlot = some k)
    (opened : s.openBody? st = some b) (reel : b.reel = none) :
    ∃ y : Slot, (s.fed.carrying st f l k).slot? k = some (y.beginning st f true) := by
  obtain ⟨y, e⟩ := s.slot?_freeSlot slot
  have opened' : s.fed.openBody? st = some b := opened
  refine ⟨y, ?_⟩
  simp only [State.slot?, State.carrying_store, opened', Option.map_some, reel, Option.isNone_none, Option.getD_some]
  exact (s.fed.slot?_updSlot k k _).trans (by rw [if_pos rfl, show s.fed.slot? k = some y from e]; rfl)

theorem State.fed_carrying_otherSlots (s : State) (f : Nat) (l : LaneId) {j : Nat} (other : j ≠ k) :
    (s.fed.carrying st f l k).slot? j = s.slot? j := by
  simp only [State.slot?, State.carrying_store]
  exact (s.fed.slot?_updSlot k j _).trans (if_neg other.symm)

/-! ### LOOPBACK ON and LOOPBACK OFF (R87, R99) -/

theorem State.loopbackAllowed_iff (s : State) (st : StationId) : s.loopbackAllowed st = true ↔
    (s.station st).state = .empty ∧ (s.station st).reservation = .none ∧ (s.station st).sensor ≠ .present
      ∧ (s.order st).state = .closed ∧ s.lanes.source.assigned = none := by
  simp [State.loopbackAllowed, State.hasOrder, and_assoc]

theorem State.loopbackOn_eq (s : State) (st : StationId) (h : s.loopbackAllowed st = true) :
    s.loopbackOn st.val = (((s.toStation st .safe).putStation st { s.station st with state := .loopback }).updSource
      (fun _ => { assigned := some st, state := .idle, intervalOver := false })).doneEmpty := by
  have empty : ((s.toStation st .safe).station st).state = .empty := ((s.loopbackAllowed_iff st).mp h).1
  simp only [State.loopbackOn, stationOf_val, h, Bool.true_eq_false, if_false,
    State.updStation_still (s.toStation st .safe) (fun t => { t with state := .loopback }) empty]
  rfl

theorem State.loopbackOff_eq (s : State) (st : StationId) (on : (s.station st).state = .loopback)
    (closed : (s.order st).state = .closed) (assigned : s.lanes.source.assigned = some st) :
    s.loopbackOff st.val = ((s.putStation st { s.station st with
      state := if (s.station st).sensor = .present then StationState.loaded else .empty }).updSource
        (fun _ => { assigned := none, state := .idle, intervalOver := false })).doneEmpty := by
  have free : s.freeSource st = s.updSource (fun _ => { assigned := none, state := .idle, intervalOver := false }) := by
    simp only [State.freeSource, State.updSource, assigned, if_true]
    rfl
  simp only [State.loopbackOff, stationOf_val, on, s.hasOrder_closed closed, free]
  rw [if_neg (by simp)]
  exact congrArg State.doneEmpty (State.updStation_still (s.updSource
    (fun _ => { assigned := none, state := .idle, intervalOver := false })) _ on)

/-- Settles O32: LOOPBACK ON and OFF by their conditions, the interval by the state of the source. -/
theorem loopbackRunsThePatternSource : Obligations.LoopbackRunsThePatternSource := by
  unfold Obligations.LoopbackRunsThePatternSource
  refine ⟨fun s n st calm => ?_, fun s st powered rested => ⟨fun idle => ?_, fun assigned feeds flight => ?_, ?_⟩⟩
  · dsimp only
    rw [← State.loopbackAllowed_iff]
    refine ⟨fun may => ?_, fun may => ?_, fun on closed assigned => ?_, fun off => ?_⟩
    · exact exec_changed (.loopbackOn st.val) _ calm (s.silent.loopbackOn_eq st may)
        (Rested.congr calm.toRested rfl rfl) calm.taken
    · refine exec_unchanged (.loopbackOn st.val) _ calm ?_
      have not' : s.silent.loopbackAllowed st = false := Bool.eq_false_iff.mpr may
      have own : s.silent.serve (.loopbackOn st.val) = s.silent.loopbackOn st.val := rfl
      rw [own, State.loopbackOn, stationOf_val]
      exact if_pos not'
    · exact exec_changed (.loopbackOff st.val) _ calm (s.silent.loopbackOff_eq st on closed assigned)
        (Rested.congr calm.toRested rfl rfl) calm.taken
    · refine exec_unchanged (.loopbackOff st.val) _ calm ?_
      have own : s.silent.serve (.loopbackOff st.val) = s.silent.loopbackOff st.val := rfl
      rw [own, State.loopbackOff, stationOf_val]
      exact if_pos (off.imp id fun h => s.hasOrder_of_open h)
  · exact exec_of_event State.intervalEnds rfl powered (s.silent.intervalEnds_idle idle) rested.silent
  · refine exec_of_event State.intervalEnds rfl powered ?_ (rested.congr rfl rfl)
    exact (s.silent.intervalEnds_assigned assigned (by rw [show s.silent.lanes.source.state = .feeding from feeds]; nofun)).trans
      (if_neg fun h => flight h.2.2)
  · intro l k b assigned feeds on going idle active body reel left lane free slot
    have opened : s.openBody? st = some b := (s.openBody_of_open (by rw [active]; nofun)).trans body
    have may : (s.silent.updSource (fun p => { p with intervalOver := true })).mayFeed st = true :=
      (State.mayFeed_iff _ st).mpr ⟨on, assigned, active, going⟩
    have ends := s.silent.intervalEnds_assigned assigned (by rw [show s.silent.lanes.source.state = .feeding from feeds]; nofun)
    rw [if_pos ⟨may, feeds, idle⟩] at ends
    have offered := State.offerFrame_carries (s.silent.updSource (fun p => { p with intervalOver := true })) (st := st)
      (State.target_next _ idle opened left) lane free slot opened reel
    obtain ⟨orders, retained, link, sent, -⟩ := State.carrying_frame
      (s.silent.updSource (fun p => { p with intervalOver := true })).fed st b.nextCapture l k
    refine ⟨_, exec_of_event State.intervalEnds rfl powered (ends.trans offered) ?_, ?_, ?_, ?_, ?_, fun j other => ?_,
      orders, retained, link, sent⟩
    · exact Rested.carrying (rested.congr rfl rfl)
    · rw [State.fed_carrying_source, ← assigned]
      rfl
    · rw [State.fed_carrying_lane]
    · rw [State.fed_carrying_station]
    · obtain ⟨y, e⟩ := State.fed_carrying_slot (s.silent.updSource (fun p => { p with intervalOver := true })) b.nextCapture l
        slot opened reel
      exact ⟨_, e, rfl, rfl, rfl, rfl⟩
    · rw [State.fed_carrying_otherSlots _ _ _ other]
      rfl

end Sys2Proof.Machine
end

section
/-!
PROOFS. START of a work order (R77 to R79, R87, R107, R169).
-/

-- One proof after another, as in the model's tests: each thread's stack counts against the memory limit.
set_option Elab.async false

namespace Sys2Proof.Machine

variable {s t : State} {i k g n : Nat} {r : Reel} {st : StationId} {l m : LaneId} {b : OrderBody} {p q : Profile}

/-! ### Replies -/

/-- A reply placed where none waits is the only one (R178). -/
theorem State.answered_repliedOnce (s : State) (q : Request) (n : RequestNumber) (b : ReplyBody)
    (quiet : s.link.outbound.filter (·.isReply) = []) : RepliedOnce (s.answered q n b) q n b := by
  unfold RepliedOnce State.answered
  dsimp only
  rw [List.filter_append, quiet]
  rfl

/-- An alert raised after others leaves the one reply as it is. -/
theorem Free.quiet_raise (h : Free s) (link : t.link = s.link) (f : AlertFlag) (names : Names) :
    (t.raise f names).link.outbound.filter (·.isReply) = [] := by
  rw [State.raise_replies, link, h.quiet]

/-! ### The deliverable item (R168, R169) -/

/-- The map of a work order reads the segments of its reel alone. -/
theorem State.mapOf_congr (b : OrderBody) (h : ∀ i, (t.reel? i).map (·.segments) = (s.reel? i).map (·.segments)) :
    t.mapOf b = s.mapOf b := by
  unfold State.mapOf
  cases b.reel with
  | none => rfl
  | some i => exact congrArg (·.getD []) (h i)

/-- What a work order offers depends on its record, the segments of the reels and the store (R168). -/
theorem State.item_congr (offers : (t.order st).state.offers = (s.order st).state.offers)
    (body : (t.order st).body = (s.order st).body)
    (maps : ∀ i, (t.reel? i).map (·.segments) = (s.reel? i).map (·.segments)) (store : t.store = s.store) :
    t.item st = s.item st := by
  have ready : ∀ f, t.readySlot st f = s.readySlot st f := fun f => by
    simp only [State.readySlot, State.slotOf, State.findSlot, State.slot?, store]
  simp only [State.item, offers, body, ready, fun b => State.mapOf_congr b maps]

/-- Where START has no delivery to test for, no delivery begins: the channel is SENDING, or no GAP frame is on offer (R169). -/
theorem State.arbiterAtStart_rests (s : State)
    (h : s.delivery.channel = .sending ∨ ∀ f, s.item st ≠ some (.black f)) : s.arbiterAtStart st = s := by
  rcases h with sending | noGap
  · unfold State.arbiterAtStart
    split
    · exact s.deliveryArbiter_of_sending sending
    · rfl
  · exact s.arbiterAtStart_of_noGap st noGap

/-! ### The work order -/

/-- One change of a work order's record after another. -/
theorem State.updOrder_updOrder (s : State) (f h : WorkOrder → WorkOrder) :
    (s.updOrder st f).updOrder st h = s.updOrder st (fun w => h (f w)) := by
  simp [State.updOrder]

theorem State.activate_order (s : State) : (s.activate st).order st = { s.order st with state := .active } :=
  (s.order_updOrder st st _).trans (if_pos rfl)

theorem OrderState.startable_iff (x : OrderState) : ¬ (x ≠ .open ∧ x ≠ .paused) ↔ x = .open ∨ x = .paused := by
  rw [not_and_or, not_not, not_not]

theorem State.start_reel (s : State) (body : (s.order st).body = some b)
    (startable : (s.order st).state = .open ∨ (s.order st).state = .paused) (reel : b.reel = some i) (e : s.reel? i = some r) :
    s.start st.val = if s.stationStarts st r = false then s.refuse .wrongState
      else if b.last < b.nextCapture then s.startEmpty st else s.startReel st r := by
  simp only [State.start, stationOf_val, body, if_neg ((OrderState.startable_iff _).mpr startable), reel, e]

theorem State.start_loopback (s : State) (body : (s.order st).body = some b)
    (startable : (s.order st).state = .open ∨ (s.order st).state = .paused) (reel : b.reel = none) :
    s.start st.val = if (s.station st).state ≠ .loopback then s.refuse .wrongState
      else if b.last < b.nextCapture then s.startEmpty st else s.startLoopback st := by
  simp only [State.start, stationOf_val, body, if_neg ((OrderState.startable_iff _).mpr startable), reel]

/-- A work order that is ACTIVE, DRAINING or CLOSED is not started (R107). -/
theorem State.start_refused (s : State)
    (h : (s.order st).state = .active ∨ (s.order st).state = .draining ∨ (s.order st).state = .closed) :
    s.start st.val = s.refuse .wrongState := by
  have other : (s.order st).state ≠ .open ∧ (s.order st).state ≠ .paused := by rcases h with h | h | h <;> simp [h]
  simp only [State.start, stationOf_val]
  cases (s.order st).body with
  | none => rfl
  | some b => exact if_pos other

theorem State.stationStarts_iff (s : State) (st : StationId) (r : Reel) : s.stationStarts st r = true ↔
    ((s.station st).state = .threaded ∨ (s.station st).state = .halted) ∧ r.custody = .verified
      ∧ ∃ c, (s.station st).capabilities = some c ∧ c.gauges.has r.gauge = true := by
  simp [State.stationStarts, Option.any_eq_true, and_assoc]

/-- The conditions of a refusal are those of a start, denied (R77). -/
theorem State.stationStarts_false (s : State) (h : r.custody ≠ .verified
      ∨ ((s.station st).state ≠ .threaded ∧ (s.station st).state ≠ .halted)
      ∨ ∀ c, (s.station st).capabilities = some c → c.gauges.has r.gauge = false) : s.stationStarts st r = false := by
  rw [Bool.eq_false_iff, Ne, State.stationStarts_iff]
  rintro ⟨film, verified, c, carries, gauge⟩
  rcases h with h | ⟨h, h'⟩ | h
  · exact h verified
  · exact film.elim h h'
  · rw [h c carries] at gauge
    cases gauge

/-! ### A pending fallback (R78) -/

theorem State.updReel_segments (s : State) (i j : Nat) (f : Reel → Reel) (h : ∀ r, (f r).segments = r.segments) :
    ((s.updReel i f).reel? j).map (·.segments) = (s.reel? j).map (·.segments) := by
  rw [State.reel?_updReel]
  split
  · next e =>
    subst e
    rw [Option.map_map]
    exact congrArg (fun m => Option.map m (s.reel? i)) (funext h)
  · rfl

/-- A fallback writes one station's record and the registry. -/
theorem State.lowered_eq (s : State) (still : (s.station st).runsAtSpeed = false) :
    s.lowered st p = { s.putStation st ((s.station st).fallen p) with retained := (s.lowered st p).retained } := by
  unfold State.lowered
  rw [s.updStation_eq_putStation st _ (.inl still)]
  cases s.reelIn st with
  | none => rfl
  | some i => exact State.updReel_eq _ _ _

theorem State.lowered_segments (s : State) (j : Nat) :
    ((s.lowered st p).reel? j).map (·.segments) = (s.reel? j).map (·.segments) := by
  unfold State.lowered
  cases s.reelIn st with
  | none => rfl
  | some i => exact State.updReel_segments _ i j _ fun _ => rfl

theorem Rested.lowered (h : Rested s) : Rested (s.lowered st p) := by
  have written : Rested (s.updStation st (·.fallen p)) := h.congr rfl rfl
  unfold State.lowered
  cases s.reelIn st with
  | none => exact written
  | some i => exact written.updReel (fun _ => rfl) (fun _ => rfl)

/-! ### START of a work order that names a reel (R77, R79) -/

/-- The effective profile becomes current and the station prerolls for frame `g` at it (R77, R79). -/
theorem State.profiled_preroll (s : State) (film : (s.station st).runsAtSpeed = false) (p : Profile)
    (opened : s.openBody? st = some b) (target : s.target st = some g) :
    (s.updStation st (fun t => { t with profile := some p, fallback := none })).preroll st
      = (s.toStation st (.preroll (countOfFrame (s.mapOf b) g) p)).putStation st
          { s.station st with profile := some p, fallback := none, motion := .prerolling, filter := .clear } := by
  rw [s.updStation_eq_putStation st _ (.inl film)]
  have target' : (s.putStation st { s.station st with profile := some p, fallback := none }).target st = some g :=
    (s.target_putStation (x := { s.station st with profile := some p, fallback := none }) rfl).trans target
  have record := s.station_putStation st { s.station st with profile := some p, fallback := none }
  rw [State.preroll_eq _ target' (b := b) opened (congrArg Station.profile record), record]
  exact (s.toStation st _).putStation_putStation st _ _

theorem State.mapOf_reel (s : State) (reel : b.reel = some i) (e : s.reel? i = some r) : s.mapOf b = r.segments := by
  simp [State.mapOf, reel, e]

/-- START that begins no delivery, at a station with a reel: the profile becomes current and the station prerolls. -/
theorem State.startReel_eq (s : State) (t : State) (e : (s.activate st).takeFallback st = t)
    (film : (t.station st).runsAtSpeed = false) (opened : t.openBody? st = some b) (target : t.target st = some g)
    (rests : t.delivery.channel = .sending ∨ ∀ f, t.item st ≠ some (.black f)) {c : Capabilities}
    (carries : (s.station st).capabilities = some c)
    (effective : effectiveProfile (s.order st).requested c.fastest (permittedProfile r.grade) (s.station st).profile
      (s.station st).fallback = p) :
    s.startReel st r = ((t.toStation st (.preroll (countOfFrame (t.mapOf b) g) p)).putStation st
        { t.station st with profile := some p, fallback := none, motion := .prerolling, filter := .clear },
      if p = (s.order st).requested then .done (.profileTaken p) else .doneClamped [] (.profileTaken p)) := by
  subst effective
  unfold State.startReel
  simp only [e, carries, Option.map_some, Option.getD_some, t.profiled_preroll film _ opened target]
  rw [State.arbiterAtStart_rests]
  exact rests

/-- Nothing is left to capture and delivery has not passed the range: the work order drains (R107, R112). -/
theorem State.startEmpty_eq (s : State) (body : (s.order st).body = some b) (captured : b.lastCaptured = none)
    (left : b.nextDeliver ≤ b.last)
    (rests : s.delivery.channel = .sending ∨ ∀ f, (s.activate st).item st ≠ some (.black f)) :
    s.startEmpty st = (s.updOrder st (fun w => { w with state := .draining, ending := .completed }),
      .done (.profileTaken (s.order st).requested)) := by
  have drained : (s.activate st).drain st .completed
      = s.updOrder st (fun w => { w with state := .draining, ending := .completed }) := s.updOrder_updOrder _ _
  have order : (s.updOrder st (fun w => { w with state := .draining, ending := .completed })).order st
      = { s.order st with state := .draining, ending := .completed } := (s.order_updOrder st st _).trans (if_pos rfl)
  have body' : ((s.updOrder st (fun w => { w with state := .draining, ending := .completed })).order st).body = some b := by
    rw [order, body]
  have noEnd : (s.updOrder st (fun w => { w with state := .draining, ending := .completed })).endOfCapture st
      = s.updOrder st (fun w => { w with state := .draining, ending := .completed }) := by
    have none' : ((s.updOrder st (fun w => { w with state := .draining, ending := .completed })).openBody? st).bind
        (·.lastCaptured) = none := by
      rw [State.openBody_of_open _ (by rw [order]; nofun), body', Option.bind_some, captured]
    simp only [State.endOfCapture, none']
  have notPassed : deliveryPassed { s.order st with state := .draining, ending := .completed } b = false := by
    simpa [deliveryPassed] using left
  have open' : (s.updOrder st (fun w => { w with state := .draining, ending := .completed })).closingTest st
      = s.updOrder st (fun w => { w with state := .draining, ending := .completed }) := by
    simp only [State.closingTest, body']
    refine if_neg fun h => ?_
    rw [order, notPassed] at h
    exact Bool.false_ne_true h.2.2
  have after : (s.updOrder st (fun w => { w with state := .draining, ending := .completed })).afterCapture st
      = s.updOrder st (fun w => { w with state := .draining, ending := .completed }) := by
    unfold State.afterCapture
    rw [noEnd, open', ite_self]
  unfold State.startEmpty
  rw [drained, after, State.arbiterAtStart_rests]
  refine rests.imp id fun noGap f => ?_
  have item := State.item_congr (s := s.activate st)
    (t := s.updOrder st (fun w => { w with state := .draining, ending := .completed })) (st := st)
    (by rw [order, s.activate_order]; rfl) (by rw [order, s.activate_order]) (fun _ => rfl) rfl
  rw [item]
  exact noGap f

/-! ### START of a loopback work order (R87, R89, R107) -/

theorem State.markExpired_source (s : State) : s.markExpired.lanes.source = s.lanes.source := by
  unfold State.markExpired
  split
  · rfl
  · split <;> rfl

theorem State.granted_source (s : State) (l : LaneId) (u : StationId) (rest : List StationId) :
    (s.granted l u rest).lanes.source = s.lanes.source := by
  unfold State.granted
  rw [State.withdrawMarks_source]
  exact s.setLane_source l _

/-- A loopback station whose source feeds recovers nothing: the source does not wait (R87). -/
theorem State.recover_feeding (s : State) (loopback : (s.station st).state = .loopback)
    (feeds : s.lanes.source.state = .feeding) : s.recover st = s := by
  have notStarved : (s.station st).state ≠ .starved := by rw [loopback]; nofun
  unfold State.recover
  simp [notStarved, feeds]

theorem State.feeding_needsLane (s : State) (loopback : (s.station st).state = .loopback)
    (assigned : s.lanes.source.assigned = some st) (feeds : s.lanes.source.state = .feeding)
    (free : (s.station st).stopPending = .none) (lane : s.laneOf st = none) : s.needsLane st = true := by
  simp [State.needsLane, loopback, assigned, feeds, free, lane]

/-- A feeding source, whose station alone waits, is granted lane A while it is FREE (R89, R90). -/
theorem State.joinWaitList_feeding_laneA (s : State) (loopback : (s.station st).state = .loopback)
    (assigned : s.lanes.source.assigned = some st) (feeds : s.lanes.source.state = .feeding)
    (free : (s.station st).stopPending = .none) (empty : s.lanes.waitList = []) (laneA : s.lanes.laneA = .free)
    (laneB : s.lanes.laneB.heldBy st = false) :
    ∃ lanes : Crosspoint, s.joinWaitList st = { s with lanes := lanes }
      ∧ lanes.laneA = { hold := some { station := st, tenure := (s.station st).tenure, release := .none }, carriage := none }
      ∧ lanes.waitList = [] ∧ lanes.source = s.lanes.source := by
  have lane : s.laneOf st = none := by
    have a : s.lanes.laneA.heldBy st = false := by rw [laneA]; rfl
    simp [State.laneOf, a, laneB]
  have needs := s.feeding_needsLane loopback assigned feeds free lane
  obtain ⟨lanes, e⟩ := s.joined_eq st
  have list : (s.joined st).lanes.waitList = [st] := by rw [State.joined_waitList, empty]; rfl
  have source : (s.joined st).lanes.source = s.lanes.source := State.markExpired_source _
  have first : (s.joined st).freeLane = some .a := by
    have holder := s.joined_holders st .a
    have none' : (s.joined st).lanes.laneA.hold = none := by simpa [State.lane, laneA, Lane.free] using holder
    simp [State.freeLane, none']
  have still : ((s.joined st).granted .a st []).recover st = (s.joined st).granted .a st [] := by
    have record : ((s.joined st).granted .a st []).station st = s.station st :=
      ((s.joined st).granted_station .a st st []).trans (s.joined_station st st)
    refine State.recover_feeding _ (by rw [record, loopback]) ?_
    rw [State.granted_source, source, feeds]
  have granted : s.joinWaitList st = (s.joined st).granted .a st [] := by
    rw [s.joinWaitList_joins needs (by simp [empty]), State.grantLanes, (s.joined st).grantLane_eq first list, still]
    exact State.grantLane_idle _ (.inr (State.granted_waitList _ _ _ _))
  have tenure := s.joined_station st st
  refine ⟨((s.joined st).granted .a st []).lanes, ?_, ?_, State.granted_waitList _ _ _ _, ?_⟩
  · rw [granted, e]
    rfl
  · rw [State.granted, tenure]
    rfl
  · rw [State.granted_source, source]

/-- The source of an ACTIVE loopback work order feeds: the station asks for a lane and the next frame is offered (R87). -/
theorem State.feed_active (s : State) (loopback : (s.station st).state = .loopback)
    (assigned : s.lanes.source.assigned = some st) (active : (s.order st).state = .active)
    (free : (s.station st).stopPending = .none)
    (joins : (s.updSource (fun p => { p with state := .feeding })).joinWaitList st = t)
    (source : t.lanes.source.assigned = s.lanes.source.assigned) (orders : t.orders = s.orders)
    (stations : t.stations = s.stations) : s.feed st = t.offerFrame st := by
  have may : t.mayFeed st = true := by
    refine (State.mayFeed_iff t st).mpr ⟨?_, source.trans assigned, ?_, ?_⟩
    · rw [State.station, stations]; exact loopback
    · rw [State.order, orders]; exact active
    · rw [State.station, stations]; exact free
  simp only [State.feed, joins, may, if_true]

end Sys2Proof.Machine
end

section
/-!
PROOFS. START settled (R77 to R79, R87, R107, R169).
-/

-- One proof after another, as in the model's tests: each thread's stack counts against the memory limit.
set_option Elab.async false

namespace Sys2Proof.Machine

variable {s t : State} {i k : Nat} {r : Reel} {st : StationId} {b : OrderBody} {p q : Profile} {n : RequestNumber}

theorem State.serve_start (s : State) (st : StationId) : s.serve (.start st.val) = s.start st.val := rfl

theorem State.carrying_delivery (s : State) (f : Nat) (l : LaneId) : (s.carrying st f l k).delivery = s.delivery := by
  unfold State.carrying
  simp

theorem State.carrying_waitList (s : State) (f : Nat) (l : LaneId) :
    (s.carrying st f l k).lanes.waitList = s.lanes.waitList := by
  rw [State.carrying_crosspoint, State.setLane_waitList]

theorem Station.still_of_film {x : Station} (h : x.state = .threaded ∨ x.state = .halted) : x.runsAtSpeed = false :=
  h.elim Station.still_of_state Station.still_of_state

/-- START activates a work order that has a body: its body stays (R107). -/
theorem State.activate_openBody (s : State) (body : (s.order st).body = some b) : (s.activate st).openBody? st = some b := by
  rw [State.openBody_of_open _ (by rw [s.activate_order]; nofun), s.activate_order]
  exact body

/-- What a fallback taken at START leaves of the rest, and that PROFILE FALLBACK is raised (R78). -/
structure FellBack (s u : State) : Prop where
  orders : u.orders = s.orders
  sent : u.sent = s.sent
  delivery : u.delivery = s.delivery
  raised : u.flag .profileFallback = true
  replies : u.link.outbound.filter (·.isReply) = s.link.outbound.filter (·.isReply)
  taken : s.link.headTaken → u.link.headTaken
  rested : Rested s → Rested u

theorem FellBack.of_lowered (still : (s.station st).runsAtSpeed = false) (names : Names) :
    FellBack s ((s.lowered st q).raise .profileFallback names) := by
  have lowered := s.lowered_eq (p := q) still
  have link : (s.lowered st q).link = s.link := by rw [lowered]; rfl
  exact
    { orders := by rw [State.raise_orders, lowered]; rfl
      sent := by rw [State.raise_sent, lowered]; rfl
      delivery := by rw [State.raise_delivery, lowered]; rfl
      raised := by simp [State.flag_raise]
      replies := by rw [State.raise_replies, link]
      taken := fun h => State.raise_headTaken _ _ names (by rw [link]; exact h)
      rested := fun h => Rested.raise (Rested.lowered h) }

/-- A work order naming a reel is started at a station that may start it. -/
structure Starting (s : State) (st : StationId) (b : OrderBody) (i : Nat) (r : Reel) (c : Capabilities) : Prop where
  startable : (s.order st).state = .open ∨ (s.order st).state = .paused
  body : (s.order st).body = some b
  reel : b.reel = some i
  record : s.reel? i = some r
  verified : r.custody = .verified
  film : (s.station st).state = .threaded ∨ (s.station st).state = .halted
  carries : (s.station st).capabilities = some c
  gauge : c.gauges.has r.gauge = true
  idle : (s.station st).inFlight = none

section Start

variable {c : Capabilities} (h : Starting s st b i r c)
include h

theorem Starting.start : s.start st.val = if b.last < b.nextCapture then s.startEmpty st else s.startReel st r := by
  rw [s.start_reel h.body h.startable h.reel h.record, if_neg]
  rw [(s.stationStarts_iff st r).mpr ⟨h.film, h.verified, c, h.carries, h.gauge⟩]
  exact nofun

/-- START with no fallback pending that begins no delivery (R77, R79). -/
theorem Starting.plain (left : b.nextCapture ≤ b.last) (noFallback : (s.station st).fallback = none)
    (rests : s.delivery.channel = .sending ∨ ∀ f, (s.activate st).item st ≠ some (.black f))
    (effective : effectiveProfile (s.order st).requested c.fastest (permittedProfile r.grade) (s.station st).profile none = p) :
    s.start st.val = (((s.activate st).toStation st (.preroll (countOfFrame r.segments b.nextCapture) p)).putStation st
        { s.station st with profile := some p, fallback := none, motion := .prerolling, filter := .clear },
      if p = (s.order st).requested then .done (.profileTaken p) else .doneClamped [] (.profileTaken p)) := by
  have opened := s.activate_openBody h.body
  have map : (s.activate st).mapOf b = r.segments := State.mapOf_reel _ h.reel h.record
  rw [h.start, if_neg (Nat.not_lt.mpr left)]
  rw [s.startReel_eq (p := p) (s.activate st) (State.takeFallback_none _ noFallback) (Station.still_of_film h.film) opened
    (State.target_next _ h.idle opened left) rests h.carries (by rw [noFallback]; exact effective), map]
  rfl

/-- What a fallback, taken at START, leaves to the preroll (R78). -/
theorem Starting.fallback (left : b.nextCapture ≤ b.last) (pending : (s.station st).fallback = some q)
    (rests : s.delivery.channel = .sending ∨ ∀ f, (s.activate st).item st ≠ some (.black f))
    (effective : effectiveProfile (s.order st).requested c.fastest (permittedProfile r.grade) (s.station st).profile (some q)
      = p) :
    ∃ u, FellBack (s.activate st) u ∧ s.start st.val = ((u.toStation st
        (.preroll (countOfFrame r.segments b.nextCapture) p)).putStation st
        { (s.station st).fallen q with profile := some p, fallback := none, motion := .prerolling, filter := .clear },
      if p = (s.order st).requested then .done (.profileTaken p) else .doneClamped [] (.profileTaken p)) := by
  have still := Station.still_of_film h.film
  have fallen := (s.activate st).takeFallback_eq pending
  have lowered := (s.activate st).lowered_eq (st := st) (p := q) still
  generalize ({ station := some st, reel := ((s.activate st).lowered st q).reelIn st,
                frame := ((s.activate st).lowered st q).target st } : Names) = names at fallen
  have segments : ∀ j, ((((s.activate st).lowered st q).raise .profileFallback names).reel? j).map (·.segments)
      = ((s.activate st).reel? j).map (·.segments) := State.lowered_segments _
  have station : (((s.activate st).lowered st q).raise .profileFallback names).station st = (s.station st).fallen q := by
    have same : ((s.activate st).lowered st q).station st = (s.station st).fallen q := by
      rw [lowered]
      exact State.station_putStation _ _ _
    exact same
  have fell : FellBack (s.activate st) (((s.activate st).lowered st q).raise .profileFallback names) :=
    FellBack.of_lowered (s := s.activate st) still names
  have store : (((s.activate st).lowered st q).raise .profileFallback names).store = s.store := by
    rw [State.raise_store, lowered]
    rfl
  generalize ((s.activate st).lowered st q).raise .profileFallback names = u at fallen station fell store segments
  have order : u.order st = (s.activate st).order st := congrArg (·[st]) fell.orders
  have opened : u.openBody? st = some b := by
    rw [State.openBody_of_open _ (by rw [order, s.activate_order]; nofun), order, s.activate_order]
    exact h.body
  have map : u.mapOf b = r.segments :=
    (State.mapOf_congr (s := s.activate st) b segments).trans (State.mapOf_reel _ h.reel h.record)
  have item : u.item st = (s.activate st).item st :=
    State.item_congr (congrArg (·.state.offers) order) (congrArg WorkOrder.body order) segments store
  refine ⟨u, fell, ?_⟩
  rw [h.start, if_neg (Nat.not_lt.mpr left)]
  rw [s.startReel_eq (p := p) _ fallen (by rw [station]; exact Station.still_of_film h.film) opened
    (State.target_next _ (by rw [station]; exact h.idle) opened left) (by rw [fell.delivery, item]; exact rests) h.carries
    (by rw [pending]; exact effective), map, station]

end Start

/-- A loopback work order is started at its LOOPBACK station, whose source it feeds. -/
structure Feeding (s : State) (st : StationId) (b : OrderBody) : Prop where
  startable : (s.order st).state = .open ∨ (s.order st).state = .paused
  body : (s.order st).body = some b
  pattern : b.reel = none
  loopback : (s.station st).state = .loopback
  left : b.nextCapture ≤ b.last
  assigned : s.lanes.source.assigned = some st
  going : (s.station st).stopPending = .none
  idle : (s.station st).inFlight = none

/-- The state in which the station of a started loopback work order asks for a lane. -/
def State.feeding (s : State) (st : StationId) : State := (s.activate st).updSource (fun p => { p with state := .feeding })

section Feed

variable (h : Feeding s st b)
include h

theorem Feeding.start : s.start st.val = ((s.activate st).feed st, .done (.profileTaken .standard)) := by
  rw [s.start_loopback h.body h.startable h.pattern, if_neg (by simp [h.loopback]), if_neg (Nat.not_lt.mpr h.left)]
  rfl

/-- Once the station has asked for a lane, the next frame is offered. -/
theorem Feeding.feed {lanes : Crosspoint} (joins : (s.feeding st).joinWaitList st = { s.feeding st with lanes := lanes })
    (source : lanes.source = (s.feeding st).lanes.source) :
    (s.activate st).feed st = ({ s.feeding st with lanes := lanes } : State).offerFrame st := by
  have kept : lanes.source.assigned = s.lanes.source.assigned :=
    (congrArg PatternSource.assigned source).trans (by rfl)
  exact State.feed_active (s.activate st) h.loopback h.assigned (by rw [s.activate_order]) h.going joins kept rfl rfl

theorem Feeding.opened : (s.activate st).openBody? st = some b := s.activate_openBody h.body

theorem Feeding.target {lanes : Crosspoint} : ({ s.feeding st with lanes := lanes } : State).target st = some b.nextCapture :=
  State.target_next _ h.idle h.opened h.left

/-- On a FREE lane A the capture of the next frame begins (R80, R87, R90). -/
theorem Feeding.captures (empty : s.lanes.waitList = []) (laneA : s.lanes.laneA = .free)
    (laneB : s.lanes.laneB.heldBy st = false) (slot : s.freeSlot = some k) :
    ∃ lanes : Crosspoint, (s.activate st).feed st
        = ({ s.feeding st with lanes := lanes } : State).fed.carrying st b.nextCapture .a k
      ∧ lanes.laneA = { hold := some { station := st, tenure := (s.station st).tenure, release := .none }, carriage := none }
      ∧ lanes.waitList = [] ∧ lanes.source.assigned = some st := by
  obtain ⟨lanes, joins, held, list, source⟩ := State.joinWaitList_feeding_laneA (s.feeding st) h.loopback h.assigned rfl h.going
    empty laneA laneB
  have lane : ({ s.feeding st with lanes := lanes } : State).laneOf st = some .a := by
    simp [State.laneOf, held, Lane.heldBy]
  have free : (({ s.feeding st with lanes := lanes } : State).lane .a).carriage = none := congrArg Lane.carriage held
  refine ⟨lanes, ?_, held, list, (congrArg PatternSource.assigned source).trans h.assigned⟩
  rw [h.feed joins source]
  exact State.offerFrame_carries _ h.target lane free slot h.opened h.pattern

/-- While both lanes are HELD the source waits, and STATION STARVED is raised (R87, R89). -/
theorem Feeding.waits (held : ∀ l, (s.lane l).hold ≠ none) (lane : s.laneOf st = none) (out : st ∉ s.lanes.waitList) :
    ∃ lanes : Crosspoint, (s.activate st).feed st
        = (({ s.feeding st with lanes := lanes } : State).updSource
            (fun p => { p with state := .waiting, intervalOver := false })).raise .stationStarved
              { station := some st, frame := some b.nextCapture }
      ∧ lanes.waitList = s.lanes.waitList ++ [st] ∧ lanes.source.assigned = some st := by
  have needs := (s.feeding st).feeding_needsLane h.loopback h.assigned rfl h.going lane
  obtain ⟨lanes, e⟩ := (s.feeding st).joined_eq st
  have list : lanes.waitList = s.lanes.waitList ++ [st] := by
    have := (s.feeding st).joined_waitList st
    rw [e] at this
    exact this
  have source : lanes.source = (s.feeding st).lanes.source := by
    have : ((s.feeding st).joined st).lanes.source = (s.feeding st).lanes.source := State.markExpired_source _
    rw [e] at this
    exact this
  have holders := fun l => (s.feeding st).joined_holders st l
  have held' : ∀ l, (((s.feeding st).joined st).lane l).hold ≠ none := fun l k => by
    have := holders l
    rw [k] at this
    exact held l (Option.map_eq_none_iff.mp this.symm)
  have joins : (s.feeding st).joinWaitList st = { s.feeding st with lanes := lanes } := by
    rw [State.joinWaitList_joins _ needs out, State.grantLanes_held _ held', e]
  have lane' : ({ s.feeding st with lanes := lanes } : State).laneOf st = none := by
    have same : ((s.feeding st).joined st).laneOf st = s.laneOf st := (SameHolders.markExpired _).laneOf st
    rw [e] at same
    exact same.trans lane
  have cannot : ({ s.feeding st with lanes := lanes } : State).canCapture st = false := by
    simp only [State.canCapture, lane']
  refine ⟨lanes, ?_, list, (congrArg PatternSource.assigned source).trans h.assigned⟩
  rw [h.feed joins source]
  simp only [State.offerFrame, h.target, cannot, Bool.false_eq_true, if_false]

end Feed

/-- START with a fallback pending, that begins no delivery (R77 to R79). -/
theorem exec_start_fallback {c : Capabilities} (calm : Calm s) (h : Starting s.silent st b i r c)
    (left : b.nextCapture ≤ b.last) (pending : (s.station st).fallback = some q)
    (rests : s.delivery.channel = .sending ∨ ∀ f, (s.silent.activate st).item st ≠ some (.black f))
    (effective : effectiveProfile (s.silent.order st).requested c.fastest (permittedProfile r.grade)
      (s.silent.station st).profile (some q) = p) :
    ∃ t, exec (.start n st.val) s = .next t ∧ t.order st = { s.order st with state := .active }
      ∧ (t.station st).profile = some p ∧ (t.station st).fallback = none ∧ (t.station st).motion = .prerolling
      ∧ t.flag .profileFallback = true ∧ t.sent = [.station st (.preroll (countOfFrame r.segments b.nextCapture) p)]
      ∧ t.delivery = s.delivery ∧ RepliedOnce t (.start st.val) n
          (if p = (s.order st).requested then .done (.profileTaken p) else .doneClamped [] (.profileTaken p)) := by
  obtain ⟨u, fell, serve⟩ := h.fallback left pending rests effective
  have record := State.station_putStation (u.toStation st (.preroll (countOfFrame r.segments b.nextCapture) p)) st
    { (s.silent.station st).fallen q with profile := some p, fallback := none, motion := .prerolling, filter := .clear }
  refine ⟨_, exec_changed (.start st.val) _ calm serve ((fell.rested (Rested.congr calm.toRested rfl rfl)).congr rfl rfl)
    (fell.taken calm.taken), ?_, congrArg Station.profile record, congrArg Station.fallback record,
    congrArg Station.motion record, fell.raised, ?_, fell.delivery,
    State.answered_repliedOnce _ _ _ _ (fell.replies.trans calm.toFree.quiet)⟩
  · exact (congrArg (·[st]) fell.orders).trans s.silent.activate_order
  · exact congrArg (· ++ [Emission.station st (.preroll (countOfFrame r.segments b.nextCapture) p)]) fell.sent

/-- START of a loopback work order on a FREE lane A (R80, R87, R90, R107). -/
theorem exec_start_captures (calm : Calm s) (h : Feeding s.silent st b) (empty : s.lanes.waitList = [])
    (laneA : s.lanes.laneA = .free) (laneB : s.lanes.laneB.heldBy st = false) (slot : s.freeSlot = some k) :
    ∃ t, exec (.start n st.val) s = .next t ∧ t.order st = { s.order st with state := .active }
      ∧ t.lanes.source = { assigned := some st, state := .feeding, intervalOver := false }
      ∧ t.lanes.laneA = { hold := some { station := st, tenure := (s.station st).tenure, release := .none }
                          carriage := some { station := st, frame := b.nextCapture, slot := k } }
      ∧ (t.station st).inFlight = some b.nextCapture ∧ t.lanes.waitList = []
      ∧ (∃ x, t.slot? k = some x ∧ x.state = .filling ∧ x.order = some st ∧ x.frame = some b.nextCapture
          ∧ x.flags.test = true)
      ∧ t.retained = s.retained ∧ t.sent = [] ∧ t.delivery = s.delivery
      ∧ RepliedOnce t (.start st.val) n (.done (.profileTaken .standard)) := by
  obtain ⟨lanes, fed, granted, list, source⟩ := h.captures empty laneA laneB slot
  have serve : s.silent.serve (.start st.val) = _ := h.start
  rw [fed] at serve
  have order : ({ s.silent.feeding st with lanes := lanes } : State).order st = { s.order st with state := .active } :=
    s.silent.activate_order
  have opened : ({ s.silent.feeding st with lanes := lanes } : State).openBody? st = some b := h.opened
  have free : ({ s.silent.feeding st with lanes := lanes } : State).freeSlot = some k := slot
  have rested : Rested ({ s.silent.feeding st with lanes := lanes } : State) := Rested.congr calm.toRested rfl rfl
  have taken : ({ s.silent.feeding st with lanes := lanes } : State).link.headTaken := calm.taken
  have quiet : ({ s.silent.feeding st with lanes := lanes } : State).link.outbound.filter (·.isReply) = [] := calm.toFree.quiet
  have retained : ({ s.silent.feeding st with lanes := lanes } : State).retained = s.retained := rfl
  have sent : ({ s.silent.feeding st with lanes := lanes } : State).sent = [] := rfl
  have delivery : ({ s.silent.feeding st with lanes := lanes } : State).delivery = s.delivery := rfl
  have laneA' : ({ s.silent.feeding st with lanes := lanes } : State).lane .a
      = { hold := some { station := st, tenure := (s.station st).tenure, release := .none }, carriage := none } := granted
  have list' : ({ s.silent.feeding st with lanes := lanes } : State).lanes.waitList = [] := list
  have source' : ({ s.silent.feeding st with lanes := lanes } : State).lanes.source.assigned = some st := source
  generalize ({ s.silent.feeding st with lanes := lanes } : State) = v at *
  obtain ⟨y, filling⟩ := v.fed_carrying_slot b.nextCapture .a free opened h.pattern
  obtain ⟨orders, retained', link, sent', stk⟩ := v.fed.carrying_frame st b.nextCapture .a k
  refine ⟨_, exec_changed (.start st.val) _ calm serve (rested.congr retained' stk) (by rw [link]; exact taken),
    (congrArg (·[st]) orders).trans order, ?_, ?_, congrArg Station.inFlight (v.fed_carrying_station b.nextCapture .a k),
    (v.fed.carrying_waitList b.nextCapture .a).trans list', ⟨_, filling, rfl, rfl, rfl, rfl⟩, retained'.trans retained,
    sent'.trans sent, (v.fed.carrying_delivery b.nextCapture .a).trans delivery,
    State.answered_repliedOnce _ _ _ _ (by rw [link]; exact quiet)⟩
  · refine (v.fed_carrying_source b.nextCapture .a k).trans ?_
    exact congrArg (fun a => ({ assigned := a, state := .feeding, intervalOver := false } : PatternSource)) source'
  · refine (v.fed_carrying_lane b.nextCapture .a k).trans ?_
    rw [laneA']

/-- START of a loopback work order while both lanes are HELD (R87, R89, R107). -/
theorem exec_start_waits (calm : Calm s) (h : Feeding s.silent st b) (held : ∀ l, (s.lane l).hold ≠ none)
    (lane : s.laneOf st = none) (out : st ∉ s.lanes.waitList) :
    ∃ t, exec (.start n st.val) s = .next t ∧ t.order st = { s.order st with state := .active }
      ∧ t.lanes.source = { assigned := some st, state := .waiting, intervalOver := false }
      ∧ t.lanes.waitList = s.lanes.waitList ++ [st] ∧ t.store = s.store ∧ t.flag .stationStarved = true
      ∧ t.delivery = s.delivery ∧ RepliedOnce t (.start st.val) n (.done (.profileTaken .standard)) := by
  obtain ⟨lanes, waits, list, source⟩ := h.waits held lane out
  have serve : s.silent.serve (.start st.val) = _ := h.start
  rw [waits] at serve
  have raised := State.flag_raise (({ s.silent.feeding st with lanes := lanes } : State).updSource
    (fun p => { p with state := .waiting, intervalOver := false })) .stationStarved .stationStarved
      { station := some st, frame := some b.nextCapture }
  refine ⟨_, exec_changed (.start st.val) _ calm serve (Rested.raise (Rested.congr calm.toRested rfl rfl))
    (State.raise_headTaken _ _ _ calm.taken), s.silent.activate_order, ?_, list, rfl, raised.trans (by simp), rfl,
    State.answered_repliedOnce _ _ _ _ (calm.toFree.quiet_raise rfl _ _)⟩
  exact congrArg (fun a => ({ assigned := a, state := .waiting, intervalOver := false } : PatternSource)) source

/-- Settles O42: START by what the work order names and what its station can do. -/
theorem startingAWorkOrderPrerolls : Obligations.StartingAWorkOrderPrerolls := by
  unfold Obligations.StartingAWorkOrderPrerolls
  intro s n st calm
  refine ⟨fun ended => ?_, fun b startable body => ⟨fun i r reel e => ⟨fun refused => ?_, ?_⟩, fun pattern off => ?_,
    fun pattern loopback left assigned going idle => ?_⟩⟩
  · exact exec_unchanged (.start st.val) _ calm (s.silent.start_refused ended)
  · refine exec_unchanged (.start st.val) _ calm ((s.silent.start_reel body startable reel e).trans (if_pos ?_))
    exact s.silent.stationStarts_false refused
  · intro c verified film carries gauge idle
    have starting : Starting s.silent st b i r c := ⟨startable, body, reel, e, verified, film, carries, gauge, idle⟩
    refine ⟨fun rests noFallback left => ?_, fun q rests pending left => ?_, fun rests passed captured deliverable => ?_⟩
    · refine exec_changed (.start st.val) _ calm (starting.plain left noFallback rests ?_) (Rested.congr calm.toRested rfl rfl)
        calm.taken
      have same : s.silent.station st = s.station st := rfl
      rw [same]
      cases (s.station st).profile <;> rfl
    · refine exec_start_fallback calm starting left pending rests ?_
      have same : s.silent.station st = s.station st := rfl
      rw [same]
      cases (s.station st).profile <;> rfl
    · refine exec_changed (.start st.val) _ calm (starting.start.trans ((if_pos passed).trans
        (State.startEmpty_eq _ body captured deliverable rests))) (Rested.congr calm.toRested rfl rfl) calm.taken
  · refine exec_unchanged (.start st.val) _ calm ((s.silent.start_loopback body startable pattern).trans (if_pos off))
  · have feeding : Feeding s.silent st b := ⟨startable, body, pattern, loopback, left, assigned, going, idle⟩
    exact ⟨fun k empty laneA laneB slot => exec_start_captures calm feeding empty laneA laneB slot,
      fun held lane out => exec_start_waits calm feeding held lane out⟩

end Sys2Proof.Machine
end

section
/-!
PROOFS. A running station stopped: its capture abandoned, its lane released and granted on, its work order paused (R90, R94,
R96, R115).
-/

-- One proof after another, as in the model's tests: each thread's stack counts against the memory limit.
set_option Elab.async false

namespace Sys2Proof.Machine

variable {s t : State} {i k f : Nat} {r : Reel} {st u : StationId} {l m : LaneId}

/-! ### Lanes -/

theorem State.lane_of_lanes {lanes : Crosspoint} (h : t.lanes = lanes) (l : LaneId) :
    t.lane l = ({ s with lanes := lanes } : State).lane l := by
  cases l <;> simp only [State.lane, h]

theorem State.withdrawMarks_lane (s : State) (h : (s.lane l).unmark = s.lane l) : s.withdrawMarks.lane l = s.lane l := by
  unfold State.withdrawMarks
  split
  · cases l <;> exact h
  · rfl

/-- The lane that one station alone holds is its lane (R88). -/
theorem State.laneOf_held (s : State) (apart : l ≠ m) (held : (s.lane l).heldBy st = true) (other : (s.lane m).heldBy st = false) :
    s.laneOf st = some l := by
  cases l with
  | a => exact if_pos held
  | b =>
    cases m with
    | a => exact (if_neg (by simpa [State.lane] using other)).trans (if_pos held)
    | b => exact absurd rfl apart

theorem State.freeLane_held (s : State) (apart : l ≠ m) (free : (s.lane l).hold = none) (held : (s.lane m).hold ≠ none) :
    s.freeLane = some l := by
  have held : (s.lane m).hold.isNone = false := Option.isNone_eq_false_iff.mpr (Option.isSome_iff_ne_none.mpr held)
  have free := Option.isNone_iff_eq_none.mpr free
  cases l with
  | a => exact if_pos free
  | b =>
    cases m with
    | a => exact (if_neg (by rw [show s.lanes.laneA.hold.isNone = false from held]; nofun)).trans (if_pos free)
    | b => exact absurd rfl apart

theorem State.freeLane_none (s : State) (apart : l ≠ m) (held : (s.lane l).hold ≠ none) (held' : (s.lane m).hold ≠ none) :
    s.freeLane = none := by
  have both : s.lanes.laneA.hold ≠ none ∧ s.lanes.laneB.hold ≠ none := by
    cases l <;> cases m
    · exact absurd rfl apart
    · exact ⟨held, held'⟩
    · exact ⟨held', held⟩
    · exact absurd rfl apart
  simp [State.freeLane, both.1, both.2]

/-- The lane as the arbiter grants it (R90). -/
def State.grantedLane (s : State) (u : StationId) : Lane :=
  { hold := some { station := u, tenure := (s.station u).tenure, release := .none }, carriage := none }

theorem State.granted_eq (s : State) (l : LaneId) (u : StationId) (rest : List StationId) :
    ∃ lanes, s.granted l u rest = { s with lanes := lanes } := by
  obtain ⟨lanes, e⟩ := State.withdrawMarks_eq { s.setLane l (s.grantedLane u) with
    lanes := { (s.setLane l (s.grantedLane u)).lanes with waitList := rest } }
  refine ⟨lanes, e.trans ?_⟩
  rw [State.setLane_eq]

theorem State.granted_lane_same (s : State) (l : LaneId) (u : StationId) (rest : List StationId) :
    (s.granted l u rest).lane l = s.grantedLane u := by
  have written : ({ s.setLane l (s.grantedLane u) with
      lanes := { (s.setLane l (s.grantedLane u)).lanes with waitList := rest } } : State).lane l = s.grantedLane u := by
    cases l <;> rfl
  have kept := State.withdrawMarks_lane (l := l) { s.setLane l (s.grantedLane u) with
    lanes := { (s.setLane l (s.grantedLane u)).lanes with waitList := rest } } (by rw [written]; rfl)
  exact kept.trans written

theorem State.granted_lane_other (s : State) (u : StationId) (rest : List StationId) (apart : l ≠ m)
    (h : (s.lane m).unmark = s.lane m) : (s.granted l u rest).lane m = s.lane m := by
  have written : ({ s.setLane l (s.grantedLane u) with
      lanes := { (s.setLane l (s.grantedLane u)).lanes with waitList := rest } } : State).lane m = s.lane m := by
    refine Eq.trans ?_ ((s.lane_setLane l m (s.grantedLane u)).trans (if_neg apart.symm))
    cases m <;> rfl
  have kept := State.withdrawMarks_lane (l := m) { s.setLane l (s.grantedLane u) with
    lanes := { (s.setLane l (s.grantedLane u)).lanes with waitList := rest } } (by rw [written]; exact h)
  exact kept.trans written

/-! ### A lane released (R94) -/

/-- What a station that gives up lane `l` leaves of the lanes: the head of the list of those that wait takes it. -/
structure Released (s : State) (l m : LaneId) (waits : List StationId) (lanes : Crosspoint) : Prop where
  kept : ({ s with lanes := lanes } : State).lane m = s.lane m
  source : lanes.source = s.lanes.source
  list : lanes.waitList = waits.tail
  lane : ({ s with lanes := lanes } : State).lane l = waits.head?.elim .free s.grantedLane

/-- A lane becomes FREE where no station stands that recovers on a grant: the head of the list takes it, or none waits. -/
theorem State.releaseLane_quiet (s : State) (apart : l ≠ m) (unmarked : (s.lane m).unmark = s.lane m)
    (busy : ∀ u, (s.station u).state ≠ .starved ∧ (s.station u).state ≠ .loopback)
    (held : s.lanes.waitList = [] ∨ (s.lane m).hold ≠ none) :
    ∃ lanes, s.releaseLane l = { s with lanes := lanes } ∧ Released s l m s.lanes.waitList lanes := by
  have free : (s.setLane l .free).lane l = .free := (s.lane_setLane l l .free).trans (if_pos rfl)
  have other : (s.setLane l .free).lane m = s.lane m := (s.lane_setLane l m .free).trans (if_neg apart.symm)
  have eq := s.setLane_eq l .free
  cases list : s.lanes.waitList with
  | nil =>
    refine ⟨(s.setLane l .free).lanes, (s.releaseLane_listless l list).trans eq, ?_, s.setLane_source l _, ?_, ?_⟩
    · rw [← eq, other]
    · rw [State.setLane_waitList, list]; rfl
    · rw [← eq, free]; rfl
  | cons u rest =>
    have held := held.resolve_left (by rw [list]; nofun)
    have first : (s.setLane l .free).freeLane = some l :=
      State.freeLane_held _ apart (by rw [free]; rfl) (by rw [other]; exact held)
    have record : ∀ v, (s.setLane l .free).station v = s.station v := fun v => by simp [State.station]
    have still : ((s.setLane l .free).granted l u rest).recover u = (s.setLane l .free).granted l u rest := by
      have same := ((s.setLane l .free).granted_station l u u rest).trans (record u)
      exact State.recover_busy _ (by rw [same]; exact (busy u).1) (by rw [same]; exact (busy u).2)
    have laneL := (s.setLane l .free).granted_lane_same l u rest
    have laneM := ((s.setLane l .free).granted_lane_other (l := l) u rest apart (by rw [other]; exact unmarked)).trans other
    have full : ((s.setLane l .free).granted l u rest).freeLane = none :=
      State.freeLane_none _ apart (by rw [laneL]; nofun) (by rw [laneM]; exact held)
    obtain ⟨lanes, granted⟩ := (s.setLane l .free).granted_eq l u rest
    have whole : s.releaseLane l = { s with lanes := lanes } := by
      unfold State.releaseLane State.grantLanes
      rw [State.grantLane_eq _ first ((s.setLane_waitList l .free).trans list), still, State.grantLane_idle _ (.inl full),
        granted, eq]
    have same : (s.setLane l .free).granted l u rest = { s with lanes := lanes } := by rw [granted, eq]
    rw [same] at laneL laneM
    refine ⟨lanes, whole, laneM, ?_, ?_, laneL.trans ?_⟩
    · have source := (s.setLane l .free).granted_source l u rest
      rw [same] at source
      exact source.trans (s.setLane_source l _)
    · have tail := (s.setLane l .free).granted_waitList l u rest
      rw [same] at tail
      exact tail
    · exact congrArg (fun x : Station => ({ hold := some { station := u, tenure := x.tenure, release := .none }
                                            carriage := none } : Lane)) (record u)

/-- A station that holds lane `l` leaves the lanes where no station stands that recovers on a grant (R96). -/
theorem State.leaveLanes_quiet (s : State) (lane : s.laneOf st = some l) (apart : l ≠ m)
    (unmarked : (s.lane m).unmark = s.lane m)
    (busy : ∀ u, (s.station u).state ≠ .starved ∧ (s.station u).state ≠ .loopback)
    (held : s.lanes.waitList = [] ∨ (s.lane m).hold ≠ none) :
    ∃ lanes, s.leaveLanes st = { s with lanes := lanes }
      ∧ Released s l m (s.lanes.waitList.filter (· != st)) lanes := by
  obtain ⟨lanes, left⟩ := State.withdrawMarks_eq
    ({ s with lanes := { s.lanes with waitList := s.lanes.waitList.filter (· != st) } } : State)
  have left : s.leaveWaitList st = { s with lanes := lanes } := left
  have list : lanes.waitList = s.lanes.waitList.filter (· != st) := by
    have := State.withdrawMarks_waitList
      ({ s with lanes := { s.lanes with waitList := s.lanes.waitList.filter (· != st) } } : State)
    exact (congrArg (·.lanes.waitList) left).symm.trans this
  have source : lanes.source = s.lanes.source := by
    have := State.withdrawMarks_source
      ({ s with lanes := { s.lanes with waitList := s.lanes.waitList.filter (· != st) } } : State)
    exact (congrArg (·.lanes.source) left).symm.trans this
  have laneM : ({ s with lanes := lanes } : State).lane m = s.lane m := by
    have same : ({ s with lanes := { s.lanes with waitList := s.lanes.waitList.filter (· != st) } } : State).lane m = s.lane m := by
      cases m <;> rfl
    have := State.withdrawMarks_lane (l := m)
      ({ s with lanes := { s.lanes with waitList := s.lanes.waitList.filter (· != st) } } : State) (by rw [same]; exact unmarked)
    exact (congrArg (·.lane m) left).symm.trans (this.trans same)
  have lane' : ({ s with lanes := lanes } : State).laneOf st = some l := by
    have := (SameHolders.withdrawMarks
      ({ s with lanes := { s.lanes with waitList := s.lanes.waitList.filter (· != st) } } : State)).laneOf st
    exact (congrArg (·.laneOf st) left).symm.trans (this.trans lane)
  obtain ⟨lanes', released, facts⟩ := State.releaseLane_quiet ({ s with lanes := lanes } : State) apart
    (by rw [laneM]; exact unmarked) busy (by
      rw [laneM]
      refine held.imp_left fun none' => ?_
      exact list.trans (by rw [none']; rfl))
  refine ⟨lanes', ?_, ⟨facts.kept.trans laneM, facts.source.trans source, ?_, ?_⟩⟩
  · unfold State.leaveLanes
    simp only [left, lane']
    exact released
  · rw [← list]
    exact facts.list
  · rw [← list]
    exact facts.lane

/-! ### A capture abandoned (R96) -/

/-- A FREE slot is taken by no station where none recovers on it (R126). -/
theorem State.offerSlots_busy (s : State) (busy : ∀ u, (s.station u).state ≠ .starved ∧ (s.station u).state ≠ .loopback) :
    s.offerSlots = s := by
  have all : ∀ l : List StationId, l.foldl State.recover s = s := by
    intro l
    induction l with
    | nil => rfl
    | cons u rest ih =>
      rw [List.foldl_cons, State.recover_busy s (busy u).1 (busy u).2]
      exact ih
  exact all _

/-- A station that has just been stopped in the middle of a capture, where no station recovers on a grant or a FREE slot. -/
structure Halting (s : State) (st : StationId) (l m : LaneId) (k : Nat) (x : Slot) : Prop where
  lane : s.laneOf st = some l
  apart : l ≠ m
  carriage : ∃ f, (s.lane l).carriage = some { station := st, frame := f, slot := k }
  slot : s.slot? k = some x
  flight : (s.station st).inFlight ≠ none
  still : (s.station st).runsAtSpeed = false
  unmarked : (s.lane m).unmark = s.lane m
  busy : ∀ u, (s.station u).state ≠ .starved ∧ (s.station u).state ≠ .loopback
  held : s.lanes.waitList = [] ∨ (s.lane m).hold ≠ none
  active : (s.order st).state = .active

/-- The state after the capture in lane `l` has been abandoned. -/
def State.abandoned (s : State) (st : StationId) (l : LaneId) (k : Nat) (x : Slot) : State :=
  ((s.setLane l { s.lane l with carriage := none }).putSlot k x.cleared).putStation st { s.station st with inFlight := none }

theorem State.abandoned_station (s : State) (x : Slot) (u : StationId) : (s.abandoned st l k x).station u =
    if u = st then { s.station st with inFlight := none } else s.station u := by
  split
  · next e =>
    subst e
    exact State.station_putStation _ _ _
  · next e =>
    refine (State.station_putStation_of_ne _ _ e).trans ?_
    simp [State.station, State.putSlot]

theorem State.abandoned_lane (s : State) (x : Slot) (n : LaneId) : (s.abandoned st l k x).lane n =
    if n = l then { s.lane l with carriage := none } else s.lane n := by
  refine Eq.trans ?_ (s.lane_setLane l n { s.lane l with carriage := none })
  cases n <;> rfl

section Halt

variable {x : Slot} (h : Halting s st l m k x)
include h

theorem Halting.busy_abandoned (u : StationId) :
    ((s.abandoned st l k x).station u).state ≠ .starved ∧ ((s.abandoned st l k x).station u).state ≠ .loopback := by
  have same : ((s.abandoned st l k x).station u).state = (s.station u).state := by
    rw [State.abandoned_station]
    split
    · next e => rw [e]
    · rfl
  rw [same]
  exact h.busy u

theorem Halting.abandon : s.abandon st = s.abandoned st l k x := by
  obtain ⟨f, carriage⟩ := h.carriage
  have slot : (s.setLane l { s.lane l with carriage := none }).slot? k = some x := by
    simpa [State.slot?] using h.slot
  have record : ((s.setLane l { s.lane l with carriage := none }).putSlot k x.cleared).station st = s.station st := by
    simp [State.station, State.putSlot]
  have quietly : s.abandonQuietly st = s.abandoned st l k x := by
    unfold State.abandonQuietly
    simp only [h.lane, carriage]
    rw [State.updSlot_eq_putSlot _ slot, State.updStation_eq_putStation _ _ _ (.inl (by rw [record]; exact h.still)), record]
    rfl
  unfold State.abandon
  rw [if_pos (Option.isSome_iff_ne_none.mpr h.flight), quietly, State.offerSlots_busy _ h.busy_abandoned]

/-- The whole of it: the capture abandoned, the lanes left and the ACTIVE work order PAUSED (R84, R85, R96, R115). -/
theorem Halting.stopped : ∃ lanes, ((s.abandon st).leaveLanes st).pauseOrder st
      = { (s.putStation st { s.station st with inFlight := none }).putSlot k x.cleared with
          lanes := lanes, orders := s.orders.set st { s.order st with state := .paused } }
    ∧ Released s l m (s.lanes.waitList.filter (· != st)) lanes := by
  have laneM : (s.abandoned st l k x).lane m = s.lane m := (s.abandoned_lane x m).trans (if_neg h.apart.symm)
  have list : (s.abandoned st l k x).lanes.waitList = s.lanes.waitList := s.setLane_waitList l _
  have lane : (s.abandoned st l k x).laneOf st = some l := by
    have same : SameHolders s (s.abandoned st l k x) := by
      refine ⟨list, fun n u => ?_⟩
      rw [State.abandoned_lane]
      split
      · next e => subst e; rfl
      · rfl
    exact (same.laneOf st).trans h.lane
  have tenure : ∀ u, (s.abandoned st l k x).grantedLane u = s.grantedLane u := fun u => by
    have same : ((s.abandoned st l k x).station u).tenure = (s.station u).tenure := by
      rw [State.abandoned_station]
      split
      · next e => rw [e]
      · rfl
    unfold State.grantedLane
    rw [same]
  obtain ⟨lanes, left, released⟩ := (s.abandoned st l k x).leaveLanes_quiet lane h.apart (by rw [laneM]; exact h.unmarked)
    h.busy_abandoned (by rw [laneM, list]; exact h.held)
  have whole : ({ s.abandoned st l k x with lanes := lanes } : State)
      = { (s.putStation st { s.station st with inFlight := none }).putSlot k x.cleared with lanes := lanes } := by
    unfold State.abandoned
    rw [State.setLane_eq]
    rfl
  refine ⟨lanes, ?_, released.kept.trans laneM, released.source.trans (s.setLane_source l _), ?_, ?_⟩
  · rw [h.abandon, left, whole]
    unfold State.pauseOrder State.updOrder
    dsimp only
    exact congrArg (fun w => ({ (s.putStation st { s.station st with inFlight := none }).putSlot k x.cleared with
      lanes := lanes, orders := s.orders.set st w } : State)) (if_pos h.active)
  · rw [released.list, list]
  · have := released.lane
    rw [list] at this
    exact this.trans (congrArg (fun g => Option.elim _ Lane.free g) (funext tenure))

end Halt

end Sys2Proof.Machine
end

section
/-!
PROOFS. BREAK and SEIZE (R73, R84, R85, R94, R96).
-/

-- One proof after another, as in the model's tests: each thread's stack counts against the memory limit.
set_option Elab.async false

namespace Sys2Proof.Machine

variable {s t u : State} {i k f : Nat} {r : Reel} {st : StationId} {l m : LaneId} {x : Slot} {y z : Station}

/-! ### The reports as they are taken -/

/-- The record of a station whose film breaks (R84). -/
def Station.broken (x : Station) : Station :=
  { x with state := .broken, motion := .stopped, threaded := false, stopPending := .none }

/-- A fault stops a station: SAFE is sent, its record is written, and a pattern source assigned to it becomes IDLE on a SEIZE
(R84, R85). -/
def State.halting (s : State) (st : StationId) (y : Station) (g : PatternSource → PatternSource) : State :=
  ((s.toStation st .safe).putStation st y).updSource g

theorem State.halting_id (s : State) (st : StationId) (y : Station) :
    s.halting st y id = (s.toStation st .safe).putStation st y := rfl

/-- BREAK, once the work of the station has been stopped in `u` (R84). -/
theorem State.breakTaken_eq (s : State) (breaks : (s.station st).state.takesBreak = true)
    (written : (s.toStation st .safe).updStation st (·.broken) = s.halting st y id)
    (stopped : (((s.halting st y id).abandon st).leaveLanes st).pauseOrder st = u) (record : u.station st = z)
    (broken : z.state = .broken) (inside : u.reelIn st = some i) (e : u.reel? i = some r)
    (rests : (u.order st).state ≠ .draining) :
    s.breakTaken st = ((u.setReel i (some { r with custody := .reverify })).putStation st
      { z with tagRead := none, markRead := none }).raise .filmBreak
        { station := some st, reel := some i, frame := z.lastGate } := by
  subst record
  have unread : (u.setReel i (some { r with custody := .reverify })).updStation st
        (fun t => { t with tagRead := none, markRead := none })
      = (u.setReel i (some { r with custody := .reverify })).putStation st
        { u.station st with tagRead := none, markRead := none } :=
    State.updStation_still _ _ broken
  have named : ((u.setReel i (some { r with custody := .reverify })).putStation st
      { u.station st with tagRead := none, markRead := none }).reelIn st = some i :=
    (u.reelIn_setCustody e .reverify st).trans inside
  have gate : (((u.setReel i (some { r with custody := .reverify })).putStation st
      { u.station st with tagRead := none, markRead := none }).station st).lastGate = (u.station st).lastGate :=
    by rw [State.station_putStation]
  have written' : (s.toStation st .safe).updStation st (fun t =>
      { t with state := .broken, motion := .stopped, threaded := false, stopPending := .none }) = s.halting st y id := written
  unfold State.breakTaken
  simp only [breaks, Bool.true_eq_false, if_false, written', stopped, u.reverifyIn_some inside e, unread, named, gate]
  exact State.afterCapture_idle _ rests

/-- The record of a station that is seized with new fault names (R85). -/
def Station.seized (x : Station) (names : List FaultName) : Station :=
  { x with state := .seized, motion := .stopped, faults := names }

/-- The pattern source of a seized station is IDLE (R99). -/
def PatternSource.seized (st : StationId) (p : PatternSource) : PatternSource :=
  if p.assigned = some st then { PatternSource.idle with assigned := some st } else p

/-- One fault name that is new stands behind those reported (R85). -/
theorem addFault_new (faults : List FaultName) (b : Byte) (new : FaultName.reported b ∉ faults) :
    ([b].map FaultName.reported).foldl addFault faults = faults ++ [.reported b] := by
  simp [addFault, new]

/-- SEIZE of a station that was not SEIZED, once its work has been stopped in `u` (R85). -/
theorem State.seizeTaken_eq (s : State) (b : Byte) (beats : (s.station st).state.beats = true)
    (seized : (s.station st).state ≠ .seized)
    (written : (((s.putStation st { s.station st with
      faults := ([b].map FaultName.reported).foldl addFault (s.station st).faults }).toStation st .safe).updStation st
        (fun t => { t with state := .seized, motion := .stopped })).updSource (PatternSource.seized st)
      = s.halting st y (PatternSource.seized st))
    (stopped : (((s.halting st y (PatternSource.seized st)).abandon st).leaveLanes st).pauseOrder st = u)
    (inside : u.reelIn st = some i) (rests : (u.order st).state ≠ .draining) :
    s.seizeTaken st [b] = u.raise .stationSeized { station := some st, reel := some i } := by
  have named := s.updStation_sameSpeed st
    (fun t => { t with faults := ([b].map FaultName.reported).foldl addFault t.faults }) rfl
  have written' : (((s.putStation st { s.station st with
      faults := ([b].map FaultName.reported).foldl addFault (s.station st).faults }).toStation st .safe).updStation st
        (fun t => { t with state := .seized, motion := .stopped })).updSource
          (fun p => if p.assigned = some st then { PatternSource.idle with assigned := some st } else p)
      = s.halting st y (PatternSource.seized st) := written
  unfold State.seizeTaken
  simp only [beats, Bool.true_eq_false, if_false, if_neg seized, named, written', stopped, inside]
  exact State.afterCapture_idle _ rests

theorem State.breakTaken_deaf (s : State) (h : (s.station st).state.takesBreak = false) : s.breakTaken st = s := if_pos h

/-- SEIZE of a SEIZED station adds its names (R85). -/
theorem State.seizeTaken_again (s : State) (b : Byte) (seized : (s.station st).state = .seized)
    (new : FaultName.reported b ∉ (s.station st).faults) :
    s.seizeTaken st [b] = s.putStation st { s.station st with faults := (s.station st).faults ++ [.reported b] } := by
  have named := s.updStation_sameSpeed st
    (fun t => { t with faults := ([b].map FaultName.reported).foldl addFault t.faults }) rfl
  have beats : (s.station st).state.beats = true := by rw [seized]; rfl
  unfold State.seizeTaken
  simp only [beats, Bool.true_eq_false, if_false, if_pos seized, named]
  rw [addFault_new _ b new]

/-! ### A station without work -/

theorem Workless.stopped (h : Workless s st) (idle : (s.station st).inFlight = none) :
    ((s.abandon st).leaveLanes st).pauseOrder st = s := by
  rw [s.abandon_idle idle, h.leaveLanes, h.pauseOrder]

theorem exec_filmBreak_idle (powered : s.powered = true) (rested : Rested s) (inside : s.reelIn st = some i)
    (e : s.reel? i = some r) (work : Workless s st) (idle : (s.station st).inFlight = none)
    (h : (s.station st).state = .threaded ∨ (s.station st).state = .rewinding) :
    exec (.filmBreak st) s = .next (((s.silent.halting st { (s.station st).broken with tagRead := none, markRead := none } id).setReel i
      (some { r with custody := .reverify })).raise .filmBreak
        { station := some st, reel := some i, frame := (s.station st).lastGate }) := by
  have breaks : (s.silent.station st).state.takesBreak = true := by
    have same : s.silent.station st = s.station st := rfl
    rw [same]
    rcases h with h | h <;> rw [h] <;> rfl
  have still : (s.station st).runsAtSpeed = false := h.elim Station.still_of_state Station.still_of_state
  have written : (s.silent.toStation st .safe).updStation st (·.broken) = s.silent.halting st (s.station st).broken id :=
    State.updStation_eq_putStation _ st _ (.inl still)
  have record : (s.silent.halting st (s.station st).broken id).station st = (s.station st).broken :=
    State.station_putStation _ _ _
  have work' : Workless (s.silent.halting st (s.station st).broken id) st := work.congr rfl rfl
  have stopped := work'.stopped (by rw [record]; exact idle)
  refine exec_of_event (fun s => s.breakTaken st) rfl powered ?_
    (Rested.raise (Rested.setReel (Rested.congr (t := s.silent.halting st _ id) rested rfl rfl)
      (q := { r with custody := .reverify }) e))
  refine (State.breakTaken_eq s.silent breaks written stopped record rfl inside e ?_).trans ?_
  · rw [show ((s.silent.halting st (s.station st).broken id).order st).state = .closed from work.closed]
    nofun
  · exact congrArg (fun v : State => (v.setReel i (some { r with custody := .reverify })).raise .filmBreak
      { station := some st, reel := some i, frame := (s.station st).lastGate })
      ((s.silent.toStation st .safe).putStation_putStation st _ _)

theorem PatternSource.seized_other (p : PatternSource) (h : p.assigned ≠ some st) : p.seized st = p := if_neg h

/-- SEIZE writes the record and the source once: the names, then the state (R85). -/
theorem State.seize_written (s : State) (b : Byte) (new : FaultName.reported b ∉ (s.station st).faults)
    (written : (s.putStation st { s.station st with faults := (s.station st).faults ++ [.reported b] }).updStation st
        (fun t => { t with state := .seized, motion := .stopped })
      = s.putStation st y) :
    (((s.putStation st { s.station st with
      faults := ([b].map FaultName.reported).foldl addFault (s.station st).faults }).toStation st .safe).updStation st
        (fun t => { t with state := .seized, motion := .stopped })).updSource (PatternSource.seized st)
      = s.halting st y (PatternSource.seized st) := by
  rw [addFault_new _ b new]
  exact congrArg (fun v : State => (v.toStation st .safe).updSource (PatternSource.seized st)) written

theorem exec_seize_idle (powered : s.powered = true) (rested : Rested s) (b : Byte)
    (new : FaultName.reported b ∉ (s.station st).faults) (inside : s.reelIn st = some i) (work : Workless s st)
    (idle : (s.station st).inFlight = none) (other : s.lanes.source.assigned ≠ some st)
    (h : (s.station st).state = .empty ∨ (s.station st).state = .loaded ∨ (s.station st).state = .threaded) :
    exec (.seize st [b]) s = .next ((s.silent.halting st
      ((s.station st).seized ((s.station st).faults ++ [.reported b])) id).raise .stationSeized
        { station := some st, reel := some i }) := by
  have fit : (s.station st).state.beats = true ∧ (s.station st).state ≠ .seized ∧ (s.station st).runsAtSpeed = false := by
    unfold Station.runsAtSpeed
    rcases h with h | h | h <;> rw [h] <;> exact ⟨rfl, nofun, rfl⟩
  have source : ∀ y, s.silent.halting st y (PatternSource.seized st) = s.silent.halting st y id := fun y => by
    have same : s.lanes.source.seized st = s.lanes.source := PatternSource.seized_other _ other
    exact congrArg (fun p => (((s.silent.toStation st .safe).putStation st y).updSource fun _ => p)) same
  have written : (s.silent.putStation st { s.station st with
      faults := (s.station st).faults ++ [.reported b] }).updStation st
        (fun t => { t with state := .seized, motion := .stopped })
      = s.silent.putStation st ((s.station st).seized ((s.station st).faults ++ [.reported b])) := by
    have record := s.silent.station_putStation st { s.station st with faults := (s.station st).faults ++ [.reported b] }
    rw [State.updStation_eq_putStation _ _ _ (.inl (by rw [record]; exact fit.2.2)), record, State.putStation_putStation]
    rfl
  have record : (s.silent.halting st ((s.station st).seized ((s.station st).faults ++ [.reported b])) id).station st
      = (s.station st).seized ((s.station st).faults ++ [.reported b]) := State.station_putStation _ _ _
  have work' : Workless (s.silent.halting st ((s.station st).seized ((s.station st).faults ++ [.reported b])) id) st :=
    work.congr rfl rfl
  have stopped := work'.stopped (by rw [record]; exact idle)
  refine exec_of_event (fun s => s.seizeTaken st [b]) rfl powered ?_ (Rested.raise (rested.congr rfl rfl))
  refine State.seizeTaken_eq s.silent b fit.1 fit.2.1 (s.silent.seize_written b new written) ?_ inside ?_
  · rw [source]
    exact stopped
  · rw [show ((s.silent.halting st ((s.station st).seized ((s.station st).faults ++ [.reported b])) id).order st).state
      = .closed from work.closed]
    nofun

/-! ### A running station -/

/-- A running station that stops loses its filter when it ran at speed (R73). -/
theorem State.updStation_halts (s : State) (g : Station → Station) (running : (s.station st).state = .running)
    (after : (g (s.station st)).runsAtSpeed = false) : s.updStation st g = s.putStation st { g (s.station st) with
      filter := if (s.station st).motion = .atSpeed then .clear else (g (s.station st)).filter } := by
  by_cases fast : (s.station st).motion = .atSpeed
  · rw [if_pos fast]
    exact s.updStation_stops st g (by simp [Station.runsAtSpeed, running, fast]) after
  · rw [if_neg fast]
    exact s.updStation_eq_putStation st g (.inl (by simp [Station.runsAtSpeed, fast]))

theorem Lane.unmark_same (v : Lane) (h : ∀ h', v.hold = some h' → h'.release ≠ .tenure) : v.unmark = v := by
  unfold Lane.unmark
  cases e : v.hold with
  | none => rw [Option.map_none, ← e]
  | some h' => rw [Option.map_some, if_neg (h h' e), ← e]

/-- A RUNNING station in the middle of a capture, where no station recovers on a grant or a FREE slot. -/
structure Capturing (s : State) (st : StationId) (l m : LaneId) (f k : Nat) (h : Hold) (x : Slot) : Prop where
  running : (s.station st).state = .running
  flight : (s.station st).inFlight = some f
  active : (s.order st).state = .active
  apart : l ≠ m
  holder : h.station = st
  lane : s.lane l = { hold := some h, carriage := some { station := st, frame := f, slot := k } }
  other : ∀ h', (s.lane m).hold = some h' → h'.station ≠ st ∧ h'.release ≠ .tenure
  slot : s.slot? k = some x
  busy : ∀ u, (s.station u).state ≠ .starved ∧ (s.station u).state ≠ .loopback
  held : s.lanes.waitList = [] ∨ (s.lane m).hold ≠ none

theorem State.halting_lane (s : State) (y : Station) (g : PatternSource → PatternSource) (l : LaneId) :
    (s.halting st y g).lane l = s.lane l := by
  cases l <;> rfl

theorem State.halting_station (s : State) (y : Station) (g : PatternSource → PatternSource) (u : StationId) :
    (s.halting st y g).station u = if u = st then y else s.station u := by
  split
  · next e =>
    subst e
    exact s.station_putStation u y
  · next e => exact s.station_putStation_of_ne y e

theorem Capturing.halting {h : Hold} (c : Capturing s st l m f k h x) (y : Station) (g : PatternSource → PatternSource)
    (flight : y.inFlight = some f) (still : y.runsAtSpeed = false) (busy : y.state ≠ .starved ∧ y.state ≠ .loopback) :
    Halting (s.silent.halting st y g) st l m k x where
  lane := by
    refine State.laneOf_held _ c.apart ?_ ?_
    · rw [State.halting_lane]
      change (s.lane l).heldBy st = true
      rw [c.lane]
      simp [Lane.heldBy, c.holder]
    · rw [State.halting_lane]
      change (s.lane m).heldBy st = false
      cases e : (s.lane m).hold with
      | none => simp [Lane.heldBy, e]
      | some h' => simp [Lane.heldBy, e, (c.other h' e).1]
  apart := c.apart
  carriage := ⟨f, by rw [State.halting_lane]; exact congrArg Lane.carriage c.lane⟩
  slot := c.slot
  flight := by
    rw [State.halting_station, if_pos rfl, flight]
    nofun
  still := by
    rw [State.halting_station, if_pos rfl]
    exact still
  unmarked := by
    rw [State.halting_lane]
    exact Lane.unmark_same _ fun h' e => (c.other h' e).2
  busy u := by
    rw [State.halting_station]
    split
    · exact busy
    · exact c.busy u
  held := by
    rw [State.halting_lane]
    exact c.held
  active := c.active

/-- What a stopped capture leaves of the part beside the station and its reel (R84, R85, R94, R96, R115). -/
structure HaltedWork (s t : State) (st : StationId) (l m : LaneId) (k : Nat) (x : Slot) : Prop where
  sent : t.sent = [.station st .safe]
  slot : t.slot? k = some { Slot.free with planes := x.planes }
  slots : ∀ j, j ≠ k → t.slot? j = s.slot? j
  queue : t.store.queue = s.store.queue
  orders : t.orders = s.orders.set st { s.order st with state := .paused }
  stations : ∀ u, u ≠ st → t.station u = s.station u
  stk : t.stk = s.stk
  engine : t.engine = s.engine
  delivery : t.delivery = s.delivery
  snapshot : t.snapshot = s.snapshot
  settings : SameSettings s t
  kept : FlagsKept s t
  other : t.lane m = s.lane m
  freed : s.lanes.waitList = [] → t.lane l = { hold := none, carriage := none } ∧ t.lanes.waitList = []
  granted : ∀ (u : StationId) (rest : List StationId), s.lanes.waitList = u :: rest → u ≠ st → st ∉ rest →
    (s.lane m).hold ≠ none →
    t.lane l = { hold := some { station := u, tenure := (s.station u).tenure, release := .none }, carriage := none }
      ∧ t.lanes.waitList = rest

/-- A work order that has been PAUSED does not drain. -/
theorem State.paused_rests {w : WorkOrder} (h : u.orders = s.orders.set st { w with state := .paused }) :
    (u.order st).state ≠ .draining := by
  have order : u.order st = { w with state := .paused } := by
    unfold State.order
    rw [h]
    simp
  rw [order]
  nofun

/-- The state once a capture has been stopped, before the alert: the new stations, lanes and registry are those given. -/
def State.haltedWith (s : State) (st : StationId) (k : Nat) (x : Slot) (stations : Vector Station 4) (lanes : Crosspoint)
    (retained : Retained) : State :=
  { s.putSlot k x.cleared with
    sent := [.station st .safe], stations := stations, lanes := lanes, retained := retained
    orders := s.orders.set st { s.order st with state := .paused } }

theorem State.slot?_putSlot (s : State) (e : s.slot? k = some x) (y : Slot) (j : Nat) :
    (s.putSlot k y).slot? j = if k = j then some y else s.slot? j := by
  have eq := s.updSlot_eq_putSlot e (fun _ => y)
  rw [← eq, s.slot?_updSlot, e]
  rfl

theorem Capturing.work {h : Hold} {y : Station} {g : PatternSource → PatternSource} (c : Capturing s st l m f k h x)
    {lanes : Crosspoint} (released : Released (s.silent.halting st y g) l m (s.lanes.waitList.filter (· != st)) lanes)
    {stations : Vector Station 4} (others : ∀ u, u ≠ st → stations[u] = s.station u) (retained : Retained)
    (flag : AlertFlag) (names : Names) :
    HaltedWork s ((s.haltedWith st k x stations lanes retained).raise flag names) st l m k x := by
  have lane : ∀ n, ((s.haltedWith st k x stations lanes retained).raise flag names).lane n
      = ({ s.silent.halting st y g with lanes := lanes } : State).lane n := fun n => by cases n <;> rfl
  exact
  { sent := rfl
    slot := (s.slot?_putSlot c.slot x.cleared k).trans (if_pos rfl)
    slots := fun j other => (s.slot?_putSlot c.slot x.cleared j).trans (if_neg other.symm)
    queue := rfl
    orders := rfl
    stations := others
    stk := rfl
    engine := rfl
    delivery := rfl
    snapshot := rfl
    settings := by
      have same := SameSettings.raise (s.haltedWith st k x stations lanes retained) flag names
      exact ⟨same.queue, same.mask, same.enable, same.rejection, same.clock, same.retainedPassed⟩
    kept := fun a e => FlagsKept.raise (s.haltedWith st k x stations lanes retained) flag names a e
    other := (lane m).trans (released.kept.trans (State.halting_lane _ _ _ _))
    freed := fun list => by
      have kept := released.lane
      have tail := released.list
      rw [list] at kept tail
      exact ⟨(lane l).trans kept, tail⟩
    granted := fun u rest list apart out held => by
      have waits : s.lanes.waitList.filter (· != st) = u :: rest := by
        rw [list]
        refine List.filter_eq_self.mpr fun v mem => ?_
        rcases List.mem_cons.mp mem with e | inRest
        · simp [e, apart]
        · have : v ≠ st := fun e => out (e ▸ inRest)
          simp [this]
      have kept := released.lane
      have tail := released.list
      rw [waits] at kept tail
      refine ⟨(lane l).trans (kept.trans ?_), tail⟩
      have tenure : ((s.silent.halting st y g).station u).tenure = (s.station u).tenure :=
        congrArg Station.tenure ((State.halting_station _ _ _ _).trans (if_neg apart))
      exact congrArg (fun n => ({ hold := some { station := u, tenure := n, release := .none }, carriage := none } : Lane))
        tenure }

/-- The station's record once its capture is abandoned and its film unidentified (R84, R96). -/
def Station.unread (y : Station) : Station := { { y with inFlight := none } with tagRead := none, markRead := none }

/-- BREAK in the middle of a capture, with the station's record `y` once it has stopped (R84). -/
theorem Capturing.breakTaken {h : Hold} (c : Capturing s st l m f k h x) (inside : s.reelIn st = some i)
    (e : s.reel? i = some r) (written : (s.silent.toStation st .safe).updStation st (·.broken) = s.silent.halting st y id)
    (flight : y.inFlight = some f) (broken : y.state = .broken) :
    ∃ lanes, Released (s.silent.halting st y id) l m (s.lanes.waitList.filter (· != st)) lanes
      ∧ s.silent.breakTaken st = (s.haltedWith st k x (s.putStation st y.unread).stations lanes
          (s.setReel i (some { r with custody := .reverify })).retained).raise .filmBreak
            { station := some st, reel := some i, frame := y.lastGate } := by
  have breaks : (s.silent.station st).state.takesBreak = true := by
    rw [show (s.silent.station st).state = .running from c.running]
    rfl
  obtain ⟨lanes, stopped, released⟩ := (c.halting y id flight (Station.still_of_state broken)
    (by rw [broken]; exact ⟨nofun, nofun⟩)).stopped
  rw [(s.silent.halting_station (st := st) y id st).trans (if_pos rfl)] at stopped
  refine ⟨lanes, released, (State.breakTaken_eq s.silent breaks written stopped (z := { y with inFlight := none })
    (State.station_putStation _ _ _) broken inside e (State.paused_rests (s := s) (w := s.order st) rfl)).trans ?_⟩
  have stations : (((s.silent.halting st y id).putStation st { y with inFlight := none }).putStation st y.unread).stations
      = (s.putStation st y.unread).stations := by
    have once := congrArg State.stations ((s.silent.toStation st .safe).putStation_putStation st y y.unread)
    exact (congrArg State.stations ((s.silent.halting st y id).putStation_putStation st _ _)).trans once
  rw [← stations]
  rfl

section Faults

variable {h : Hold} (powered : s.powered = true) (rested : Rested s) (inside : s.reelIn st = some i) (e : s.reel? i = some r)
  (c : Capturing s st l m f k h x)
include powered rested inside e c

/-- BREAK of a RUNNING station in the middle of a capture (R84). -/
theorem exec_filmBreak_capturing : ∃ t, exec (.filmBreak st) s = .next t ∧ HaltedWork s t st l m k x
    ∧ t.flag .filmBreak = true
    ∧ t.station st = { s.station st with
        state := .broken, motion := .stopped, threaded := false, stopPending := .none, inFlight := none
        filter := if (s.station st).motion = .atSpeed then .clear else (s.station st).filter
        tagRead := none, markRead := none }
    ∧ t.reel? i = some { r with custody := .reverify } ∧ ∀ j, j ≠ i → t.reel? j = s.reel? j := by
  have written : (s.silent.toStation st .safe).updStation st (·.broken) = s.silent.halting st { (s.station st).broken with
      filter := if (s.station st).motion = .atSpeed then .clear else (s.station st).filter } id :=
    State.updStation_halts (s.silent.toStation st .safe) (·.broken) c.running rfl
  obtain ⟨lanes, released, taken⟩ := c.breakTaken inside e written c.flight rfl
  refine ⟨_, exec_of_event (fun s => s.breakTaken st) rfl powered taken
    (Rested.raise ((rested.setReel e (q := { r with custody := .reverify })).congr rfl rfl)),
    c.work released (fun u apart => s.station_putStation_of_ne _ apart) _ _ _, ?_, s.station_putStation st _,
    State.reel?_setReel_self s e _, fun j other => ?_⟩
  · exact (State.flag_raise _ .filmBreak .filmBreak _).trans (by simp)
  · exact (State.reel?_setReel s i j _).trans (if_neg fun k => other k.1.symm)

/-- SEIZE of a RUNNING station in the middle of a capture (R85). -/
theorem exec_seize_capturing (b : Byte) (new : FaultName.reported b ∉ (s.station st).faults) :
    ∃ t, exec (.seize st [b]) s = .next t ∧ HaltedWork s t st l m k x ∧ t.flag .stationSeized = true
      ∧ t.station st = { s.station st with
          state := .seized, motion := .stopped
          filter := if (s.station st).motion = .atSpeed then .clear else (s.station st).filter
          inFlight := none, faults := (s.station st).faults ++ [.reported b] }
      ∧ t.reel? i = some r ∧ ∀ j, t.reel? j = s.reel? j := by
  have written : (s.silent.putStation st { s.station st with
      faults := (s.station st).faults ++ [.reported b] }).updStation st
        (fun t => { t with state := .seized, motion := .stopped })
      = s.silent.putStation st { (s.station st).seized ((s.station st).faults ++ [.reported b]) with
          filter := if (s.station st).motion = .atSpeed then .clear else (s.station st).filter } := by
    have record := s.silent.station_putStation st { s.station st with faults := (s.station st).faults ++ [.reported b] }
    rw [State.updStation_halts _ _ (by rw [record]; exact c.running) rfl, record, State.putStation_putStation]
    rfl
  obtain ⟨lanes, stopped, released⟩ := (c.halting { (s.station st).seized ((s.station st).faults ++ [.reported b]) with
    filter := if (s.station st).motion = .atSpeed then .clear else (s.station st).filter } (PatternSource.seized st) c.flight rfl
      ⟨nofun, nofun⟩).stopped
  have record := s.silent.halting_station (st := st) { (s.station st).seized ((s.station st).faults ++ [.reported b]) with
    filter := if (s.station st).motion = .atSpeed then .clear else (s.station st).filter } (PatternSource.seized st) st
  rw [if_pos rfl] at record
  rw [record] at stopped
  have running : (s.silent.station st).state = .running := c.running
  have taken := State.seizeTaken_eq s.silent b (by rw [running]; rfl) (by rw [running]; nofun)
    (s.silent.seize_written b new written) stopped inside (State.paused_rests (s := s) (w := s.order st) rfl)
  generalize halted : ({ (s.station st).seized ((s.station st).faults ++ [.reported b]) with
    filter := if (s.station st).motion = .atSpeed then .clear else (s.station st).filter } : Station) = y at *
  have others : ∀ u, u ≠ st → ((s.silent.halting st y (PatternSource.seized st)).putStation st
      { y with inFlight := none }).stations[u] = s.station u := fun u apart =>
    (State.station_putStation_of_ne _ _ apart).trans
      ((s.silent.halting_station y (PatternSource.seized st) u).trans (if_neg apart))
  have same : s.silent.seizeTaken st [b] = (s.haltedWith st k x ((s.silent.halting st y (PatternSource.seized st)).putStation st
      { y with inFlight := none }).stations lanes s.retained).raise .stationSeized { station := some st, reel := some i } := taken
  refine ⟨_, exec_of_event (fun s => s.seizeTaken st [b]) rfl powered same (Rested.raise (rested.congr rfl rfl)),
    c.work released others _ _ _, ?_, ?_, e, fun j => rfl⟩
  · exact (State.flag_raise _ .stationSeized .stationSeized _).trans (by simp)
  · refine (State.station_putStation (s.silent.halting st y (PatternSource.seized st)) st { y with inFlight := none }).trans ?_
    rw [← halted]
    rfl

end Faults

/-- Settles O40: a station without work first, then one in the middle of a capture. -/
theorem faultsStopTheStation : Obligations.FaultsStopTheStation := by
  unfold Obligations.FaultsStopTheStation
  refine ⟨fun s st i r powered rested inside e lane list unmarked idle closed => ?_,
    fun s st l m i f k r x h b powered rested inside e running flight active apart holder carries other slot busy new => ?_⟩
  · have work : Workless s st := ⟨lane, list, unmarked, closed⟩
    refine ⟨fun film => exec_filmBreak_idle powered rested inside e work idle film, fun deaf => ?_,
      fun b new still other => exec_seize_idle powered rested b new inside work idle other still, fun b new seized => ?_⟩
    · refine exec_of_event (fun s => s.breakTaken st) rfl powered (s.silent.breakTaken_deaf ?_) rested.silent
      have same : s.silent.station st = s.station st := rfl
      rw [same]
      rcases deaf with h | h | h | h <;> rw [h] <;> rfl
    · exact exec_of_event (fun s => s.seizeTaken st [b]) rfl powered (s.silent.seizeTaken_again b seized new)
        rested.silent.putStation
  · intro filter stopped held
    have c : Capturing s st l m f k h x := ⟨running, flight, active, apart, holder, carries, other, slot, busy, held⟩
    have stops : ∀ t, HaltedWork s t st l m k x → (∀ j, j ≠ i → t.reel? j = s.reel? j) → stopped t := fun t w reels =>
      ⟨w.sent, w.slot, w.slots, w.queue, w.orders, reels, w.stations, w.stk, w.engine, w.delivery, w.snapshot, w.settings,
        w.kept, w.other, w.freed, w.granted⟩
    obtain ⟨t, run, work, raised, record, reel, reels⟩ := exec_filmBreak_capturing powered rested inside e c
    obtain ⟨t', run', work', raised', record', reel', reels'⟩ := exec_seize_capturing powered rested inside e c b new
    exact ⟨⟨t, run, stops t work reels, raised, record, reel⟩,
      t', run', stops t' work' fun j _ => reels' j, raised', record', reel'⟩

end Sys2Proof.Machine
end

section
/-!
PROOFS. What recovering and granting lanes to other stations leaves of a station and of its work order (R82, R87, R90, R94).
-/

-- One proof after another, as in the model's tests: each thread's stack counts against the memory limit.
set_option Elab.async false

namespace Sys2Proof.Machine

variable {s t v : State} {i k f : Nat} {r : Reel} {st u : StationId} {b : OrderBody} {l m : LaneId} {x y : Slot}

/-- A registered reel that belongs to no work order and whose passes have all ended (R24). -/
def Settled (s : State) (i : Nat) : Prop :=
  ∃ r, s.reel? i = some r ∧ r.order = none ∧ ∀ p ∈ r.history, p.outcome ≠ .running

/-- No other station's work order names a reel. -/
def Unnamed (s : State) (st : StationId) (i : Nat) : Prop :=
  ∀ u b, u ≠ st → (s.order u).body = some b → b.reel ≠ some i

/-- Work beside station `st`: what other stations do leaves its record, its work order and its slots, ends no reel's rest
that their work orders do not name, and places no reply. -/
structure Beside (st : StationId) (s t : State) : Prop extends Onward s t where
  station : t.station st = s.station st
  order : t.order st = s.order st
  bodies : ∀ u, (t.order u).body = (s.order u).body
  replies : t.link.outbound.filter (·.isReply) = s.link.outbound.filter (·.isReply)
  slotsBack : ∀ k y, t.slot? k = some y → y.order = some st → s.slot? k = some y
  slotsKept : ∀ k x, s.slot? k = some x → x.state ≠ .free → t.slot? k = some x
  reels : ∀ i, s.reel? i ≠ none → t.reel? i ≠ none
  settled : ∀ i, Unnamed s st i → Settled s i → Settled t i

theorem Beside.refl (s : State) : Beside st s s :=
  ⟨.refl s, rfl, rfl, fun _ => rfl, rfl, fun _ _ e _ => e, fun _ _ e _ => e, fun _ h => h, fun _ _ h => h⟩

theorem Unnamed.bodies (h : Unnamed s st i) (bodies : ∀ u, (t.order u).body = (s.order u).body) : Unnamed t st i :=
  fun u b other e => h u b other (bodies u ▸ e)

theorem Beside.trans (h : Beside st s t) (g : Beside st t v) : Beside st s v where
  toOnward := h.toOnward.trans g.toOnward
  station := g.station.trans h.station
  order := g.order.trans h.order
  bodies u := (g.bodies u).trans (h.bodies u)
  replies := g.replies.trans h.replies
  slotsBack k y e mine := h.slotsBack k y (g.slotsBack k y e mine) mine
  slotsKept k x e used := g.slotsKept k x (h.slotsKept k x e used) used
  reels i e := g.reels i (h.reels i e)
  settled i unnamed e := g.settled i (unnamed.bodies h.bodies) (h.settled i unnamed e)

/-- Work that touches no record, no slot and no reel. -/
theorem Beside.onward (h : Onward s t) (stations : t.station st = s.station st) (orders : t.orders = s.orders)
    (store : t.store = s.store) (retained : t.retained = s.retained)
    (replies : t.link.outbound.filter (·.isReply) = s.link.outbound.filter (·.isReply)) : Beside st s t where
  toOnward := h
  station := stations
  order := congrArg (·[st]) orders
  bodies u := congrArg (fun o => o[u].body) orders
  replies := replies
  slotsBack k y e _ := by rwa [State.slot?, store] at e
  slotsKept k x e _ := by rwa [State.slot?, store]
  reels i e := by rwa [State.reel?_congr retained]
  settled i _ := by
    unfold Settled
    rw [State.reel?_congr retained]
    exact id

theorem Beside.lanes (s : State) (lanes : Crosspoint) : Beside st s { s with lanes := lanes } :=
  .onward (.quiet rfl rfl rfl) rfl rfl rfl rfl rfl

theorem Beside.updStation (s : State) (other : u ≠ st) (g : Station → Station) : Beside st s (s.updStation u g) :=
  .onward (.quiet rfl rfl rfl) (by rw [State.station_updStation, if_neg other.symm]) rfl rfl rfl rfl

theorem Beside.raise (s : State) (f : AlertFlag) (n : Names) : Beside st s (s.raise f n) :=
  .onward ⟨rfl, .raise s f n, fun _ h => h⟩ rfl rfl rfl rfl (s.raise_replies f n)

theorem Beside.toStation (s : State) (u : StationId) (c : StationCommand) : Beside st s (s.toStation u c) :=
  .onward ⟨rfl, .of_link rfl, fun _ h => List.mem_append_left _ h⟩ rfl rfl rfl rfl rfl

theorem Beside.setLane (s : State) (l : LaneId) (v : Lane) : Beside st s (s.setLane l v) := by
  rw [State.setLane_eq]
  exact .lanes s _

theorem Beside.updSource (s : State) (g : PatternSource → PatternSource) : Beside st s (s.updSource g) := .lanes s _

/-! ### Reels -/

/-- A rewritten record that belongs to a work order no more than before, and whose passes run no more than before. -/
theorem Beside.updReel (s : State) (i : Nat) (g : Reel → Reel) (order : ∀ r, r.order = none → (g r).order = none)
    (history : ∀ r, (∀ p ∈ r.history, p.outcome ≠ .running) → ∀ p ∈ (g r).history, p.outcome ≠ .running) :
    Beside st s (s.updReel i g) where
  toOnward := .quiet (by simp) (by simp) (by simp)
  station := by simp [State.station]
  order := by simp [State.order]
  bodies u := by simp [State.order]
  replies := by simp
  slotsBack k y e _ := by simpa [State.slot?] using e
  slotsKept k x e _ := by simpa [State.slot?] using e
  reels j e := by
    rw [State.reel?_updReel]
    split
    · next h =>
      subst h
      rw [Ne, Option.map_eq_none_iff]
      exact e
    · exact e
  settled j _ := by
    rintro ⟨r, e, free, ended⟩
    unfold Settled
    rw [State.reel?_updReel]
    split
    · next h =>
      subst h
      exact ⟨g r, by rw [e]; rfl, order r free, history r ended⟩
    · exact ⟨r, e, free, ended⟩

theorem Reel.updRunning_ended (r : Reel) (g : PassRecord → PassRecord) (ended : ∀ p ∈ r.history, p.outcome ≠ .running) :
    (r.updRunning g).history = r.history := by
  rw [Reel.updRunning_eq]
  exact (List.map_congr_left fun p m => if_neg (ended p m)).trans (List.map_id' _)

theorem Beside.updRunning (s : State) (i : Nat) (g : PassRecord → PassRecord) : Beside st s (s.updRunning i g) :=
  .updReel s i _ (fun _ free => free) fun r ended => by rwa [r.updRunning_ended g ended]

/-- A pass that another work order begins is one of its own reel (R110). -/
theorem Beside.beginPass (s : State) (other : u ≠ st) (body : (s.order u).body = some b) (reel : b.reel = some i) :
    Beside st s (s.beginPass u i) where
  toOnward := .quiet (by simp [State.beginPass]) (by simp [State.beginPass]) (by simp [State.beginPass])
  station := by simp [State.beginPass, State.station]
  order := by simp [State.beginPass, State.order]
  bodies v := by simp [State.beginPass, State.order]
  replies := by simp [State.beginPass]
  slotsBack k y e _ := by simpa [State.beginPass, State.slot?] using e
  slotsKept k x e _ := by simpa [State.beginPass, State.slot?] using e
  reels j e := by
    unfold State.beginPass
    rw [State.reel?_updReel]
    split
    · next h =>
      subst h
      rw [Ne, Option.map_eq_none_iff]
      exact e
    · exact e
  settled j unnamed := by
    rintro ⟨r, e, rest⟩
    have apart : i ≠ j := fun h => unnamed u b other body (h ▸ reel)
    refine ⟨r, ?_, rest⟩
    unfold State.beginPass
    rw [State.reel?_updReel, if_neg apart]
    exact e

theorem Beside.passBegun (s : State) (other : u ≠ st) :
    Beside st s (s.updOrder u (fun w => { w with passBegun := true })) where
  toOnward := .quiet rfl rfl rfl
  station := rfl
  order := (s.order_updOrder u st _).trans (if_neg other.symm)
  bodies v := by
    rw [State.order_updOrder]
    split
    · next h => rw [h]
    · rfl
  replies := rfl
  slotsBack k y e _ := e
  slotsKept k x e _ := e
  reels j e := e
  settled j _ e := e

theorem State.body_of_openBody (s : State) (opened : s.openBody? u = some b) : (s.order u).body = some b := by
  unfold State.openBody? at opened
  split at opened
  · exact opened
  · cases opened

theorem Beside.beginPassIfFirst (s : State) (other : u ≠ st) : Beside st s (s.beginPassIfFirst u) := by
  unfold State.beginPassIfFirst
  split
  · exact .refl s
  · next i reel =>
    obtain ⟨b, opened, reel⟩ := Option.bind_eq_some_iff.mp reel
    split
    · exact .refl s
    · have body : ((s.updOrder u (fun w => { w with passBegun := true })).order u).body = some b := by
        rw [State.order_updOrder, if_pos rfl]
        exact s.body_of_openBody opened
      exact (Beside.passBegun s other).trans (Beside.beginPass _ other body reel)

/-! ### Captures of other stations -/

theorem State.freeSlot_free (s : State) (h : s.freeSlot = some k) : ∃ y, s.slot? k = some y ∧ y.state = .free := by
  obtain ⟨y, e⟩ := s.slot?_freeSlot h
  refine ⟨y, e, ?_⟩
  unfold State.freeSlot State.findSlot at h
  obtain ⟨lt, free, -⟩ := List.findIdx?_eq_some_iff_getElem.mp h
  have same : s.store.slots.toList[k] = y := by
    unfold State.slot? at e
    rw [Vector.getElem?_eq_some_iff] at e
    obtain ⟨lt', e⟩ := e
    simpa using e
  rw [same] at free
  simpa using free

/-- A FREE slot taken by another station (R119). -/
theorem Beside.takeSlot (s : State) (other : u ≠ st) (slot : s.freeSlot = some k) (g : Slot → Slot)
    (mine : ∀ y, (g y).order = some u) : Beside st s (s.updSlot k g) where
  toOnward := .quiet (by simp) (by simp) (by simp)
  station := by simp [State.station]
  order := by simp [State.order]
  bodies v := by simp [State.order]
  replies := by simp
  slotsBack j y e held := by
    rw [State.slot?_updSlot] at e
    split at e
    · obtain ⟨z, -, rfl⟩ := Option.map_eq_some_iff.mp e
      rw [mine] at held
      exact absurd (Option.some.inj held) other
    · exact e
  slotsKept j x e used := by
    obtain ⟨y, found, free⟩ := s.freeSlot_free slot
    rw [State.slot?_updSlot, if_neg]
    · exact e
    · intro h
      subst h
      rw [found] at e
      exact used (Option.some.inj e ▸ free)
  reels j e := by rwa [State.reel?_congr (State.updSlot_retained _ _ _)]
  settled j _ := by
    unfold Settled
    rw [State.reel?_congr (State.updSlot_retained _ _ _)]
    exact id

theorem Beside.beginCapture (s : State) (other : u ≠ st) (f : Nat) : Beside st s (s.beginCapture u f) := by
  cases lane : s.laneOf u with
  | none =>
    have idle : s.beginCapture u f = s := by simp only [State.beginCapture, lane]
    rw [idle]
    exact .refl s
  | some l =>
    cases slot : s.freeSlot with
    | none =>
      have idle : s.beginCapture u f = s := by simp only [State.beginCapture, lane, slot]
      rw [idle]
      exact .refl s
    | some k =>
      rw [s.beginCapture_eq f lane slot]
      exact (((Beside.takeSlot s other slot _ fun _ => rfl).trans (.setLane _ l _)).trans (.updStation _ other _)).trans
        (.beginPassIfFirst _ other)

theorem Beside.preroll (s : State) (other : u ≠ st) : Beside st s (s.preroll u) := by
  unfold State.preroll
  split
  · exact (Beside.toStation s u _).trans (.updStation _ other _)
  · exact .refl s

theorem Beside.takeFallback (s : State) (other : u ≠ st) : Beside st s (s.takeFallback u) := by
  cases e : (s.station u).fallback with
  | none =>
    rw [s.takeFallback_none e]
    exact .refl s
  | some p =>
    rw [s.takeFallback_eq e]
    refine Beside.trans ?_ (.raise _ _ _)
    unfold State.lowered
    cases s.reelIn u with
    | none => exact Beside.updStation s other (·.fallen p)
    | some i => exact (Beside.updStation s other _).trans (.updRunning _ i _)

theorem Beside.offerFrame (s : State) (other : u ≠ st) : Beside st s (s.offerFrame u) := by
  unfold State.offerFrame
  split
  · exact .refl s
  · split
    · exact (Beside.updSource s _).trans (.beginCapture _ other _)
    · exact (Beside.updSource s _).trans (.raise _ _ _)

theorem Beside.recover (s : State) (other : u ≠ st) : Beside st s (s.recover u) := by
  unfold State.recover
  dsimp only
  split
  · exact .refl s
  · split
    · split
      · exact .refl s
      · split
        · split
          · exact (Beside.beginCapture s other _).trans (.updStation _ other _)
          · exact .preroll s other
        · exact (Beside.takeFallback s other).trans (.preroll _ other)
    · split
      · exact .offerFrame s other
      · exact .refl s

/-- A station whose work order is CLOSED has no target and recovers nothing (R79, R82, R87). -/
theorem State.recover_closed (s : State) (closed : (s.order u).state = .closed) : s.recover u = s := by
  have target : s.target u = none := by simp only [State.target, State.openBody?, s.hasOrder_closed closed]; rfl
  have feeds : s.mayFeed u = false := by simp [State.mayFeed, closed]
  unfold State.recover
  simp [target, feeds]

/-- A FREE slot offered to the stations after the work order of `st` has closed (R126). -/
theorem Beside.offerSlots (s : State) (closed : (s.order st).state = .closed) : Beside st s s.offerSlots := by
  have all : ∀ (L : List StationId) (v : State), (v.order st).state = .closed → Beside st v (L.foldl State.recover v) := by
    intro L
    induction L with
    | nil => exact fun v _ => .refl v
    | cons u rest ih =>
      intro v closed
      rw [List.foldl_cons]
      by_cases e : u = st
      · subst e
        rw [v.recover_closed closed]
        exact ih v closed
      · have one := Beside.recover v e
        exact one.trans (ih _ (by rw [one.order]; exact closed))
  exact all _ s closed

/-! ### Lanes granted -/

theorem Beside.withdrawMarks (s : State) : Beside st s s.withdrawMarks := by
  obtain ⟨lanes, e⟩ := s.withdrawMarks_eq
  rw [e]
  exact .lanes s lanes

/-- A lane granted to a station that waits: it is another one. -/
theorem Beside.grantLane (s : State) (out : st ∉ s.lanes.waitList) : Beside st s s.grantLane := by
  cases free : s.freeLane with
  | none =>
    rw [s.grantLane_idle (.inl free)]
    exact .refl s
  | some l =>
    cases list : s.lanes.waitList with
    | nil =>
      rw [s.grantLane_idle (.inr list)]
      exact .refl s
    | cons u rest =>
      have other : u ≠ st := fun e => out (by rw [list, e]; exact List.mem_cons_self)
      rw [s.grantLane_eq free list]
      refine Beside.trans ?_ (.recover _ other)
      obtain ⟨lanes, granted⟩ := s.granted_eq l u rest
      rw [granted]
      exact .lanes s lanes

theorem State.grantLane_waitList (s : State) : ∀ u ∈ s.grantLane.lanes.waitList, u ∈ s.lanes.waitList := by
  cases free : s.freeLane with
  | none => rw [s.grantLane_idle (.inl free)]; exact fun _ h => h
  | some l =>
    cases list : s.lanes.waitList with
    | nil => rw [s.grantLane_idle (.inr list), list]; exact fun _ h => h
    | cons u rest =>
      rw [s.grantLane_eq free list, (SameHolders.recover _ u).waitList, State.granted_waitList]
      exact fun _ h => List.mem_cons_of_mem _ h

/-- Who holds a lane after a grant held it before or waited (R90). -/
theorem State.grantLane_heldBy (s : State) (m : LaneId) (h : (s.grantLane.lane m).heldBy u = true) :
    (s.lane m).heldBy u = true ∨ u ∈ s.lanes.waitList := by
  cases free : s.freeLane with
  | none => rw [s.grantLane_idle (.inl free)] at h; exact .inl h
  | some l =>
    cases list : s.lanes.waitList with
    | nil => rw [s.grantLane_idle (.inr list)] at h; exact .inl h
    | cons w rest =>
      rw [s.grantLane_eq free list, (SameHolders.recover _ w).heldBy] at h
      have holders := (SameHolders.withdrawMarks { s.setLane l (s.grantedLane w) with
        lanes := { (s.setLane l (s.grantedLane w)).lanes with waitList := rest } }).heldBy m u
      have h : (({ s.setLane l (s.grantedLane w) with
        lanes := { (s.setLane l (s.grantedLane w)).lanes with waitList := rest } } : State).lane m).heldBy u = true :=
        holders ▸ h
      have same : ({ s.setLane l (s.grantedLane w) with
          lanes := { (s.setLane l (s.grantedLane w)).lanes with waitList := rest } } : State).lane m
        = (s.setLane l (s.grantedLane w)).lane m := by cases m <;> rfl
      rw [same, State.lane_setLane] at h
      split at h
      · have e : w = u := by simpa [State.grantedLane, Lane.heldBy] using h
        exact .inr (e ▸ List.mem_cons_self)
      · exact .inl h

/-- A grant to a station that recovers nothing changes the lanes alone. -/
theorem State.grantLane_quiet (s : State)
    (busy : ∀ u ∈ s.lanes.waitList, (s.station u).state ≠ .starved ∧ (s.station u).state ≠ .loopback) :
    ∃ lanes, s.grantLane = { s with lanes := lanes } := by
  cases free : s.freeLane with
  | none => exact ⟨s.lanes, s.grantLane_idle (.inl free)⟩
  | some l =>
    cases list : s.lanes.waitList with
    | nil => exact ⟨s.lanes, s.grantLane_idle (.inr list)⟩
    | cons u rest =>
      obtain ⟨starved, pattern⟩ := busy u (by rw [list]; exact List.mem_cons_self)
      have same := s.granted_station l u u rest
      obtain ⟨lanes, granted⟩ := s.granted_eq l u rest
      refine ⟨lanes, ?_⟩
      rw [s.grantLane_eq free list, State.recover_busy _ (by rw [same]; exact starved) (by rw [same]; exact pattern), granted]

end Sys2Proof.Machine
end

section
/-!
PROOFS. Lanes left beside other stations, and a stop given to a station (R83, R89, R94, R96).
-/

-- One proof after another, as in the model's tests: each thread's stack counts against the memory limit.
set_option Elab.async false

namespace Sys2Proof.Machine

variable {s t v : State} {i k f : Nat} {r : Reel} {st u : StationId} {b : OrderBody} {l m : LaneId} {x y : Station}

/-! ### Lanes left (R96) -/

theorem State.leaveWaitList_eq (s : State) (st : StationId) : ∃ lanes, s.leaveWaitList st = { s with lanes := lanes } :=
  State.withdrawMarks_eq ({ s with lanes := { s.lanes with waitList := s.lanes.waitList.filter (· != st) } } : State)

theorem State.leaveWaitList_waitList (s : State) (st : StationId) :
    (s.leaveWaitList st).lanes.waitList = s.lanes.waitList.filter (· != st) :=
  State.withdrawMarks_waitList ({ s with lanes := { s.lanes with waitList := s.lanes.waitList.filter (· != st) } } : State)

theorem State.mem_leaveWaitList (s : State) (st : StationId) (h : u ∈ (s.leaveWaitList st).lanes.waitList) :
    u ∈ s.lanes.waitList ∧ u ≠ st := by
  rw [s.leaveWaitList_waitList st] at h
  simpa using h

theorem State.leaveWaitList_heldBy (s : State) (st u : StationId) (l : LaneId) :
    ((s.leaveWaitList st).lane l).heldBy u = (s.lane l).heldBy u := by
  refine ((SameHolders.withdrawMarks
    ({ s with lanes := { s.lanes with waitList := s.lanes.waitList.filter (· != st) } } : State)).heldBy l u).trans ?_
  cases l <;> rfl

theorem State.leaveWaitList_laneOf (s : State) (st : StationId) : (s.leaveWaitList st).laneOf u = s.laneOf u :=
  (SameHolders.withdrawMarks
    ({ s with lanes := { s.lanes with waitList := s.lanes.waitList.filter (· != st) } } : State)).laneOf u

theorem State.leaveLanes_none (s : State) (lane : s.laneOf st = none) : s.leaveLanes st = s.leaveWaitList st := by
  unfold State.leaveLanes
  simp only [(s.leaveWaitList_laneOf st).trans lane]

theorem State.leaveLanes_some (s : State) (lane : s.laneOf st = some l) :
    s.leaveLanes st = (((s.leaveWaitList st).setLane l .free).grantLane).grantLane := by
  unfold State.leaveLanes
  simp only [(s.leaveWaitList_laneOf st).trans lane]
  rfl

/-- The lanes a station leaves go to others (R94, R96). -/
theorem Beside.leaveLanes (s : State) (st : StationId) : Beside st s (s.leaveLanes st) := by
  have left : Beside st s (s.leaveWaitList st) := by
    obtain ⟨lanes, e⟩ := s.leaveWaitList_eq st
    rw [e]
    exact .lanes s lanes
  cases lane : s.laneOf st with
  | none => rwa [s.leaveLanes_none lane]
  | some l =>
    have out : st ∉ ((s.leaveWaitList st).setLane l .free).lanes.waitList := fun h => by
      rw [State.setLane_waitList] at h
      exact (s.mem_leaveWaitList st h).2 rfl
    rw [s.leaveLanes_some lane]
    exact ((left.trans (.setLane _ l _)).trans (.grantLane _ out)).trans
      (.grantLane _ fun h => out (State.grantLane_waitList _ st h))

theorem State.mem_leaveLanes (s : State) (st : StationId) (h : u ∈ (s.leaveLanes st).lanes.waitList) :
    u ∈ s.lanes.waitList ∧ u ≠ st := by
  cases lane : s.laneOf st with
  | none => exact s.mem_leaveWaitList st (s.leaveLanes_none lane ▸ h)
  | some l =>
    rw [s.leaveLanes_some lane] at h
    have h := State.grantLane_waitList _ u (State.grantLane_waitList _ u h)
    rw [State.setLane_waitList] at h
    exact s.mem_leaveWaitList st h

/-- Who holds a lane once station `st` has left the lanes: it held it in the state with `st`'s lane FREE, or it waited. -/
theorem State.leaveLanes_heldBy (s : State) (lane : s.laneOf st = some l) (h : ((s.leaveLanes st).lane m).heldBy u = true) :
    (((s.leaveWaitList st).setLane l .free).lane m).heldBy u = true ∨ (u ∈ s.lanes.waitList ∧ u ≠ st) := by
  have waits : ∀ w, w ∈ ((s.leaveWaitList st).setLane l .free).lanes.waitList → w ∈ s.lanes.waitList ∧ w ≠ st := fun w h => by
    rw [State.setLane_waitList] at h
    exact s.mem_leaveWaitList st h
  rw [s.leaveLanes_some lane] at h
  rcases State.grantLane_heldBy _ m h with h | h
  · exact (State.grantLane_heldBy _ m h).imp_right (waits u)
  · exact .inr (waits u (State.grantLane_waitList _ u h))

/-- A station that has left the lanes holds none (R96). -/
theorem LanesExclusive.laneOf_left (e : LanesExclusive s) : (s.leaveLanes st).laneOf st = none := by
  cases lane : s.laneOf st with
  | none => rw [s.leaveLanes_none lane, s.leaveWaitList_laneOf, lane]
  | some l =>
    have freed := (e.leaveWaitList s st).laneOf_freed ((s.leaveWaitList_laneOf st).trans lane)
    refine (State.laneOf_none _ _).mpr fun m => Bool.eq_false_iff.mpr fun h => ?_
    rcases s.leaveLanes_heldBy lane h with h | h
    · rw [(State.laneOf_none _ _).mp freed m] at h
      cases h
    · exact h.2 rfl

/-- The lane a station gives up is held by one that waited, if by any (R94). -/
theorem State.leaveLanes_holder (s : State) (lane : s.laneOf st = some l) {h : Hold}
    (held : ((s.leaveLanes st).lane l).hold = some h) : h.station ∈ s.lanes.waitList := by
  have holds : ((s.leaveLanes st).lane l).heldBy h.station = true := by simp [Lane.heldBy, held]
  rcases s.leaveLanes_heldBy lane holds with free | waits
  · rw [State.lane_setLane, if_pos rfl] at free
    cases free
  · exact waits.1

/-- Where no other station that waits recovers on a grant, the lanes alone change. -/
theorem State.leaveLanes_lanes (s : State) (st : StationId) (busy : ∀ u ∈ s.lanes.waitList, u ≠ st →
      (s.station u).state ≠ .starved ∧ (s.station u).state ≠ .loopback) :
    ∃ lanes, s.leaveLanes st = { s with lanes := lanes } := by
  obtain ⟨lanes, left⟩ := s.leaveWaitList_eq st
  cases lane : s.laneOf st with
  | none => exact ⟨lanes, (s.leaveLanes_none lane).trans left⟩
  | some l =>
    have freed : ∃ lanes, (s.leaveWaitList st).setLane l .free = { s with lanes := lanes } := by
      rw [left, State.setLane_eq]
      exact ⟨_, rfl⟩
    have waits : ∀ u ∈ ((s.leaveWaitList st).setLane l .free).lanes.waitList, (s.station u).state ≠ .starved
        ∧ (s.station u).state ≠ .loopback := fun u h => by
      rw [State.setLane_waitList] at h
      obtain ⟨mem, other⟩ := s.mem_leaveWaitList st h
      exact busy u mem other
    rw [s.leaveLanes_some lane]
    obtain ⟨lanes1, e1⟩ := freed
    rw [e1] at waits ⊢
    obtain ⟨lanes2, e2⟩ := State.grantLane_quiet { s with lanes := lanes1 } waits
    have waits2 : ∀ u ∈ ({ s with lanes := lanes2 } : State).lanes.waitList, (s.station u).state ≠ .starved
        ∧ (s.station u).state ≠ .loopback := fun u h => by
      refine waits u (State.grantLane_waitList _ u ?_)
      rw [e2]
      exact h
    rw [e2]
    exact State.grantLane_quiet { s with lanes := lanes2 } waits2

/-! ### A stop pending (R83) -/

/-- A change after which the station does not run at speed clears the filter of one that did (R73). -/
theorem State.updStation_stopping (s : State) (g : Station → Station) (after : (g (s.station st)).runsAtSpeed = false) :
    s.updStation st g = s.putStation st { g (s.station st) with
      filter := if (s.station st).runsAtSpeed then .clear else (g (s.station st)).filter } := by
  cases runs : (s.station st).runsAtSpeed with
  | true => exact s.updStation_stops st g runs after
  | false => exact s.updStation_eq_putStation st g (.inl runs)

/-- The transport is under drive and continuous: a stop sends it RAMP DOWN (R83). -/
def Station.ramps (x : Station) : Bool :=
  x.state != .loopback && !x.isStep && (x.motion == .prerolling || x.motion == .atSpeed)

theorem Station.ramps_iff (x : Station) : x.ramps = true ↔
    x.state ≠ .loopback ∧ x.isStep = false ∧ (x.motion = .prerolling ∨ x.motion = .atSpeed) := by
  simp [Station.ramps, and_assoc]

/-- The record of a station that has taken a stop (R73, R83). -/
def Station.marked (x : Station) (p : StopPending) : Station :=
  if x.ramps then
    { x with stopPending := p, motion := .ramping, filter := if x.runsAtSpeed then .clear else x.filter }
  else { x with stopPending := p }

/-- What a stop sends the station (R83). -/
def Station.rampDown (x : Station) (st : StationId) : List Emission := if x.ramps then [.station st .rampDown] else []

/-- The state with a station's record written and emissions sent. -/
def State.marking (s : State) (st : StationId) (y : Station) (e : List Emission) : State :=
  { s.putStation st y with sent := s.sent ++ e }

theorem State.markStop_eq (s : State) (p : StopPending) (takes : (s.station st).takesStop = true) :
    s.markStop st p = (s.marking st ((s.station st).marked p) ((s.station st).rampDown st)).leaveWaitList st := by
  have pending := s.updStation_sameSpeed st (fun t => { t with stopPending := p }) rfl
  have record := s.station_putStation st { s.station st with stopPending := p }
  unfold State.markStop
  simp only [takes, Bool.true_eq_false, if_false, pending]
  refine congrArg (fun v : State => v.leaveWaitList st) ?_
  by_cases ramps : (s.station st).ramps = true
  · rw [if_pos ((Station.ramps_iff _).mp ramps), Station.marked, Station.rampDown, if_pos ramps, if_pos ramps]
    refine (State.updStation_stopping ((s.putStation st { s.station st with stopPending := p }).toStation st .rampDown)
      (fun t => { t with motion := .ramping }) (by simp [Station.runsAtSpeed])).trans ?_
    have record' : ((s.putStation st { s.station st with stopPending := p }).toStation st .rampDown).station st
        = { s.station st with stopPending := p } := record
    rw [record']
    exact congrArg (fun v : State => { v with sent := s.sent ++ [Emission.station st .rampDown] }) (s.putStation_putStation st _ _)
  · rw [if_neg (mt (Station.ramps_iff _).mpr ramps), Station.marked, Station.rampDown, if_neg ramps, if_neg ramps]
    unfold State.marking
    rw [List.append_nil]
    rfl

/-- A capture in flight keeps a station from halting (R83). -/
theorem State.haltIfDone_flight (s : State) (flight : (s.station st).inFlight ≠ none) : s.haltIfDone st = s :=
  if_pos (.inr (.inl (Option.isSome_iff_ne_none.mpr flight)))

/-- The states of a station under drive that a stop halts (R83). -/
def StationState.halts (x : StationState) : Prop := x = .running ∨ x = .starved ∨ x = .threaded ∨ x = .halted

/-- With a stop pending and no capture in flight the station enters HALTED and leaves the lanes (R83, R96). -/
theorem State.haltIfDone_halts (s : State) (pending : (s.station st).stopPending ≠ .none)
    (idle : (s.station st).inFlight = none) (halts : (s.station st).state.halts) :
    s.haltIfDone st = (s.putStation st { s.station st with
      state := .halted, stopPending := .none, motion := .stopped
      filter := if (s.station st).runsAtSpeed then .clear else (s.station st).filter }).leaveLanes st := by
  have film : (s.station st).state ≠ .loopback := by rcases halts with h | h | h | h <;> rw [h] <;> nofun
  have stays : ((s.station st).state != .running && (s.station st).state != .starved && (s.station st).state != .threaded
      && (s.station st).state != .halted && (s.station st).state != .loopback) = false := by
    rcases halts with h | h | h | h <;> rw [h] <;> rfl
  have stopping := s.updStation_stopping (st := st) (fun t => { t with state := .halted, stopPending := .none, motion := .stopped })
    rfl
  unfold State.haltIfDone
  simp only [stays, idle, Option.isSome_none, Bool.false_eq_true, or_false, if_neg pending, if_neg film, stopping]

theorem Station.marked_state (x : Station) (p : StopPending) : (x.marked p).state = x.state := by
  unfold Station.marked
  split <;> rfl

theorem Station.marked_stopPending (x : Station) (p : StopPending) : (x.marked p).stopPending = p := by
  unfold Station.marked
  split <;> rfl

theorem Station.marked_inFlight (x : Station) (p : StopPending) : (x.marked p).inFlight = x.inFlight := by
  unfold Station.marked
  split <;> rfl

/-- The record of a station that a stop has halted (R73, R83). -/
def Station.stoppedRecord (x : Station) : Station :=
  { x with
    state := .halted, motion := .stopped, stopPending := .none
    filter := if x.runsAtSpeed then .clear else x.filter }

theorem Station.marked_halted (x : Station) (p : StopPending) :
    ({ x.marked p with
        state := .halted, stopPending := .none, motion := .stopped
        filter := if (x.marked p).runsAtSpeed then .clear else (x.marked p).filter } : Station) = x.stoppedRecord := by
  unfold Station.marked Station.stoppedRecord
  split
  · have still : ({ x with
        stopPending := p, motion := .ramping, filter := if x.runsAtSpeed then .clear else x.filter } : Station).runsAtSpeed
        = false := by simp [Station.runsAtSpeed]
    rw [still]
    rfl
  · rfl

/-- The state of a station that a stop halts at once, before it leaves the lanes (R83, R89). -/
def State.stopping (s : State) (st : StationId) : State :=
  { s.marking st (s.station st).stoppedRecord ((s.station st).rampDown st) with lanes := (s.leaveWaitList st).lanes }

theorem State.withdrawMarks_congr (h : t.lanes = s.lanes) : t.withdrawMarks = { t with lanes := s.withdrawMarks.lanes } := by
  unfold State.withdrawMarks
  by_cases empty : s.lanes.waitList.isEmpty = true
  · rw [if_pos empty, if_pos (h ▸ empty), h]
  · rw [if_neg empty, if_neg (h ▸ empty), ← h]

theorem State.leaveWaitList_marking (s : State) (y : Station) (e : List Emission) :
    (s.marking st y e).leaveWaitList st = { s.marking st y e with lanes := (s.leaveWaitList st).lanes } :=
  State.withdrawMarks_congr
    (s := { s with lanes := { s.lanes with waitList := s.lanes.waitList.filter (· != st) } })
    (t := { s.marking st y e with lanes := { s.lanes with waitList := s.lanes.waitList.filter (· != st) } }) rfl

/-- A stop given to a station under drive without a capture in flight: it halts and leaves the lanes (R83, R96). -/
theorem State.giveStop_halts (s : State) (p : StopPending) (asked : p ≠ .none) (takes : (s.station st).takesStop = true)
    (idle : (s.station st).inFlight = none) (halts : (s.station st).state.halts) :
    s.giveStop st p = (s.stopping st).leaveLanes st := by
  have left := s.leaveWaitList_marking (st := st) ((s.station st).marked p) ((s.station st).rampDown st)
  have record : ({ s.marking st ((s.station st).marked p) ((s.station st).rampDown st) with
      lanes := (s.leaveWaitList st).lanes } : State).station st = (s.station st).marked p := s.station_putStation st _
  have halted := State.haltIfDone_halts ({ s.marking st ((s.station st).marked p) ((s.station st).rampDown st) with
    lanes := (s.leaveWaitList st).lanes } : State) (st := st) (by rw [record, Station.marked_stopPending]; exact asked)
    (by rw [record, Station.marked_inFlight]; exact idle) (by rw [record, Station.marked_state]; exact halts)
  unfold State.giveStop
  rw [if_pos takes, s.markStop_eq p takes, left, halted, record, Station.marked_halted]
  refine congrArg (fun v : State => v.leaveLanes st) ?_
  exact congrArg (fun v : State => { v with
    sent := s.sent ++ (s.station st).rampDown st, lanes := (s.leaveWaitList st).lanes }) (s.putStation_putStation st _ _)

/-- A stop given to a station with a capture in flight stays pending (R83). -/
theorem State.giveStop_stopPending (s : State) (p : StopPending) (takes : (s.station st).takesStop = true)
    (flight : (s.station st).inFlight ≠ none) : s.giveStop st p =
      { s.marking st ((s.station st).marked p) ((s.station st).rampDown st) with lanes := (s.leaveWaitList st).lanes } := by
  have left := s.leaveWaitList_marking (st := st) ((s.station st).marked p) ((s.station st).rampDown st)
  have record : ({ s.marking st ((s.station st).marked p) ((s.station st).rampDown st) with
      lanes := (s.leaveWaitList st).lanes } : State).station st = (s.station st).marked p := s.station_putStation st _
  unfold State.giveStop
  rw [if_pos takes, s.markStop_eq p takes, left]
  exact State.haltIfDone_flight _ (by rw [record, Station.marked_inFlight]; exact flight)

end Sys2Proof.Machine
end

section
/-!
PROOFS. A work order closed, and the store told that nothing more is captured (R109, R112 to R114, R121, R127).
-/

-- One proof after another, as in the model's tests: each thread's stack counts against the memory limit.
set_option Elab.async false

namespace Sys2Proof.Machine

variable {s t v : State} {i j k f : Nat} {st u : StationId} {b : OrderBody} {x y : Slot}

/-! ### The slots of a closed work order (R127) -/

/-- The slots of station `st` that are not FREE become FREE when their analysis or delivery ends (R127). -/
def SlotsClosed (s : State) (st : StationId) : Prop :=
  ∀ k x, s.slot? k = some x → x.order = some st →
    x.state = .free ∨ ((x.state = .analysing ∨ x.state = .sending) ∧ x.freeAtEnd = true)

theorem SlotsClosed.beside (h : SlotsClosed s st) (e : Beside st s t) : SlotsClosed t st :=
  fun k x found mine => h k x (e.slotsBack k x found mine) mine

/-- The state with the store of a closed work order (R127). -/
theorem State.slotsClosed (s : State) (st : StationId) : SlotsClosed { s with store := s.store.closedFor st } st := by
  intro k y found mine
  have found : (s.store.closedFor st).slots[k]? = some y := found
  rw [FrameStore.slot_closedFor] at found
  obtain ⟨x, -, rfl⟩ := Option.map_eq_some_iff.mp found
  split
  · by_cases running : x.state = .analysing ∨ x.state = .sending
    · rw [x.closed_running running]
      exact .inr ⟨running, rfl⟩
    · exact .inl (x.closed_free (fun e => running (.inl e)) (fun e => running (.inr e)))
  · next other =>
    rw [if_neg other] at mine
    exact absurd mine other

/-- FREE slots are offered to other stations, the closed work order's own having no target (R126, R127). -/
theorem Beside.closeSlots (s : State) (closed : (s.order st).state = .closed) (freed : Bool) :
    Beside st { s with store := s.store.closedFor st } (s.closeSlots st freed) := by
  unfold State.closeSlots
  dsimp only
  split
  · exact Beside.offerSlots { s with store := s.store.closedFor st } closed
  · exact .refl _

/-! ### The station of a closed work order (R113) -/

/-- A change of one station's record with what it was sent, and what others do beside it. -/
structure Closing (s t : State) (st : StationId) (z : Station) (e : List Emission) : Prop where
  beside : Beside st { s.putStation st z with sent := s.sent ++ e } t
  flight : z.inFlight = (s.station st).inFlight
  profile : z.profile = none
  rewinds : (s.station st).state.halts → z.state = .rewinding ∧ e = [.station st .rewind]

theorem State.closeStation_closing (s : State) (st : StationId) : ∃ z e, Closing s (s.closeStation st) st z e := by
  have cleared := s.updStation_sameSpeed st (fun t => { t with profile := none, fallback := none }) rfl
  have record := s.station_putStation st { s.station st with profile := none, fallback := none }
  generalize written : ({ s.station st with profile := none, fallback := none } : Station) = w at cleared record
  have state : w.state = (s.station st).state := by rw [← written]
  have flight : w.inFlight = (s.station st).inFlight := by rw [← written]
  have profile : w.profile = none := by rw [← written]
  unfold State.closeStation
  simp only [cleared, record, state]
  split
  · have record' : ((s.putStation st w).toStation st .rewind).station st = w := record
    have winds := ((s.putStation st w).toStation st .rewind).updStation_stopping (st := st)
      (fun t => { t with state := .rewinding, motion := .winding, stopPending := .none }) rfl
    rw [record'] at winds
    generalize rewinding : ({ w with
      state := .rewinding, motion := .winding, stopPending := .none
      filter := if w.runsAtSpeed then .clear else w.filter } : Station) = z at winds
    refine ⟨z, [.station st .rewind], ?_, by rw [← rewinding]; exact flight, by rw [← rewinding]; exact profile,
      fun _ => ⟨by rw [← rewinding], rfl⟩⟩
    rw [winds]
    have whole : ((s.putStation st w).toStation st .rewind).putStation st z
        = { s.putStation st z with sent := s.sent ++ [.station st .rewind] } :=
      congrArg (fun v : State => { v with sent := s.sent ++ [Emission.station st .rewind] }) (s.putStation_putStation st w z)
    rw [whole]
    exact .leaveLanes _ st
  · next other =>
    have halts : ¬ (s.station st).state.halts := fun h => other (by
      rcases h with h | h | h | h
      · exact .inr (.inl h)
      · exact .inr (.inr (.inl h))
      · exact .inl h
      · exact .inr (.inr (.inr h)))
    split
    · have stops := (s.putStation st w).updStation_sameSpeed st (fun t => { t with stopPending := .none }) rfl
      rw [record, State.putStation_putStation] at stops
      refine ⟨{ w with stopPending := .none }, [], ?_, flight, profile, fun h => absurd h halts⟩
      rw [stops, List.append_nil]
      exact (Beside.updSource (s.putStation st { w with stopPending := .none }) _).trans (.leaveLanes _ st)
    · refine ⟨w, [], ?_, flight, profile, fun h => absurd h halts⟩
      rw [List.append_nil]
      exact .refl _

/-! ### Closing (R113) -/

/-- What the closing of a station's work order leaves. -/
structure Closes (s t : State) (st : StationId) (e : OrderEnd) : Prop extends Onward s t where
  order : t.order st = { s.order st with state := .closed, ending := e }
  replies : t.link.outbound.filter (·.isReply) = s.link.outbound.filter (·.isReply)
  ended : t.flag .workOrderEnded = true
  slots : SlotsClosed t st
  flight : (t.station st).inFlight = (s.station st).inFlight
  profile : (t.station st).profile = none
  rewinds : (s.station st).state.halts → (t.station st).state = .rewinding ∧ Emission.station st .rewind ∈ t.sent
  settled : e = .aborted → ∀ b i, (s.order st).body = some b → b.reel = some i → s.reel? i ≠ none → Unnamed s st i →
    Settled t i

/-- The state once a work order has been marked CLOSED and its slots closed, before FREE slots are offered (R113, R127). -/
def State.orderClosed (s : State) (st : StationId) (e : OrderEnd) : State :=
  { s.updOrder st (fun w => { w with state := .closed, ending := e }) with store := s.store.closedFor st }

/-- The reel of a work order once its pass has been completed (R24). -/
def State.passCompleted (s : State) (body : Option OrderBody) (e : OrderEnd) : State :=
  (body.bind (·.reel)).elim s (fun i => s.updReel i (·.completePass e.outcome))

theorem State.closeOrder_eq (s : State) (st : StationId) (e : OrderEnd) (freed : Bool) : s.closeOrder st e false freed =
    (((((s.updOrder st (fun w => { w with state := .closed, ending := e })).closeSlots st freed).passCompleted
      (s.order st).body e).closeStation st)).raise .workOrderEnded
        { station := some st, reel := (s.order st).body.bind (·.reel), frame := (s.order st).body.bind (·.lastCaptured) } := by
  unfold State.closeOrder State.passCompleted
  cases h : (s.order st).body.bind (·.reel) <;> simp only [h, Bool.false_eq_true, if_false, Option.elim]

theorem State.passCompleted_eq (s : State) (body : Option OrderBody) (e : OrderEnd) :
    s.passCompleted body e = { s with retained := (s.passCompleted body e).retained } := by
  unfold State.passCompleted
  cases body.bind (·.reel) with
  | none => rfl
  | some i => exact s.updReel_eq i _

/-- An aborted pass leaves the reel at rest (R24, R114). -/
theorem State.passCompleted_settled (s : State) {body : Option OrderBody} (e : body = some b) (reel : b.reel = some i)
    (known : s.reel? i ≠ none) : Settled (s.passCompleted body .aborted) i := by
  obtain ⟨r, found⟩ := Option.ne_none_iff_exists'.mp known
  subst e
  refine ⟨r.completePass .aborted, ?_, r.completePass_order _, fun p mem => ?_⟩
  · simp only [State.passCompleted, Option.bind_some, reel, Option.elim_some, State.reel?_updReel, if_true, found]
    rfl
  · have none' := r.completePass_running
    rw [Reel.running, List.find?_eq_none] at none'
    simpa using none' p mem

theorem State.order_orderClosed (s : State) (st u : StationId) (e : OrderEnd) : (s.orderClosed st e).order u =
    if u = st then { s.order st with state := .closed, ending := e } else s.order u :=
  s.order_updOrder st u (fun w => { w with state := .closed, ending := e })

/-- The closing of a work order: the orders and the store, the pass, the station, and the alert (R113). -/
theorem State.closeOrder_closes (s : State) (st : StationId) (e : OrderEnd) (freed : Bool) :
    Closes s (s.closeOrder st e false freed) st e := by
  have closed : (s.orderClosed st e).order st = { s.order st with state := .closed, ending := e } :=
    (s.order_orderClosed st st e).trans (if_pos rfl)
  have bodies : ∀ u, ((s.orderClosed st e).order u).body = (s.order u).body := fun u => by
    rw [s.order_orderClosed]
    split
    · next h => rw [h]
    · rfl
  have offered : Beside st (s.orderClosed st e)
      ((s.updOrder st (fun w => { w with state := .closed, ending := e })).closeSlots st freed) :=
    Beside.closeSlots (s.updOrder st (fun w => { w with state := .closed, ending := e })) (congrArg WorkOrder.state closed) freed
  rw [s.closeOrder_eq]
  generalize (s.updOrder st (fun w => { w with state := .closed, ending := e })).closeSlots st freed = v at offered
  have completed := v.passCompleted_eq (s.order st).body e
  obtain ⟨z, sends, closing⟩ := (v.passCompleted (s.order st).body e).closeStation_closing st
  have record : (v.passCompleted (s.order st).body e).station st = s.station st := by
    rw [completed]
    exact offered.station
  have sent : (v.passCompleted (s.order st).body e).sent = v.sent := by rw [completed]
  have link : (v.passCompleted (s.order st).body e).link = v.link := by rw [completed]
  have order : ((v.passCompleted (s.order st).body e).order st) = { s.order st with state := .closed, ending := e } := by
    rw [completed]
    exact offered.order.trans closed
  have stk : (v.passCompleted (s.order st).body e).stk = s.stk := by
    rw [completed]
    exact offered.stk
  have slots : SlotsClosed (v.passCompleted (s.order st).body e) st := by
    have before : SlotsClosed v st := SlotsClosed.beside (State.slotsClosed _ st) offered
    rw [completed]
    exact before
  have settled : e = .aborted → ∀ b i, (s.order st).body = some b → b.reel = some i → s.reel? i ≠ none →
      Settled (v.passCompleted (s.order st).body e) i := fun aborted b i body reel known => by
    subst aborted
    exact v.passCompleted_settled body reel (offered.reels i known)
  have named : ∀ i, Unnamed s st i → Unnamed (v.passCompleted (s.order st).body e) st i := fun i unnamed u b other body => by
    rw [completed] at body
    exact unnamed u b other ((bodies u).symm.trans ((offered.bodies u).symm.trans body))
  generalize v.passCompleted (s.order st).body e = w at *
  have after := closing.beside.trans (.raise (w.closeStation st) .workOrderEnded
    { station := some st, reel := (s.order st).body.bind (·.reel), frame := (s.order st).body.bind (·.lastCaptured) })
  have own := after.station.trans (w.station_putStation st z)
  exact
  { stk := after.stk.trans stk
    kept := fun a set => after.kept a (FlagsKept.of_link (s := v) (t := { w.putStation st z with sent := w.sent ++ sends })
      link a (offered.kept a set))
    sent := fun a mem => after.sent a (List.mem_append_left _ (by rw [sent]; exact offered.sent a mem))
    order := after.order.trans order
    replies := after.replies.trans ((congrArg (fun l : Link => l.outbound.filter (·.isReply)) link).trans offered.replies)
    ended := by simp [State.flag_raise]
    slots := SlotsClosed.beside (s := { w.putStation st z with sent := w.sent ++ sends }) slots after
    flight := by rw [own, closing.flight, record]
    profile := by rw [own, closing.profile]
    rewinds := fun halts => by
      obtain ⟨state, sends⟩ := closing.rewinds (record ▸ halts)
      exact ⟨by rw [own, state], after.sent _ (by rw [sends]; exact List.mem_append_right _ (List.mem_singleton.mpr rfl))⟩
    settled := fun aborted b i body reel known unnamed =>
      after.settled i (named i unnamed) (settled aborted b i body reel known) }

/-! ### Nothing more is captured (R109, R121) -/

/-- Work of the repair engine: it writes the store and the engine, and leaves the planes and the successors of the slots. -/
structure EngineWork (s t : State) : Prop where
  frame : t = { s with store := t.store, engine := t.engine }
  slots : ∀ k x, s.slot? k = some x → ∃ y, t.slot? k = some y ∧ y.successor = x.successor ∧ y.planes = x.planes

theorem EngineWork.refl (s : State) : EngineWork s s := ⟨rfl, fun _ x e => ⟨x, e, rfl, rfl⟩⟩

theorem EngineWork.trans (h : EngineWork s t) (g : EngineWork t v) : EngineWork s v where
  frame := g.frame.trans (by rw [h.frame])
  slots k x e := by
    obtain ⟨y, found, successor, planes⟩ := h.slots k x e
    obtain ⟨z, found', successor', planes'⟩ := g.slots k y found
    exact ⟨z, found', successor'.trans successor, planes'.trans planes⟩

theorem EngineWork.updSlot (s : State) (k : Nat) (g : Slot → Slot) (successor : ∀ x, (g x).successor = x.successor)
    (planes : ∀ x, (g x).planes = x.planes) : EngineWork s (s.updSlot k g) where
  frame := by
    unfold State.updSlot
    split <;> rfl
  slots j x e := by
    rw [State.slot?_updSlot]
    split
    · next h =>
      subst h
      exact ⟨g x, by rw [e]; rfl, successor x, planes x⟩
    · exact ⟨x, e, rfl, rfl⟩

theorem EngineWork.setQueue (s : State) (q : List Nat) : EngineWork s { s with store := { s.store with queue := q } } :=
  ⟨rfl, fun _ x e => ⟨x, e, rfl, rfl⟩⟩

theorem EngineWork.setEngine (s : State) (a : RepairEngine) : EngineWork s { s with engine := a } :=
  ⟨rfl, fun _ x e => ⟨x, e, rfl, rfl⟩⟩

theorem EngineWork.analysing (s : State) (k : Nat) (mode : RepairMode) :
    EngineWork s (s.updSlot k (fun x => { x with state := .analysing, mode := some mode })) :=
  .updSlot s k _ (fun _ => rfl) (fun _ => rfl)

theorem EngineWork.startAnalysis (s : State) : EngineWork s s.startAnalysis := by
  unfold State.startAnalysis
  split
  · next rest _ _ =>
    have queue := EngineWork.setQueue s rest
    dsimp only
    split
    · exact queue
    · split
      · split
        · exact queue
        · exact (queue.trans (.analysing _ _ _)).trans (.setEngine _ _)
      · exact queue
  · exact .refl s

theorem EngineWork.testEligible (s : State) (k : Nat) : EngineWork s (s.testEligible k) := by
  unfold State.testEligible
  split
  · exact .refl s
  · next x _ =>
    split
    · have queued := EngineWork.updSlot s k (fun y => { y with
        state := .queued
        flags := { y.flags with
          oneSided := y.flags.oneSided || (x.predecessor == some .absent || x.successor == some .absent) } })
        (fun _ => rfl) (fun _ => rfl)
      exact (queued.trans (.setQueue _ _)).trans (.startAnalysis _)
    · exact .refl s

theorem State.updSlot_frame (s : State) (k : Nat) (g : Slot → Slot) :
    s.updSlot k g = { s with store := (s.updSlot k g).store, engine := (s.updSlot k g).engine } := by
  unfold State.updSlot
  split <;> rfl

/-- The end of the captures writes the store and the engine alone (R121). -/
theorem State.endOfCapture_frame (s : State) (st : StationId) :
    s.endOfCapture st = { s with store := (s.endOfCapture st).store, engine := (s.endOfCapture st).engine } := by
  unfold State.endOfCapture
  split
  · rfl
  · split
    · rfl
    · next k _ =>
      split
      · have written := s.updSlot_frame k (fun x => { x with successor := some .absent })
        refine (EngineWork.testEligible (s.updSlot k (fun x => { x with successor := some .absent })) k).frame.trans ?_
        generalize s.updSlot k (fun x => { x with successor := some .absent }) = v at written ⊢
        rw [written]
      · rfl

/-- The slot of the last frame captured that awaits its successor has none (R121). -/
theorem State.endOfCapture_slot (s : State) (opened : s.openBody? st = some b) (captured : b.lastCaptured = some f)
    (held : s.slotOf st f = some k) (found : s.slot? k = some x) (awaits : x.successor = some .awaited) :
    ∃ y, (s.endOfCapture st).slot? k = some y ∧ y.successor = some .absent ∧ y.planes = x.planes := by
  have last : (s.openBody? st).bind (·.lastCaptured) = some f := by rw [opened, Option.bind_some, captured]
  have asks : (s.slot? k).any (fun x => x.successor == some .awaited) = true := by simp [found, awaits]
  simp only [State.endOfCapture, last, held, asks, if_true]
  exact (EngineWork.testEligible (s.updSlot k (fun x => { x with successor := some .absent })) k).slots k
    { x with successor := some .absent } ((s.slot?_updSlot k k _).trans (by rw [if_pos rfl, found]; rfl))

/-- A slot that holds a frame of station `st` holds it after what others do beside it. -/
theorem Beside.slotOf (h : Beside st s t) (f : Nat) : t.slotOf st f = s.slotOf st f := by
  have holds : ∀ k, (t.slot? k).any (fun x => x.state != .free && x.order == some st && x.frame == some f)
      = (s.slot? k).any (fun x => x.state != .free && x.order == some st && x.frame == some f) := fun k => by
    rw [Bool.eq_iff_iff, Option.any_eq_true, Option.any_eq_true]
    constructor
    · rintro ⟨y, e, p⟩
      have mine : y.order = some st := by simp at p; exact p.1.2
      exact ⟨y, h.slotsBack k y e mine, p⟩
    · rintro ⟨x, e, p⟩
      have used : x.state ≠ .free := by simp at p; exact p.1.1
      exact ⟨x, h.slotsKept k x e used, p⟩
  have index : ∀ v : State, v.slotOf st f = (v.store.slots.toList.map
      (fun x => x.state != .free && x.order == some st && x.frame == some f)).findIdx? id := fun v => by
    unfold State.slotOf State.findSlot
    rw [List.findIdx?_map]
    rfl
  rw [index, index]
  congr 1
  refine List.ext_getElem? fun k => ?_
  have read : ∀ v : State, (v.store.slots.toList.map
      (fun x => x.state != .free && x.order == some st && x.frame == some f))[k]?
      = (v.slot? k).map (fun x => x.state != .free && x.order == some st && x.frame == some f) := fun v => by
    simp [State.slot?]
  have size : (t.slot? k).isSome = (s.slot? k).isSome := by
    rw [Bool.eq_iff_iff]
    simp [State.slot?, Option.isSome_iff_exists, Vector.getElem?_eq_some_iff]
  rw [read, read]
  have same := holds k
  cases e : t.slot? k with
  | none =>
    cases e' : s.slot? k with
    | none => rfl
    | some x => simp [e, e'] at size
  | some y =>
    cases e' : s.slot? k with
    | none => simp [e, e'] at size
    | some x => simpa [e, e'] using same

end Sys2Proof.Machine
end

section
/-!
PROOFS. PAUSE, STOP and ABORT (R83, R108, R109, R112, R114).
-/

-- One proof after another, as in the model's tests: each thread's stack counts against the memory limit.
set_option Elab.async false

namespace Sys2Proof.Machine

variable {s t v : State} {i k f : Nat} {st u : StationId} {b : OrderBody} {x : Slot} {p : StopPending} {n : RequestNumber}

/-! ### A station that a stop has halted -/

/-- What a stop leaves of a station under drive without a capture in flight, and of its lane (R83, R94, R96). -/
structure HaltedBy (s t : State) (st : StationId) : Prop where
  station : t.station st = (s.station st).stoppedRecord
  lane : t.laneOf st = none
  out : st ∉ t.lanes.waitList
  holder : ∀ l h, s.laneOf st = some l → (t.lane l).hold = some h → h.station ∈ s.lanes.waitList
  quiet : (∀ u ∈ s.lanes.waitList, u ≠ st → (s.station u).state ≠ .starved ∧ (s.station u).state ≠ .loopback) →
    t.sent = s.sent ++ (s.station st).rampDown st ∧ t.retained = s.retained

theorem HaltedBy.congr (h : HaltedBy s t st) (stations : v.stations = t.stations) (lanes : v.lanes = t.lanes)
    (sent : v.sent = t.sent) (retained : v.retained = t.retained) : HaltedBy s v st where
  station := (congrArg (·[st]) stations).trans h.station
  lane := ((SameHolders.of_lanes lanes).laneOf st).trans h.lane
  out := by rw [lanes]; exact h.out
  holder l g lane held := by
    have same : v.lane l = t.lane l := by cases l <;> simp only [State.lane, lanes]
    exact h.holder l g lane (same ▸ held)
  quiet busy := by rw [sent, retained]; exact h.quiet busy

theorem HaltedBy.of_updOrder {g : WorkOrder → WorkOrder} (h : HaltedBy (s.updOrder st g) t st) : HaltedBy s t st :=
  ⟨h.station, h.lane, h.out, h.holder, h.quiet⟩

theorem State.stopping_station (s : State) (st u : StationId) :
    (s.stopping st).station u = if u = st then (s.station st).stoppedRecord else s.station u := by
  split
  · next e =>
    subst e
    exact s.station_putStation u _
  · next e => exact s.station_putStation_of_ne _ e

theorem State.stopping_left (s : State) (st : StationId) (e : LanesExclusive s) :
    HaltedBy s ((s.stopping st).leaveLanes st) st := by
  have holders : SameHolders (s.leaveWaitList st) (s.stopping st) := .of_lanes rfl
  have exclusive : LanesExclusive (s.stopping st) := .congr holders (e.leaveWaitList s st)
  have lane : (s.stopping st).laneOf st = s.laneOf st := (holders.laneOf st).trans (s.leaveWaitList_laneOf st)
  have waits : ∀ u ∈ (s.stopping st).lanes.waitList, u ∈ s.lanes.waitList ∧ u ≠ st := fun u h => s.mem_leaveWaitList st h
  exact
  { station := (Beside.leaveLanes (s.stopping st) st).station.trans ((s.stopping_station st st).trans (if_pos rfl))
    lane := exclusive.laneOf_left
    out := fun h => (State.mem_leaveLanes _ st h).2 rfl
    holder := fun l h held given => (waits _ (State.leaveLanes_holder _ (lane.trans held) given)).1
    quiet := fun busy => by
      obtain ⟨lanes, left⟩ := (s.stopping st).leaveLanes_lanes st fun u mem other => by
        rw [State.stopping_station, if_neg other]
        exact busy u (waits u mem).1 other
      rw [left]
      exact ⟨rfl, rfl⟩ }

/-- A station in one of these states takes a stop and halts at once (R83). -/
theorem Station.stop_halts {x : Station} (h : x.state = .running ∨ x.state = .starved
      ∨ ((x.state = .threaded ∨ x.state = .halted) ∧ x.motion = .prerolling)) : x.takesStop = true ∧ x.state.halts := by
  unfold Station.takesStop StationState.halts
  rcases h with h | h | ⟨h | h, prerolls⟩ <;> simp [*]

/-! ### The requests -/

theorem State.pause_active (s : State) (h : (s.order st).state = .active) : s.pause st.val
    = ((s.updOrder st (fun w => { w with state := .paused })).giveStop st .pause).doneEmpty := by
  simp only [State.pause, stationOf_val, h]

theorem State.pausing_order (s : State) (st : StationId) :
    (s.updOrder st (fun w => { w with state := .paused })).order st = { s.order st with state := .paused } :=
  (s.order_updOrder st st _).trans (if_pos rfl)

theorem State.stop_eq (s : State) (st : StationId) : s.stop st.val = if (s.order st).state.stoppable
    then (((s.drain st .stopped).giveStop st .drain).afterCapture st).doneEmpty else s.refuse .wrongState := by
  simp only [State.stop, stationOf_val]

theorem State.drain_order (s : State) (e : OrderEnd) :
    (s.drain st e).order st = { s.order st with state := .draining, ending := e } :=
  (s.order_updOrder st st _).trans (if_pos rfl)

/-- With a capture in flight nothing is over yet (R112). -/
theorem State.afterCapture_flight (s : State) (flight : (s.station st).inFlight ≠ none) : s.afterCapture st = s :=
  if_neg fun h => flight h.2

/-- A draining work order that delivery has passed closes when nothing more is captured (R112). -/
theorem State.afterCapture_closes (s : State) (draining : (s.order st).state = .draining)
    (idle : (s.station st).inFlight = none) (body : (s.order st).body = some b)
    (passed : deliveryPassed (s.order st) b = true) :
    s.afterCapture st = (s.endOfCapture st).closeOrder st (s.order st).ending false false := by
  have frame := s.endOfCapture_frame st
  have order : (s.endOfCapture st).order st = s.order st := by rw [frame]; rfl
  have station : (s.endOfCapture st).station st = s.station st := by rw [frame]; rfl
  unfold State.afterCapture
  rw [if_pos ⟨draining, idle⟩]
  unfold State.closingTest
  simp only [order, body, station]
  exact if_pos ⟨draining, idle, passed⟩

theorem State.afterCapture_open (s : State) (draining : (s.order st).state = .draining)
    (idle : (s.station st).inFlight = none) (body : (s.order st).body = some b)
    (passed : deliveryPassed (s.order st) b = false) : s.afterCapture st = s.endOfCapture st := by
  have frame := s.endOfCapture_frame st
  have order : (s.endOfCapture st).order st = s.order st := by rw [frame]; rfl
  unfold State.afterCapture
  rw [if_pos ⟨draining, idle⟩]
  unfold State.closingTest
  simp only [order, body, passed]
  exact if_neg fun h => Bool.false_ne_true h.2.2

/-- A stopped work order is passed by delivery when its last frame captured is behind next-deliver, or none was (R112). -/
theorem deliveryPassed_stopped (w : WorkOrder) (stopped : w.ending = .stopped) :
    deliveryPassed w b = true ↔ ∀ c, b.lastCaptured = some c → c < b.nextDeliver := by
  unfold deliveryPassed
  rw [stopped]
  cases h : b.lastCaptured <;> simp

/-- A capture in flight is abandoned: nothing but its slot, its lane and the station's record change (R96). -/
theorem State.abandonQuietly_frame (s : State) (st : StationId) :
    (s.abandonQuietly st).orders = s.orders ∧ (s.abandonQuietly st).link = s.link ∧ (s.abandonQuietly st).stk = s.stk
      ∧ (s.abandonQuietly st).retained = s.retained ∧ ((s.abandonQuietly st).station st).inFlight = none := by
  have flight : ((s.abandonQuietly st).station st).inFlight = none := by
    unfold State.abandonQuietly
    rw [State.updStation_sameSpeed _ st _ rfl, State.station_putStation]
  refine ⟨?_, ?_, ?_, ?_, flight⟩
  all_goals
    unfold State.abandonQuietly
    dsimp only
    split
    · rfl
    · split <;> simp

/-! ### The commands -/

/-- A request whose work leaves the stacks and places no reply (R178). -/
theorem Calm.exec (calm : Calm s) (q : Request) (b : ReplyBody) (serve : s.silent.serve q = (t, b)) (stk : t.stk = s.stk)
    (replies : t.link.outbound.filter (·.isReply) = s.link.outbound.filter (·.isReply)) (decodes : q.decodes = true := by rfl)
    (plain : Request.special q = false := by rfl) :
    ∃ u, Machine.exec (q.command n) s = .next u ∧ AnsweredFollowed t u q n b :=
  exec_followed q b calm.toFree serve (NoStart.congr calm.toRested.lift stk) (replies.trans calm.toFree.quiet) decodes plain

/-- A stop given to a running station with a capture in flight: it stays pending (R83). -/
theorem State.giveStop_running (s : State) (running : (s.station st).state = .running)
    (fast : (s.station st).motion = .atSpeed) (continuous : (s.station st).profile ≠ some .step)
    (flight : (s.station st).inFlight ≠ none) : ∃ (y : Station) (lanes : Crosspoint), s.giveStop st p
      = { s.marking st y [.station st .rampDown] with lanes := lanes }
      ∧ y.state = .running ∧ y.stopPending = p ∧ y.motion = .ramping ∧ y.inFlight = (s.station st).inFlight := by
  have takes : (s.station st).takesStop = true := by simp [Station.takesStop, running]
  have ramps : (s.station st).ramps = true := by simp [Station.ramps, running, fast, Station.isStep, continuous]
  have pending := s.giveStop_stopPending p takes flight
  rw [Station.rampDown, if_pos ramps] at pending
  refine ⟨_, _, pending, ((s.station st).marked_state p).trans running, (s.station st).marked_stopPending p, ?_,
    (s.station st).marked_inFlight p⟩
  rw [Station.marked, if_pos ramps]

theorem exec_pause_running (calm : Calm s) (active : (s.order st).state = .active)
    (running : (s.station st).state = .running) (fast : (s.station st).motion = .atSpeed)
    (continuous : (s.station st).profile ≠ some .step) (flight : (s.station st).inFlight ≠ none) :
    ∃ t, exec (.pause n st.val) s = .next t ∧ t.order st = { s.order st with state := .paused }
      ∧ (t.station st).state = .running ∧ (t.station st).stopPending = .pause ∧ (t.station st).motion = .ramping
      ∧ (t.station st).inFlight = (s.station st).inFlight ∧ t.sent = [.station st .rampDown]
      ∧ t.store = s.store ∧ t.retained = s.retained ∧ RepliedOnce t (.pause st.val) n (.done .empty) := by
  obtain ⟨y, lanes, pending, state, stop, motion, carried⟩ := State.giveStop_running (p := .pause)
    (s.silent.updOrder st (fun w => { w with state := .paused })) running fast continuous flight
  obtain ⟨u, run, after⟩ := calm.exec (n := n) (.pause st.val) _
    ((s.silent.pause_active active).trans (congrArg State.doneEmpty pending)) rfl rfl
  have record : u.station st = y := (congrArg (·[st]) after.work.stations).trans (State.station_putStation _ _ _)
  refine ⟨u, run, ?_, record ▸ state, record ▸ stop, record ▸ motion, record ▸ carried, after.sent, after.work.store,
    after.retained, after.replied⟩
  exact (congrArg (·[st]) after.work.orders).trans (s.silent.pausing_order st)

theorem exec_stop_running (calm : Calm s) (active : (s.order st).state = .active)
    (running : (s.station st).state = .running) (fast : (s.station st).motion = .atSpeed)
    (continuous : (s.station st).profile ≠ some .step) (flight : (s.station st).inFlight ≠ none) :
    ∃ t, exec (.stop n st.val) s = .next t ∧ t.order st = { s.order st with state := .draining, ending := .stopped }
      ∧ (t.station st).state = .running ∧ (t.station st).stopPending = .drain ∧ (t.station st).motion = .ramping
      ∧ (t.station st).inFlight = (s.station st).inFlight ∧ t.sent = [.station st .rampDown]
      ∧ t.store = s.store ∧ t.retained = s.retained ∧ RepliedOnce t (.stop st.val) n (.done .empty) := by
  obtain ⟨y, lanes, pending, state, stop, motion, carried⟩ := State.giveStop_running (p := .drain)
    (s.silent.drain st .stopped) running fast continuous flight
  have record' : ({ (s.silent.drain st .stopped).marking st y [.station st .rampDown] with lanes := lanes } : State).station st
      = y := State.station_putStation _ _ _
  have serve : s.silent.stop st.val
      = ({ (s.silent.drain st .stopped).marking st y [.station st .rampDown] with lanes := lanes } : State).doneEmpty := by
    rw [State.stop_eq, if_pos (by rw [show (s.silent.order st).state = .active from active]; rfl), pending,
      State.afterCapture_flight _ (by rw [record', carried]; exact flight)]
  obtain ⟨u, run, after⟩ := calm.exec (n := n) (.stop st.val) _ serve rfl rfl
  have record : u.station st = y := (congrArg (·[st]) after.work.stations).trans record'
  refine ⟨u, run, ?_, record ▸ state, record ▸ stop, record ▸ motion, record ▸ carried, after.sent, after.work.store,
    after.retained, after.replied⟩
  exact (congrArg (·[st]) after.work.orders).trans (s.silent.drain_order (st := st) .stopped)

/-! ### Stops that halt at once (R83, R108, R109, R112) -/

/-- A station under drive between two captures of an ACTIVE work order (R83). -/
structure BetweenCaptures (s : State) (st : StationId) (b : OrderBody) : Prop where
  exclusive : LanesExclusive s
  active : (s.order st).state = .active
  body : (s.order st).body = some b
  idle : (s.station st).inFlight = none
  drives : (s.station st).state = .running ∨ (s.station st).state = .starved
    ∨ (((s.station st).state = .threaded ∨ (s.station st).state = .halted) ∧ (s.station st).motion = .prerolling)

/-- The state a stop leaves, whatever the work order has become: the station has halted. -/
theorem BetweenCaptures.giveStop (h : BetweenCaptures s st b) (g : WorkOrder → WorkOrder) (asked : p ≠ .none) :
    ∃ t, (s.silent.updOrder st g).giveStop st p = t ∧ HaltedBy s.silent t st
      ∧ Beside st ((s.silent.updOrder st g).stopping st) t := by
  obtain ⟨takes, halts⟩ := Station.stop_halts h.drives
  have exclusive : LanesExclusive (s.silent.updOrder st g) := .congr (s := s) (.of_lanes rfl) h.exclusive
  exact ⟨_, (s.silent.updOrder st g).giveStop_halts p asked takes h.idle halts,
    ((s.silent.updOrder st g).stopping_left st exclusive).of_updOrder, .leaveLanes _ st⟩

theorem BetweenCaptures.pause (h : BetweenCaptures s st b) (calm : Calm s) :
    ∃ t, exec (.pause n st.val) s = .next t ∧ t.order st = { s.order st with state := .paused } ∧ HaltedBy s.silent t st
      ∧ RepliedOnce t (.pause st.val) n (.done .empty) := by
  obtain ⟨v, stops, halted, beside⟩ := h.giveStop (p := .pause) (fun w => { w with state := .paused }) nofun
  obtain ⟨u, run, after⟩ := calm.exec (n := n) (.pause st.val) _
    ((s.silent.pause_active h.active).trans (congrArg State.doneEmpty stops)) beside.stk beside.replies
  refine ⟨u, run, ?_, halted.congr after.work.stations after.work.lanes after.sent after.retained, after.replied⟩
  exact (congrArg (·[st]) after.work.orders).trans (beside.order.trans (s.silent.pausing_order st))

/-- STOP between two captures: the work order drains, the station halts, then the store is told (R109, R112). -/
theorem BetweenCaptures.drained (h : BetweenCaptures s st b) : ∃ v, s.silent.stop st.val = (v.afterCapture st).doneEmpty
    ∧ HaltedBy s.silent v st ∧ Beside st ((s.silent.drain st .stopped).stopping st) v
    ∧ v.order st = { s.order st with state := .draining, ending := .stopped } ∧ (v.station st).inFlight = none := by
  obtain ⟨v, stops, halted, beside⟩ := h.giveStop (p := .drain)
    (fun w => { w with state := .draining, ending := .stopped }) nofun
  have stops : (s.silent.drain st .stopped).giveStop st .drain = v := stops
  refine ⟨v, ?_, halted, beside, beside.order.trans (s.silent.drain_order (st := st) .stopped), ?_⟩
  · rw [State.stop_eq, if_pos (by rw [show (s.silent.order st).state = .active from h.active]; rfl), stops]
  · rw [halted.station]
    exact h.idle

theorem BetweenCaptures.stop_open (h : BetweenCaptures s st b) (calm : Calm s) {c : Nat} (captured : b.lastCaptured = some c)
    (left : b.nextDeliver ≤ c) :
    ∃ t, exec (.stop n st.val) s = .next t ∧ t.order st = { s.order st with state := .draining, ending := .stopped }
      ∧ HaltedBy s.silent t st
      ∧ (∀ k x, s.slotOf st c = some k → s.slot? k = some x → x.successor = some .awaited →
          ∃ y, t.slot? k = some y ∧ y.successor = some .absent ∧ y.planes = x.planes)
      ∧ RepliedOnce t (.stop st.val) n (.done .empty) := by
  obtain ⟨v, serve, halted, beside, order, idle⟩ := h.drained
  have body : (v.order st).body = some b := by rw [order]; exact h.body
  have notPassed : deliveryPassed (v.order st) b = false := by
    rw [Bool.eq_false_iff, Ne, deliveryPassed_stopped _ (by rw [order])]
    exact fun passed => absurd (passed c captured) (Nat.not_lt.mpr left)
  rw [v.afterCapture_open (by rw [order]) idle body notPassed] at serve
  have frame := v.endOfCapture_frame st
  obtain ⟨u, run, after⟩ := calm.exec (n := n) (.stop st.val) _ serve (by rw [frame]; exact beside.stk)
    (by rw [frame]; exact beside.replies)
  refine ⟨u, run, ?_, ?_, fun k x held found awaits => ?_, after.replied⟩
  · refine (congrArg (·[st]) after.work.orders).trans (Eq.trans ?_ order)
    rw [frame]
    rfl
  · refine halted.congr (after.work.stations.trans ?_) (after.work.lanes.trans ?_) (after.sent.trans ?_)
      (after.retained.trans ?_) <;> rw [frame]
  · have found' : s.slot? k = some x := found
    have used : x.state ≠ .free := by
      unfold State.slotOf State.findSlot at held
      obtain ⟨lt, holds, -⟩ := List.findIdx?_eq_some_iff_getElem.mp held
      have same : s.store.slots.toList[k] = x := by
        unfold State.slot? at found
        rw [Vector.getElem?_eq_some_iff] at found
        obtain ⟨lt', e⟩ := found
        simpa using e
      rw [same] at holds
      simp at holds
      exact holds.1.1
    obtain ⟨y, absent⟩ := v.endOfCapture_slot ((v.openBody_of_open (by rw [order]; nofun)).trans body) captured
      ((beside.slotOf c).trans held) (beside.slotsKept k x found used) awaits
    refine ⟨y, ?_⟩
    unfold State.slot?
    rw [after.work.store]
    exact absent

theorem BetweenCaptures.stop_closes (h : BetweenCaptures s st b) (calm : Calm s)
    (passed : ∀ c, b.lastCaptured = some c → c < b.nextDeliver) :
    ∃ t, exec (.stop n st.val) s = .next t ∧ t.order st = { s.order st with state := .closed, ending := .stopped }
      ∧ (t.station st).state = .rewinding ∧ t.flag .workOrderEnded = true
      ∧ RepliedOnce t (.stop st.val) n (.done .empty) := by
  obtain ⟨v, serve, halted, beside, order, idle⟩ := h.drained
  have ending : (v.order st).ending = .stopped := by rw [order]
  rw [v.afterCapture_closes (by rw [order]) idle (by rw [order]; exact h.body) ((deliveryPassed_stopped _ ending).mpr passed),
    ending] at serve
  have frame := v.endOfCapture_frame st
  have closes := (v.endOfCapture st).closeOrder_closes st .stopped false
  have order' : (v.endOfCapture st).order st = v.order st := by rw [frame]; rfl
  have station : (v.endOfCapture st).station st = v.station st := by rw [frame]; rfl
  obtain ⟨u, run, after⟩ := calm.exec (n := n) (.stop st.val) _ serve
    (closes.stk.trans (by rw [frame]; exact beside.stk)) (closes.replies.trans (by rw [frame]; exact beside.replies))
  refine ⟨u, run, ?_, ?_, after.kept _ closes.ended, after.replied⟩
  · refine (congrArg (·[st]) after.work.orders).trans (closes.order.trans ?_)
    rw [order', order]
  · refine (congrArg (·[st].state) after.work.stations).trans (closes.rewinds ?_).1
    rw [station, halted.station]
    exact .inr (.inr (.inr rfl))

/-- STOP of an OPEN work order whose station stands (R109, R112). -/
theorem exec_stop_open (calm : Calm s) (opened : (s.order st).state = .open) (body : (s.order st).body = some b)
    (captured : b.lastCaptured = none) (idle : (s.station st).inFlight = none) (threaded : (s.station st).state = .threaded)
    (stands : (s.station st).motion = .stopped) :
    ∃ t, exec (.stop n st.val) s = .next t ∧ t.order st = { s.order st with state := .closed, ending := .stopped }
      ∧ t.flag .workOrderEnded = true ∧ RepliedOnce t (.stop st.val) n (.done .empty)
      ∧ (t.station st).state = .rewinding ∧ Emission.station st .rewind ∈ t.sent := by
  have order : (s.silent.drain st .stopped).order st = { s.order st with state := .draining, ending := .stopped } :=
    s.silent.drain_order .stopped
  have takes : ((s.silent.drain st .stopped).station st).takesStop = false := by
    have same : (s.silent.drain st .stopped).station st = s.station st := rfl
    rw [same]
    simp [Station.takesStop, threaded, stands]
  have ending : ((s.silent.drain st .stopped).order st).ending = .stopped := by rw [order]
  have passed : deliveryPassed ((s.silent.drain st .stopped).order st) b = true :=
    (deliveryPassed_stopped _ ending).mpr (by rw [captured]; nofun)
  have closes := ((s.silent.drain st .stopped).endOfCapture st).closeOrder_closes st .stopped false
  have frame := (s.silent.drain st .stopped).endOfCapture_frame st
  have order' : ((s.silent.drain st .stopped).endOfCapture st).order st = (s.silent.drain st .stopped).order st := by
    rw [frame]; rfl
  have station : ((s.silent.drain st .stopped).endOfCapture st).station st = s.station st := by rw [frame]; rfl
  have serve : s.silent.stop st.val
      = (((s.silent.drain st .stopped).endOfCapture st).closeOrder st .stopped false false).doneEmpty := by
    rw [State.stop_eq, if_pos (by rw [show (s.silent.order st).state = .open from opened]; rfl)]
    unfold State.giveStop
    rw [if_neg (by rw [takes]; nofun), State.afterCapture_closes (s.silent.drain st .stopped) (by rw [order]) idle
      (by rw [order]; exact body) passed, ending]
  obtain ⟨u, run, after⟩ := calm.exec (n := n) (.stop st.val) _ serve (closes.stk.trans (by rw [frame]; rfl))
    (closes.replies.trans (by rw [frame]; rfl))
  obtain ⟨rewinds, sends⟩ := closes.rewinds (by rw [station]; exact .inr (.inr (.inl threaded)))
  refine ⟨u, run, ?_, after.kept _ closes.ended, after.replied,
    (congrArg (·[st].state) after.work.stations).trans rewinds, after.sent ▸ sends⟩
  refine (congrArg (·[st]) after.work.orders).trans (closes.order.trans ?_)
  rw [order', order]

/-- ABORT of a work order that is not CLOSED (R96, R113, R114, R127). -/
theorem exec_abort (calm : Calm s) (opened : (s.order st).state ≠ .closed) :
    ∃ t, exec (.abort n st.val) s = .next t
      ∧ t.order st = { s.order st with state := .closed, ending := .aborted } ∧ t.flag .workOrderEnded = true
      ∧ (t.station st).inFlight = none ∧ (t.station st).profile = none ∧ SlotsClosed t st
      ∧ (∀ b i r, (s.order st).body = some b → b.reel = some i → s.reel? i = some r → Unnamed s st i → Settled t i)
      ∧ RepliedOnce t (.abort st.val) n (.done .empty) := by
  obtain ⟨orders, link, stk, retained, flight⟩ := s.silent.abandonQuietly_frame st
  have closes := (s.silent.abandonQuietly st).closeOrder_closes st .aborted (s.silent.capturing st)
  have order : ∀ u, (s.silent.abandonQuietly st).order u = s.order u := fun u => congrArg (·[u]) orders
  have reels : ∀ i, (s.silent.abandonQuietly st).reel? i = s.reel? i := fun i => State.reel?_congr retained i
  have has : s.silent.hasOrder st = true := State.hasOrder_of_open s opened
  have serve : s.silent.abort st.val
      = ((s.silent.abandonQuietly st).closeOrder st .aborted false (s.silent.capturing st)).doneEmpty := by
    simp only [State.abort, stationOf_val, State.abortOrder, has, if_true]
  obtain ⟨u, run, after⟩ := calm.exec (n := n) (.abort st.val) _ serve (closes.stk.trans stk)
    (closes.replies.trans (congrArg (fun l : Link => l.outbound.filter (·.isReply)) link))
  have record : u.station st = _ := congrArg (·[st]) after.work.stations
  refine ⟨u, run, ?_, after.kept _ closes.ended, (congrArg Station.inFlight record).trans (closes.flight.trans flight),
    (congrArg Station.profile record).trans closes.profile, fun k x found => ?_, fun b i r body reel known unnamed => ?_,
    after.replied⟩
  · refine (congrArg (·[st]) after.work.orders).trans (closes.order.trans ?_)
    rw [order]
  · unfold State.slot? at found
    rw [after.work.store] at found
    exact closes.slots k x found
  · have settled := closes.settled rfl b i (by rw [order]; exact body) reel (by rw [reels, known]; nofun)
      fun u b' other body' => unnamed u b' other (order u ▸ body')
    unfold Settled at settled ⊢
    rwa [State.reel?_congr after.retained]

/-- Settles O43: each request by the state of the work order and of its station. -/
theorem workOrdersPauseStopAndAbort : Obligations.WorkOrdersPauseStopAndAbort := by
  unfold Obligations.WorkOrdersPauseStopAndAbort
  intro s n st calm w
  refine ⟨fun active broken => ?_, exec_pause_running calm, ?_, exec_stop_running calm, fun paused => ?_, fun other => ?_,
    fun other => ?_, fun b opened body captured idle threaded stands => ?_, fun closed => ?_, fun opened => ?_⟩
  · refine exec_changed (.pause st.val) _ calm ((s.silent.pause_active active).trans (congrArg State.doneEmpty (if_neg ?_)))
      (Rested.congr calm.toRested rfl rfl) calm.taken
    have same : (s.silent.updOrder st (fun w => { w with state := .paused })).station st = s.station st := rfl
    rw [same]
    simp [Station.takesStop, broken]
  · intro b exclusive active body idle drives halted ramped stopped
    have between : BetweenCaptures s st b := ⟨exclusive, active, body, idle, drives⟩
    have film : (s.station st).state ≠ .loopback := by
      rcases drives with h | h | ⟨h | h, -⟩ <;> rw [h] <;> nofun
    have record : (s.station st).stoppedRecord = halted := by
      simp [Station.stoppedRecord, Station.runsAtSpeed, halted]
    have sends : (s.station st).rampDown st = ramped := by
      have motions : ((s.station st).motion = .prerolling ∨ (s.station st).motion = .atSpeed)
          ↔ ((s.station st).motion = .atSpeed ∨ (s.station st).motion = .prerolling) := or_comm
      simp only [Station.rampDown, Station.ramps_iff, ramped, film, ne_eq, not_false_eq_true, true_and, motions,
        Station.isStep, beq_eq_false_iff_ne]
    have stops : ∀ t, HaltedBy s.silent t st → stopped t := fun t h =>
      ⟨h.station.trans record, h.lane, h.out, h.holder, fun busy => by
        obtain ⟨sent, retained⟩ := h.quiet busy
        exact ⟨sent.trans sends, retained⟩⟩
    refine ⟨?_, fun c captured left => ?_, fun passed => between.stop_closes calm passed⟩
    · obtain ⟨t, run, order, h, replied⟩ := between.pause calm
      exact ⟨t, run, order, stops t h, replied⟩
    · obtain ⟨t, run, order, h, slots, replied⟩ := between.stop_open calm captured left
      exact ⟨t, run, order, stops t h, slots, replied⟩
  · refine exec_unchanged (.pause st.val) _ calm ?_
    have same : (s.silent.order st).state = .paused := paused
    have own : s.silent.serve (.pause st.val) = s.silent.pause st.val := rfl
    simp only [own, State.pause, stationOf_val, same]
    rfl
  · refine exec_unchanged (.pause st.val) _ calm ?_
    have own : s.silent.serve (.pause st.val) = s.silent.pause st.val := rfl
    have same : (s.silent.order st).state = (s.order st).state := rfl
    rcases other with h | h | h <;> simp only [own, State.pause, stationOf_val, same, show (s.order st).state = _ from h] <;> rfl
  · refine exec_unchanged (.stop st.val) _ calm ((s.silent.stop_eq st).trans (if_neg ?_))
    have same : (s.silent.order st).state = (s.order st).state := rfl
    rcases other with h | h <;> rw [same, show (s.order st).state = _ from h] <;> nofun
  · exact exec_stop_open calm opened body captured idle threaded stands
  · refine exec_unchanged (.abort st.val) _ calm ?_
    have own : s.silent.serve (.abort st.val) = s.silent.abort st.val := rfl
    rw [own, State.abort, stationOf_val]
    exact if_neg (by rw [s.silent.hasOrder_closed closed]; nofun)
  · exact exec_abort calm opened

end Sys2Proof.Machine
end

section
/-!
PROOFS. The positions of a geometry, what a list of writes leaves in planes, and the pattern frame (R87, R99).
-/

-- One proof after another, as in the model's tests: each thread's stack counts against the memory limit.
set_option Elab.async false

namespace Sys2Proof

/-! ### Positions of a geometry -/

theorem Gauge.width_pos (g : Gauge) : 0 < g.width := by cases g <;> decide

theorem Gauge.lt_samples_iff (g : Gauge) (pos : Nat) : pos < g.samples ↔ pos / g.width < g.height := by
  rw [Gauge.samples, Nat.mul_comm, Nat.div_lt_iff_lt_mul g.width_pos]

theorem Gauge.position_row (g : Gauge) (row : Nat) {col : Nat} (h : col < g.width) : g.position row col / g.width = row := by
  rw [Gauge.position, Nat.mul_comm, Nat.mul_add_div g.width_pos, Nat.div_eq_of_lt h, Nat.add_zero]

theorem Gauge.position_col (g : Gauge) (row : Nat) {col : Nat} (h : col < g.width) : g.position row col % g.width = col := by
  rw [Gauge.position, Nat.mul_comm, Nat.mul_add_mod, Nat.mod_eq_of_lt h]

theorem Gauge.position_div_mod (g : Gauge) (pos : Nat) : g.position (pos / g.width) (pos % g.width) = pos := by
  rw [Gauge.position, Nat.mul_comm]
  exact Nat.div_add_mod pos g.width

/-- A position to the left in the row of a sample of the geometry is a sample of it. -/
theorem Gauge.left_lt_samples {g : Gauge} {pos : Nat} (h : pos < g.samples) (k : Nat) : pos - k < g.samples := by omega

/-- A position to the right in the row of a sample of the geometry is a sample of it. -/
theorem Gauge.right_lt_samples {g : Gauge} {pos k : Nat} (h : pos < g.samples) (row : pos % g.width + k < g.width) :
    pos + k < g.samples := by
  have split : pos + k = g.position (pos / g.width) (pos % g.width + k) := by
    have := g.position_div_mod pos
    simp only [Gauge.position] at this ⊢
    omega
  rw [Gauge.lt_samples_iff] at h ⊢
  rw [split, g.position_row _ row]
  exact h

theorem Gauge.width_tiles (g : Gauge) : 64 * g.tileCols = g.width := by cases g <;> rfl
theorem Gauge.height_tiles (g : Gauge) : 64 * g.tileRows = g.height := by cases g <;> rfl

/-! ### Spans -/

theorem TileSpan.hasPos_iff (t : TileSpan) (g : Gauge) (pos : Nat) : t.hasPos g pos = true ↔
    g.tileRowOf pos = t.row ∧ t.firstCol ≤ g.tileColOf pos ∧ g.tileColOf pos ≤ t.lastCol := by
  simp only [TileSpan.hasPos, TileSpan.hasTile, Bool.and_eq_true, beq_iff_eq, decide_eq_true_eq, and_assoc,
    @eq_comm Nat t.row]

/-- The positions of a span of the geometry are its samples that lie in the span. -/
theorem TileSpan.mem_positions {t : TileSpan} {g : Gauge} (rows : t.row < g.tileRows) (cols : t.lastCol < g.tileCols)
    (pos : Nat) : pos ∈ t.positions g ↔ t.hasPos g pos = true ∧ pos < g.samples := by
  have width := g.width_tiles
  have height := g.height_tiles
  simp only [TileSpan.positions, List.mem_flatMap, List.mem_map, List.mem_range, t.hasPos_iff, Gauge.tileRowOf,
    Gauge.tileColOf, g.lt_samples_iff]
  constructor
  · rintro ⟨r, hr, c, hc, rfl⟩
    have inside : t.firstCol * 64 + c < g.width := by omega
    rw [g.position_row _ inside, g.position_col _ inside]
    omega
  · rintro ⟨⟨row, first, last⟩, inside⟩
    refine ⟨pos / g.width % 64, by omega, pos % g.width - t.firstCol * 64, by omega, ?_⟩
    convert g.position_div_mod pos using 2 <;> omega

end Sys2Proof

namespace Sys2Proof.Machine

/-! ### A list of writes -/

/-- What a list of operations leaves at a position, each of which changes its own position alone and, done twice, no more
than once. -/
theorem Planes.read_foldl {g : Planes → Nat → Planes} {h : Nat → Sample → Sample}
    (wf : ∀ x p, x.wf = true → (g x p).wf = true)
    (read : ∀ x p q, x.wf = true → (g x p).read q = if q = p then h p (x.read p) else x.read q)
    (idem : ∀ p v, h p (h p v) = h p v) (l : List Nat) (q : Nat) (x : Planes) (hx : x.wf = true) :
    (l.foldl g x).read q = if q ∈ l then h q (x.read q) else x.read q := by
  induction l generalizing x with
  | nil => rfl
  | cons p l ih =>
    simp only [List.foldl_cons, List.mem_cons]
    rw [ih (g x p) (wf x p hx), read x p q hx]
    by_cases own : q = p
    · subst own
      by_cases again : q ∈ l <;> simp [again, idem]
    · simp [own]

/-! ### The pattern frame (R87) -/

theorem mem_spotPositions (k : Nat) {row col : Nat} (hc : col < 4096) : row * 4096 + col ∈ spotPositions k ↔
    k % 48 * 64 ≤ row ∧ row < k % 48 * 64 + 16 ∧ k % 64 * 64 ≤ col ∧ col < k % 64 * 64 + 16 := by
  simp only [spotPositions, List.mem_flatMap, List.mem_map, List.mem_range, Gauge.position, Gauge.width]
  constructor
  · rintro ⟨r, hr, c, hc', e⟩
    omega
  · rintro ⟨top, bottom, left, right⟩
    exact ⟨row - k % 48 * 64, by omega, col - k % 64 * 64, by omega, by omega⟩

theorem read_patternPlanes (k pos : Nat) :
    (patternPlanes k).read pos = if pos ∈ spotPositions k then spotSample else unlistedSample true pos :=
  Planes.read_foldl (h := fun _ _ => spotSample) (fun x p => x.write_wf p _) (fun x p q => x.read_write p q _)
    (fun _ _ => rfl) (spotPositions k) pos _ rfl

/-- R87, R99: pattern frame `k` at a row and a column. -/
theorem patternPlanes_sample (k row col : Nat) (hc : col < 4096) :
    (patternPlanes k).read (row * 4096 + col) =
      if k % 48 * 64 ≤ row ∧ row < k % 48 * 64 + 16 ∧ k % 64 * 64 ≤ col ∧ col < k % 64 * 64 + 16 then spotSample
      else { colour := { red := BitVec.ofNat 12 col, green := BitVec.ofNat 12 col, blue := BitVec.ofNat 12 col }
             ir := 255 } := by
  have column : (row * 4096 + col) % 4096 = col := by omega
  simp only [read_patternPlanes, mem_spotPositions k hc, unlistedSample, column, if_true]

end Sys2Proof.Machine
end

section
/-!
PROOFS. What a repair fills and what it leaves (R141 to R145).
-/

-- One proof after another, as in the model's tests: each thread's stack counts against the memory limit.
set_option Elab.async false

namespace Sys2Proof.Machine

variable {e : Exam} {d : Defect} {t : TileSpan} {pos : Nat}

/-! ### The kinds of record on the completed list (R137 to R139) -/

theorem TileClass.kind?_cases {c : TileClass} {k : DefectKind} (h : c.kind? = some k) : k = .spot ∨ k = .blotch := by
  cases c <;> simp_all [TileClass.kind?]

/-- Merging tiles makes SPOT and BLOTCH records only, when the open run is one. -/
theorem mergeRow_kinds (row : Nat) (tiles : List (TileClass × Nat)) (col : Nat) (run : Option OpenRun)
    (opened : ∀ r, run = some r → r.kind = .spot ∨ r.kind = .blotch) :
    ∀ d ∈ mergeRow row col run tiles, d.kind = .spot ∨ d.kind = .blotch := by
  have closed : ∀ r, run = some r → (r.record row).kind = .spot ∨ (r.record row).kind = .blotch := opened
  induction tiles generalizing col run with
  | nil =>
    intro d hd
    simp only [mergeRow, Option.mem_toList, Option.map_eq_some_iff] at hd
    obtain ⟨r, hr, rfl⟩ := hd
    exact closed r hr
  | cons tile tiles ih =>
    obtain ⟨cls, c⟩ := tile
    intro d hd
    have start : ∀ k, cls.kind? = some k →
        d ∈ mergeRow row (col + 1) (some { kind := k, first := col, last := col, count := c }) tiles →
        d.kind = .spot ∨ d.kind = .blotch := by
      intro k hk
      have begun : ∀ r : OpenRun, some { kind := k, first := col, last := col, count := c } = some r →
          r.kind = .spot ∨ r.kind = .blotch := by
        rintro _ ⟨⟩
        exact TileClass.kind?_cases hk
      exact ih _ _ begun begun d
    simp only [mergeRow] at hd
    split at hd
    · simp only [List.mem_append, Option.mem_toList, Option.map_eq_some_iff] at hd
      rcases hd with ⟨r, hr, rfl⟩ | later
      · exact closed r hr
      · exact ih _ none (fun _ h => nomatch h) (fun _ h => nomatch h) d later
    · next k hk => exact start k hk hd
    · next k r hk =>
      split at hd
      · have extended : ∀ q : OpenRun, some { r with last := col, count := r.count + c } = some q →
            q.kind = .spot ∨ q.kind = .blotch := by
          rintro _ ⟨⟩
          exact opened r rfl
        exact ih _ _ extended extended d hd
      · rcases List.mem_cons.mp hd with rfl | later
        · exact closed r rfl
        · exact start k hk later

theorem Exam.tileRecords_kinds (e : Exam) : ∀ d ∈ e.tileRecords, d.kind = .spot ∨ d.kind = .blotch := by
  intro d hd
  unfold Exam.tileRecords at hd
  split at hd
  · cases hd
  · split at hd
    · cases hd
    · obtain ⟨row, -, h⟩ := List.mem_flatMap.mp hd
      exact mergeRow_kinds row _ 0 none (fun _ h => nomatch h) d h

theorem Exam.stored_kinds (h : d ∈ e.stored) : d.kind = .spot ∨ d.kind = .blotch :=
  e.tileRecords_kinds d (List.mem_of_mem_take h)

theorem Exam.sensors_kinds (h : d ∈ e.sensors) : d.kind = .splice ∨ d.kind = .tear := by
  simpa [Defect.isSensor] using (List.mem_filter.mp h).2

@[simp] theorem Exam.settleHost_kind (e : Exam) (d : Defect) : (e.settleHost d).kind = d.kind := by
  unfold Exam.settleHost; split <;> rfl

@[simp] theorem Exam.settleHost_span (e : Exam) (d : Defect) : (e.settleHost d).span = d.span := by
  unfold Exam.settleHost; split <;> rfl

theorem Exam.mem_hosts (e : Exam) (d : Defect) :
    d ∈ e.hosts ↔ ∃ g ∈ e.gathered, g.kind = .host ∧ e.settleHost g = d := by
  simp [Exam.hosts, Defect.isHost, and_assoc]

/-! ### Where records lie -/

/-- A position lies in the span of a record (R128). -/
def Exam.Within (e : Exam) (d : Defect) (pos : Nat) : Prop :=
  ∃ t, d.span = some t ∧ e.gauge.tileRowOf pos = t.row ∧ t.firstCol ≤ e.gauge.tileColOf pos
    ∧ e.gauge.tileColOf pos ≤ t.lastCol

/-- A position lies in the span of a HOST record (R140). -/
def Exam.Hosted (e : Exam) (pos : Nat) : Prop := ∃ d ∈ e.gathered, d.kind = .host ∧ e.Within d pos

/-- A position is a target of a record (R141). -/
def Exam.TargetOf (e : Exam) (d : Defect) (pos : Nat) : Prop :=
  e.Within d pos ∧ ((d.kind = .spot ∧ pos ∈ e.candidates) ∨ (d.kind = .host ∧ pos < e.gauge.samples))

/-- A position is a target of the frame (R141). -/
def Exam.Target (e : Exam) (pos : Nat) : Prop :=
  e.mode = .conceal ∧ ((∃ d ∈ e.tileRecords.take (24 - e.gathered.length), d.kind = .spot ∧ e.TargetOf d pos)
    ∨ (e.Hosted pos ∧ pos < e.gauge.samples))

/-- The spans of the HOST records gathered lie in the geometry. -/
def Exam.HostsFit (e : Exam) : Prop :=
  ∀ d ∈ e.gathered, d.kind = .host → ∀ t, d.span = some t →
    t.row < e.gauge.tileRows ∧ t.firstCol ≤ t.lastCol ∧ t.lastCol < e.gauge.tileCols

theorem Exam.within_of_span (h : d.span = some t) : e.Within d pos ↔ t.hasPos e.gauge pos = true := by
  simp [Exam.Within, h, t.hasPos_iff]

theorem Exam.not_within_of_no_span (h : d.span = none) : ¬ e.Within d pos := by
  simp [Exam.Within, h]

theorem Exam.within_settleHost (e : Exam) (d : Defect) (pos : Nat) : e.Within (e.settleHost d) pos ↔ e.Within d pos := by
  simp only [Exam.Within, Exam.settleHost_span]

/-- The record's span, if it has one, holds the position. -/
theorem Exam.within_iff (e : Exam) (d : Defect) (pos : Nat) :
    (d.span.map (fun t => t.hasPos e.gauge pos)).getD false = true ↔ e.Within d pos := by
  cases h : d.span with
  | none => simp [Exam.not_within_of_no_span h]
  | some t => simp [Exam.within_of_span h]

/-- A HOST record of the completed list holds the position. -/
theorem Exam.hosted_iff (e : Exam) (pos : Nat) : e.Hosted pos ↔ ∃ d ∈ e.hosts, e.Within d pos := by
  constructor
  · rintro ⟨g, hg, kind, within⟩
    exact ⟨e.settleHost g, (e.mem_hosts _).mpr ⟨g, hg, kind, rfl⟩, (e.within_settleHost g pos).mpr within⟩
  · rintro ⟨d, hd, within⟩
    obtain ⟨g, hg, kind, rfl⟩ := (e.mem_hosts _).mp hd
    exact ⟨g, hg, kind, (e.within_settleHost g pos).mp within⟩

/-! ### Targets (R141) -/

/-- No record has targets but under CONCEAL. -/
theorem Exam.targetsOf_of_not_conceal (h : e.mode ≠ .conceal) (d : Defect) : e.targetsOf d = [] := by
  unfold Exam.targetsOf
  split <;> simp_all

theorem Exam.targetsOf_spot (mode : e.mode = .conceal) (kind : d.kind = .spot) :
    pos ∈ e.targetsOf d ↔ e.TargetOf d pos := by
  cases span : d.span with
  | none => simp [Exam.targetsOf, Exam.TargetOf, mode, kind, span, Exam.not_within_of_no_span span]
  | some t => simp [Exam.targetsOf, Exam.TargetOf, mode, kind, span, Exam.within_of_span span, and_comm]

theorem Exam.targetsOf_host (mode : e.mode = .conceal) (kind : d.kind = .host)
    (fit : ∀ t, d.span = some t → t.row < e.gauge.tileRows ∧ t.firstCol ≤ t.lastCol ∧ t.lastCol < e.gauge.tileCols) :
    pos ∈ e.targetsOf d ↔ e.TargetOf d pos := by
  cases span : d.span with
  | none => simp [Exam.targetsOf, Exam.TargetOf, mode, kind, span, Exam.not_within_of_no_span span]
  | some t =>
    obtain ⟨rows, -, cols⟩ := fit t span
    simp [Exam.targetsOf, Exam.TargetOf, mode, kind, span, Exam.within_of_span span, TileSpan.mem_positions rows cols]

/-- A record of another kind has no targets. -/
theorem Exam.targetsOf_other (spot : d.kind ≠ .spot) (host : d.kind ≠ .host) : e.targetsOf d = [] := by
  unfold Exam.targetsOf
  split
  · next h _ => exact absurd h spot
  · next h _ => exact absurd h host
  · rfl

/-- The records of the completed list have the targets R141 gives. -/
theorem Exam.mem_targetsOf (fits : e.HostsFit) (mode : e.mode = .conceal) (hd : d ∈ e.list) :
    pos ∈ e.targetsOf d ↔ e.TargetOf d pos := by
  by_cases spot : d.kind = .spot
  · exact Exam.targetsOf_spot mode spot
  · by_cases host : d.kind = .host
    · refine Exam.targetsOf_host mode host ?_
      have mem : d ∈ e.hosts := by
        simp only [Exam.list, List.mem_append] at hd
        rcases hd with (stored | sensor) | mem
        · simpa [host] using Exam.stored_kinds stored
        · simpa [host] using Exam.sensors_kinds sensor
        · exact mem
      obtain ⟨g, hg, kind, rfl⟩ := (e.mem_hosts _).mp mem
      simpa only [Exam.settleHost_span] using fits g hg kind
    · simp [Exam.targetsOf_other spot host, Exam.TargetOf, spot, host]

theorem Exam.TargetOf.lt_samples (h : e.TargetOf d pos) : pos < e.gauge.samples := by
  obtain ⟨-, ⟨-, candidate⟩ | ⟨-, inside⟩⟩ := h
  · simp only [Exam.candidates, List.mem_filter, Exam.touched, mem_foldr_insertPos, decide_eq_true_eq] at candidate
    exact candidate.1.2
  · exact inside

/-- R141: the targets of the frame are those of its stored SPOT records and of its HOST records. -/
theorem Exam.mem_targets (fits : e.HostsFit) (pos : Nat) : pos ∈ e.targets ↔ e.Target pos := by
  by_cases mode : e.mode = .conceal
  case neg => simp [Exam.targets, Exam.targetsOf_of_not_conceal mode, Exam.Target, mode]
  simp only [Exam.targets, List.mem_flatMap, Exam.Target, mode, true_and]
  constructor
  · rintro ⟨d, hd, h⟩
    have target := (Exam.mem_targetsOf fits mode hd).mp h
    simp only [Exam.list, List.mem_append] at hd
    rcases hd with (stored | sensor) | host
    · rcases Exam.stored_kinds stored with spot | blotch
      · exact .inl ⟨d, stored, spot, target⟩
      · simp [Exam.TargetOf, blotch] at target
    · rcases Exam.sensors_kinds sensor with kind | kind <;> simp [Exam.TargetOf, kind] at target
    · exact .inr ⟨(e.hosted_iff pos).mpr ⟨d, host, target.1⟩, target.lt_samples⟩
  · rintro (⟨d, stored, -, target⟩ | ⟨hosted, inside⟩)
    · have listed : d ∈ e.list := by simpa only [Exam.list, List.mem_append] using .inl (.inl stored)
      exact ⟨d, listed, (Exam.mem_targetsOf fits mode listed).mpr target⟩
    · obtain ⟨d, host, within⟩ := (e.hosted_iff pos).mp hosted
      have listed : d ∈ e.list := by simpa only [Exam.list, List.mem_append] using .inr host
      have kind : d.kind = .host := by
        obtain ⟨g, -, kind, rfl⟩ := (e.mem_hosts d).mp host
        simpa using kind
      exact ⟨d, listed, (Exam.mem_targetsOf fits mode listed).mpr ⟨within, .inr ⟨kind, inside⟩⟩⟩

theorem Exam.Target.lt_samples (h : e.Target pos) : pos < e.gauge.samples := by
  obtain ⟨-, ⟨d, -, -, target⟩ | ⟨-, inside⟩⟩ := h
  · exact target.lt_samples
  · exact inside

/-! ### The repaired planes (R141) -/

/-- A target filled where it has a fill value; its infrared stays. -/
def Exam.filled (e : Exam) (pos : Nat) (v : Sample) : Sample := { v with colour := (e.fill pos).getD v.colour }

theorem Exam.repaired_read (e : Exam) (wf : e.planes.wf = true) (pos : Nat) :
    e.repaired.read pos = if pos ∈ e.targets then e.filled pos (e.planes.read pos) else e.planes.read pos := by
  refine Planes.read_foldl (h := e.filled) (fun x p hx => ?_) (fun x p q hx => ?_) (fun p v => ?_) e.targets pos _ wf
  · split
    · exact x.write_wf p _ hx
    · exact hx
  · split
    · next v fill =>
      rw [x.read_write p q _ hx]
      simp only [Exam.filled, fill, Option.getD_some]
    · next fill =>
      by_cases own : q = p
      · simp [Exam.filled, fill, own]
      · simp [own]
  · cases fill : e.fill p <;> simp [Exam.filled, fill]

/-! ### Sources and fill values (R142 to R144) -/

/-- The place at distance `j` holds a source (R144). -/
def Exam.SourceAt (e : Exam) (place : Nat → Option Nat) (j q : Nat) : Prop :=
  1 ≤ j ∧ j ≤ 16 ∧ place j = some q ∧ q ∉ e.candidates ∧ ¬ e.Hosted q

/-- The code values of the nearest source within 16 places, or none (R144). -/
def Exam.Nearest (e : Exam) (place : Nat → Option Nat) (v : Option (Rgb CodeValue)) : Prop :=
  (v = none ∧ ∀ j q, ¬ e.SourceAt place j q)
  ∨ ∃ j q, e.SourceAt place j q ∧ (∀ j' q', j' < j → ¬ e.SourceAt place j' q') ∧ v = some (e.planes.read q).colour

/-- The place `j` columns to the left, in the same row. -/
def Exam.leftOf (e : Exam) (pos j : Nat) : Option Nat := if j ≤ pos % e.gauge.width then some (pos - j) else none

/-- The place `j` columns to the right, in the same row. -/
def Exam.rightOf (e : Exam) (pos j : Nat) : Option Nat :=
  if pos % e.gauge.width + j < e.gauge.width then some (pos + j) else none

/-- The fill value of a target as R143 and R144 give it. -/
def Exam.Fills (e : Exam) (pos : Nat) (v : Option (Rgb CodeValue)) : Prop :=
  ∃ l r, e.Nearest (e.leftOf pos) l ∧ e.Nearest (e.rightOf pos) r
    ∧ v = (fillOf (e.usable e.before pos) (e.usable e.after pos)).or (fillOf l r)

/-- The model's own search of 16 places for a source. -/
def Exam.search (e : Exam) (place : Nat → Option Nat) : Option (Rgb CodeValue) :=
  ((List.range' 1 16).find? (fun k => (place k).any e.source)).bind
    (fun k => (place k).map (fun q => (e.planes.read q).colour))

/-- The infrared threshold fits a sample, and the neighbours are of the frame's own kind. -/
structure Exam.Judged (e : Exam) : Prop where
  threshold : e.settings.ithr ≤ 255
  before : ∀ x, e.before = some x → x.gradient = e.planes.gradient
  after : ∀ x, e.after = some x → x.gradient = e.planes.gradient

theorem Exam.source_iff (judged : e.Judged) (inside : pos < e.gauge.samples) :
    e.source pos = true ↔ pos ∉ e.candidates ∧ ¬ e.Hosted pos := by
  rw [e.mem_candidates pos judged.threshold judged.before judged.after, e.hosted_iff]
  simp only [Exam.source, Bool.and_eq_true, Bool.not_eq_true', ← Bool.not_eq_true, List.any_eq_true, e.within_iff, inside,
    true_and]

theorem Exam.sourceAt_iff {place : Nat → Option Nat} (judged : e.Judged)
    (inside : ∀ j q, place j = some q → q < e.gauge.samples) (j : Nat) :
    (∃ q, e.SourceAt place j q) ↔ 1 ≤ j ∧ j ≤ 16 ∧ (place j).any e.source = true := by
  cases h : place j with
  | none => simp [Exam.SourceAt, h]
  | some q => simp [Exam.SourceAt, h, Exam.source_iff judged (inside j q h)]

/-- The search finds the nearest source. -/
theorem Exam.nearest_iff {place : Nat → Option Nat} (judged : e.Judged)
    (inside : ∀ j q, place j = some q → q < e.gauge.samples) (v : Option (Rgb CodeValue)) :
    e.Nearest place v ↔ v = e.search place := by
  have at? := Exam.sourceAt_iff judged inside
  have search : e.Nearest place (e.search place) := by
    unfold Exam.search
    cases found : (List.range' 1 16).find? (fun k => (place k).any e.source) with
    | none =>
      rw [List.find?_eq_none] at found
      refine .inl ⟨rfl, fun j q h => ?_⟩
      obtain ⟨low, high, source⟩ := (at? j).mp ⟨q, h⟩
      exact found j (List.mem_range'_1.mpr ⟨low, by omega⟩) source
    | some j =>
      rw [List.find?_range'_eq_some] at found
      obtain ⟨source, mem, nearer⟩ := found
      rw [List.mem_range'_1] at mem
      obtain ⟨q, h⟩ := (at? j).mpr ⟨mem.1, by omega, source⟩
      refine .inr ⟨j, q, h, fun j' q' lt h' => ?_, ?_⟩
      · obtain ⟨low, -, source'⟩ := (at? j').mp ⟨q', h'⟩
        simpa [source'] using nearer j' low lt
      · obtain ⟨-, -, here, -, -⟩ := h
        simp [here]
  constructor
  · intro h
    rcases h with ⟨rfl, no⟩ | ⟨j, q, h, nearer, rfl⟩ <;> rcases search with ⟨e', no'⟩ | ⟨j', q', h', nearer', e'⟩
    · exact e'.symm
    · exact absurd h' (no j' q')
    · exact absurd h (no' j q)
    · have same : j = j' := by
        rcases Nat.lt_trichotomy j j' with lt | eq | gt
        · exact absurd h (nearer' j q lt)
        · exact eq
        · exact absurd h' (nearer j' q' gt)
      subst same
      have place : some q = some q' := h.2.2.1.symm.trans h'.2.2.1
      rw [e', Option.some.inj place]
  · rintro rfl
    exact search

/-- The search of a row whose place `j`, where there is one, is `q j`. -/
theorem Exam.search_row (e : Exam) (inRow : Nat → Prop) [DecidablePred inRow] (q : Nat → Nat) :
    e.search (fun j => if inRow j then some (q j) else none) =
      ((List.range' 1 16).find? (fun k => decide (inRow k) && e.source (q k))).map
        (fun k => (e.planes.read (q k)).colour) := by
  have test : (fun k => (if inRow k then some (q k) else none).any e.source)
      = fun k => decide (inRow k) && e.source (q k) := by
    funext k
    by_cases h : inRow k <;> simp [h]
  unfold Exam.search
  rw [test]
  generalize found : (List.range' 1 16).find? (fun k => decide (inRow k) && e.source (q k)) = r
  cases r with
  | none => rfl
  | some k =>
    have here : inRow k := by
      have := List.find?_some found
      simp only [Bool.and_eq_true, decide_eq_true_eq] at this
      exact this.1
    simp [here]

theorem Exam.leftSource_eq (e : Exam) (pos : Nat) : e.leftSource pos = e.search (e.leftOf pos) :=
  (e.search_row (fun j => j ≤ pos % e.gauge.width) (fun j => pos - j)).symm

theorem Exam.rightSource_eq (e : Exam) (pos : Nat) : e.rightSource pos = e.search (e.rightOf pos) :=
  (e.search_row (fun j => pos % e.gauge.width + j < e.gauge.width) (fun j => pos + j)).symm

theorem Exam.fill_eq (e : Exam) (pos : Nat) : e.fill pos =
    (fillOf (e.usable e.before pos) (e.usable e.after pos)).or (fillOf (e.leftSource pos) (e.rightSource pos)) := by
  unfold Exam.fill
  split
  · next h => rw [h, Option.some_or]
  · next h => rw [h, Option.none_or]

/-- R143, R144: the model's fill value of a sample of the geometry is the one given, and there is no other. -/
theorem Exam.fills_iff (judged : e.Judged) (inside : pos < e.gauge.samples) (v : Option (Rgb CodeValue)) :
    e.Fills pos v ↔ v = e.fill pos := by
  have left (w) := Exam.nearest_iff (place := e.leftOf pos) (v := w) judged fun j q h => by
    unfold Exam.leftOf at h
    split at h
    · cases h; exact Gauge.left_lt_samples inside j
    · cases h
  have right (w) := Exam.nearest_iff (place := e.rightOf pos) (v := w) judged fun j q h => by
    unfold Exam.rightOf at h
    split at h
    · next row => cases h; exact Gauge.right_lt_samples inside row
    · cases h
  simp only [Exam.Fills, left, right, e.fill_eq, e.leftSource_eq, e.rightSource_eq]
  exact ⟨fun ⟨_, _, hl, hr, h⟩ => by rw [h, hl, hr], fun h => ⟨_, _, rfl, rfl, h⟩⟩

/-- R142: a neighbour's sample is usable in TEMPORAL mode, and in IR mode where its infrared is clear. -/
theorem Exam.usable_eq (e : Exam) (x : Option Planes) (pos : Nat) : e.usable x pos = x.bind (fun p =>
    if e.detector = .ir ∧ (p.read pos).ir.toNat < e.settings.ithr then none else some (p.read pos).colour) := by
  cases x with
  | none => rfl
  | some p =>
    cases h : e.detector with
    | temporal => simp [Exam.usable, h]
    | ir =>
      by_cases clear : e.settings.ithr ≤ (p.read pos).ir.toNat
      · simp [Exam.usable, h, clear, Nat.not_lt.mpr clear]
      · simp [Exam.usable, h, clear, Nat.not_le.mp clear]

/-! ### Outcomes (R145) -/

/-- A SPOT or HOST record is CONCEALED when each of its targets has a fill value, and PARTIAL otherwise. -/
theorem Exam.outcome_eq (mode : e.mode = .conceal) (kind : d.kind = .spot ∨ d.kind = .host) :
    e.outcome d = if (e.targetsOf d).all (fun p => (e.fill p).isSome) then .concealed else .partly := by
  rcases kind with kind | kind <;> simp [Exam.outcome, mode, kind]

/-- The outcome of a SPOT or HOST record of the completed list, by the fill values of its targets. -/
theorem Exam.defects_outcome (judged : e.Judged) (fits : e.HostsFit) (mode : e.mode = .conceal) (hd : d ∈ e.defects)
    (kind : d.kind = .spot ∨ d.kind = .host) :
    ((∀ pos, e.TargetOf d pos → ∃ v, e.Fills pos (some v)) → d.outcome = .concealed)
    ∧ ((∃ pos, e.TargetOf d pos ∧ e.Fills pos none) → d.outcome = .partly) := by
  obtain ⟨q, hq, rfl⟩ := List.mem_map.mp hd
  have all : (e.targetsOf q).all (fun p => (e.fill p).isSome) = true
      ↔ ∀ pos, e.TargetOf q pos → (e.fill pos).isSome = true := by
    simp only [List.all_eq_true, Exam.mem_targetsOf fits mode hq]
  refine ⟨fun each => ?_, fun ⟨pos, target, unfilled⟩ => ?_⟩
  · refine (Exam.outcome_eq mode kind).trans (if_pos (all.mpr fun pos target => ?_))
    obtain ⟨v, hv⟩ := each pos target
    rw [← (Exam.fills_iff judged target.lt_samples _).mp hv]
    rfl
  · refine (Exam.outcome_eq mode kind).trans (if_neg fun every => ?_)
    have filled := all.mp every pos target
    rw [← (Exam.fills_iff judged target.lt_samples _).mp unfilled] at filled
    cases filled

/-! ### The statement -/

/-- Settles O48: the pattern frame by reading after a list of writes, and a repair by the targets of each record of the
completed list, the search for the nearest source, and the fill value of each target. -/
theorem patternAndRepairedFrames : Obligations.PatternAndRepairedFrames := by
  unfold Obligations.PatternAndRepairedFrames
  refine ⟨?_, ?_⟩
  · intro k row col _ hc
    simp only [patternPlanes_sample k row col hc]
    exact ⟨fun spot => by rw [if_pos spot]; exact ⟨rfl, rfl⟩, fun clear => by rw [if_neg clear]; exact ⟨rfl, rfl⟩⟩
  · intro e wf threshold before after fits within hosted targetOf target usable up mean sourceAt nearest left right fills
    have judged : e.Judged := ⟨threshold, before, after⟩
    have meanEq : mean = fillOf := by
      funext a b
      cases a <;> cases b <;> rfl
    have usableEq : usable = e.usable := by
      funext x pos
      exact (e.usable_eq x pos).symm
    have fillsEq : fills = e.Fills := by
      simp only [fills, meanEq, usableEq]
      rfl
    have targetEq : target = e.Target := rfl
    have targetOfEq : targetOf = e.TargetOf := rfl
    rw [fillsEq, targetEq, targetOfEq]
    refine ⟨e.repaired_wf wf, fun pos => ⟨Exam.mem_targets fits pos, ?_, fun untouched => ?_, fun target => ?_⟩,
      fun d hd mode kind => Exam.defects_outcome judged fits mode hd kind⟩
    · rw [e.repaired_read wf]
      split <;> rfl
    · rw [e.repaired_read wf, if_neg ((Exam.mem_targets fits pos).not.mpr untouched)]
    · refine ⟨e.fill pos, (Exam.fills_iff judged target.lt_samples _).mpr rfl, ?_⟩
      rw [e.repaired_read wf, if_pos ((Exam.mem_targets fits pos).mpr target)]
      rfl

end Sys2Proof.Machine
end

section
/-!
PROOFS. Every operation leaves the commands that wait: the registry, custody, the lift, captures and lanes, the frame
store, the work orders and the delivery unit. An operation is gone through once, branch by branch, by what its parts leave.
-/

-- One proof after another, as in the model's tests: each thread's stack counts against the memory limit.
set_option Elab.async false

namespace Sys2Proof.Machine

/-! ### Answers and the registry -/

/-- What a fold's step keeps, the fold keeps. -/
theorem State.foldl_pending {α : Type} {f : State → α → State} (step : ∀ s a, (f s a).pending = s.pending) (l : List α)
    (s : State) : (l.foldl f s).pending = s.pending := by
  induction l generalizing s with
  | nil => rfl
  | cons a l ih => exact (ih (f s a)).trans (step s a)

@[simp] theorem State.refuse_pending (s : State) (r : Reason) : (s.refuse r).1.pending = s.pending := rfl

@[simp] theorem State.doneEmpty_pending (s : State) : s.doneEmpty.1.pending = s.pending := rfl

@[simp] theorem State.answer_pending (s : State) (a : Answer) : (s.answer a).1.pending = s.pending := rfl

@[simp] theorem State.loseReel_pending (s : State) (i : Nat) : (s.loseReel i).pending = s.pending := by
  simp [State.loseReel]

@[simp] theorem State.recordReading_pending (s : State) (st : StationId) (i : Nat) (reading : Int) :
    (s.recordReading st i reading).pending = s.pending := by
  unfold State.recordReading
  dsimp only
  repeat' split
  all_goals simp

@[simp] theorem State.applySplice_pending (s : State) (st : StationId) (i n : Nat) :
    (s.applySplice st i n).pending = s.pending := by
  unfold State.applySplice
  repeat' split
  all_goals simp

@[simp] theorem State.beginPass_pending (s : State) (st : StationId) (i : Nat) :
    (s.beginPass st i).pending = s.pending := by simp [State.beginPass]

/-! ### Custody -/

@[simp] theorem State.pauseOrder_pending (s : State) (st : StationId) : (s.pauseOrder st).pending = s.pending := rfl

@[simp] theorem State.stationMismatch_pending (s : State) (st : StationId) :
    (s.stationMismatch st).pending = s.pending := by
  unfold State.stationMismatch
  dsimp only
  repeat' split
  all_goals simp

@[simp] theorem State.stationVerified_pending (s : State) (st : StationId) :
    (s.stationVerified st).pending = s.pending := rfl

@[simp] theorem State.evaluateCustody_pending (s : State) (st : StationId) :
    (s.evaluateCustody st).pending = s.pending := by
  unfold State.evaluateCustody
  dsimp only
  repeat' split
  all_goals simp

@[simp] theorem State.canArrived_pending (s : State) (st : StationId) : (s.canArrived st).pending = s.pending := by
  simp [State.canArrived]

/-! ### The lift -/

@[simp] theorem State.followDwell_pending (s : State) : s.followDwell.pending = s.pending := rfl

@[simp] theorem State.announce_pending (s : State) (p : Nat) : (s.announce p).pending = s.pending := by
  unfold State.announce
  repeat' split
  all_goals simp

@[simp] theorem State.announceAll_pending (s : State) : s.announceAll.pending = s.pending :=
  State.foldl_pending State.announce_pending (List.range 8) s

@[simp] theorem State.reservePlace_pending (s : State) (l : Location) : (s.reservePlace l).pending = s.pending := by
  unfold State.reservePlace
  split <;> simp

@[simp] theorem State.tellStart_pending (s : State) (m : MoveRecord) : (s.tellStart m).pending = s.pending := by
  unfold State.tellStart
  split <;> simp

@[simp] theorem State.takeLoad_pending (s : State) (m : MoveRecord) (dest : Location) :
    (s.takeLoad m dest).pending = s.pending := by
  unfold State.takeLoad
  split <;> simp

@[simp] theorem State.startMove_pending (s : State) (before after : List MoveRecord) (m : MoveRecord)
    (dest : Location) : (s.startMove before after m dest).pending = s.pending := by simp [State.startMove]

@[simp] theorem State.arbitrate_pending (s : State) (before l : List MoveRecord) :
    (s.arbitrate before l).pending = s.pending := by
  induction l generalizing s before with
  | nil => rfl
  | cons m l ih =>
    unfold State.arbitrate
    split
    · split <;> simp [ih]
    · exact ih s _

@[simp] theorem State.liftArbiter_pending (s : State) : s.liftArbiter.pending = s.pending := by
  unfold State.liftArbiter
  split <;> simp

@[simp] theorem State.settle_pending (s : State) : s.settle.pending = s.pending := by simp [State.settle]

@[simp] theorem State.freePlace_pending (s : State) (l : Location) : (s.freePlace l).pending = s.pending := by
  unfold State.freePlace
  split <;> simp

@[simp] theorem State.placeAt_pending (s : State) (l : Location) (state : StagingState) :
    (s.placeAt l state).pending = s.pending := by
  unfold State.placeAt
  split <;> simp

@[simp] theorem State.endReservation_pending (s : State) (m : MoveRecord) :
    (s.endReservation m).pending = s.pending := by
  unfold State.endReservation
  split <;> simp

@[simp] theorem State.endAtDestination_pending (s : State) (m : MoveRecord) (dest : Location) :
    (s.endAtDestination m dest).pending = s.pending := by
  unfold State.endAtDestination
  repeat' split
  all_goals simp

@[simp] theorem State.endAtSource_pending (s : State) (m : MoveRecord) (dest : Location) :
    (s.endAtSource m dest).pending = s.pending := by
  unfold State.endAtSource
  repeat' split
  all_goals simp

@[simp] theorem State.completeMove_pending (s : State) (m : MoveRecord) : (s.completeMove m).pending = s.pending := by
  unfold State.completeMove
  split <;> simp

@[simp] theorem State.haltMove_pending (s : State) (c : HaltCause) : (s.haltMove c).pending = s.pending := rfl

@[simp] theorem State.haltIdle_pending (s : State) (c : HaltCause) : (s.haltIdle c).pending = s.pending := rfl

@[simp] theorem State.redirect_pending (s : State) (m : MoveRecord) (target : MoveTarget) :
    (s.redirect m target).pending = s.pending := rfl

@[simp] theorem State.loseCarried_pending (s : State) : s.loseCarried.pending = s.pending := by
  unfold State.loseCarried
  split <;> simp

/-! ### Captures and lanes -/

@[simp] theorem State.beginPassIfFirst_pending (s : State) (st : StationId) :
    (s.beginPassIfFirst st).pending = s.pending := by
  unfold State.beginPassIfFirst
  repeat' split
  all_goals simp

@[simp] theorem State.beginCapture_pending (s : State) (st : StationId) (f : Nat) :
    (s.beginCapture st f).pending = s.pending := by
  unfold State.beginCapture
  split <;> simp

@[simp] theorem State.preroll_pending (s : State) (st : StationId) : (s.preroll st).pending = s.pending := by
  unfold State.preroll
  split <;> simp

@[simp] theorem State.takeFallback_pending (s : State) (st : StationId) :
    (s.takeFallback st).pending = s.pending := by
  unfold State.takeFallback
  dsimp only
  repeat' split
  all_goals simp

@[simp] theorem State.offerFrame_pending (s : State) (st : StationId) : (s.offerFrame st).pending = s.pending := by
  unfold State.offerFrame
  repeat' split
  all_goals simp

@[simp] theorem State.recover_pending (s : State) (st : StationId) : (s.recover st).pending = s.pending := by
  unfold State.recover
  dsimp only
  repeat' split
  all_goals simp

@[simp] theorem State.offerSlots_pending (s : State) : s.offerSlots.pending = s.pending := by simp [State.offerSlots]

@[simp] theorem State.withdrawMarks_pending (s : State) : s.withdrawMarks.pending = s.pending := by
  unfold State.withdrawMarks
  split <;> simp

@[simp] theorem State.grantLane_pending (s : State) : s.grantLane.pending = s.pending := by
  unfold State.grantLane
  split <;> simp

@[simp] theorem State.grantLanes_pending (s : State) : s.grantLanes.pending = s.pending := by simp [State.grantLanes]

@[simp] theorem State.markExpired_pending (s : State) : s.markExpired.pending = s.pending := by
  unfold State.markExpired
  repeat' split
  all_goals simp

@[simp] theorem State.joinWaitList_pending (s : State) (st : StationId) :
    (s.joinWaitList st).pending = s.pending := by
  unfold State.joinWaitList
  split <;> simp

@[simp] theorem State.leaveWaitList_pending (s : State) (st : StationId) : (s.leaveWaitList st).pending = s.pending := by
  simp [State.leaveWaitList]

@[simp] theorem State.releaseLane_pending (s : State) (l : LaneId) : (s.releaseLane l).pending = s.pending := by
  simp [State.releaseLane]

@[simp] theorem State.leaveLanes_pending (s : State) (st : StationId) : (s.leaveLanes st).pending = s.pending := by
  unfold State.leaveLanes
  dsimp only
  split <;> simp

@[simp] theorem State.abandonQuietly_pending (s : State) (st : StationId) :
    (s.abandonQuietly st).pending = s.pending := by
  unfold State.abandonQuietly
  repeat' split
  all_goals simp

@[simp] theorem State.abandon_pending (s : State) (st : StationId) : (s.abandon st).pending = s.pending := by
  unfold State.abandon
  split <;> simp

@[simp] theorem State.markStop_pending (s : State) (st : StationId) (p : StopPending) :
    (s.markStop st p).pending = s.pending := by
  unfold State.markStop
  dsimp only
  repeat' split
  all_goals simp

@[simp] theorem State.feed_pending (s : State) (st : StationId) : (s.feed st).pending = s.pending := by
  unfold State.feed
  dsimp only
  split <;> simp

@[simp] theorem State.haltIfDone_pending (s : State) (st : StationId) : (s.haltIfDone st).pending = s.pending := by
  unfold State.haltIfDone
  dsimp only
  repeat' split
  all_goals simp

@[simp] theorem State.giveStop_pending (s : State) (st : StationId) (p : StopPending) :
    (s.giveStop st p).pending = s.pending := by
  unfold State.giveStop
  split <;> simp

@[simp] theorem State.starve_pending (s : State) (st : StationId) (f : Nat) :
    (s.starve st f).pending = s.pending := by
  unfold State.starve
  dsimp only
  split <;> simp

/-! ### The frame store -/

@[simp] theorem State.startAnalysis_pending (s : State) : s.startAnalysis.pending = s.pending := by
  unfold State.startAnalysis
  dsimp only
  repeat' split
  all_goals simp

@[simp] theorem State.testEligible_pending (s : State) (k : Nat) : (s.testEligible k).pending = s.pending := by
  unfold State.testEligible
  repeat' split
  all_goals simp

@[simp] theorem State.testFrame_pending (s : State) (st : StationId) (f : Nat) :
    (s.testFrame st f).pending = s.pending := by
  unfold State.testFrame
  split <;> simp

@[simp] theorem State.storeCapture_pending (s : State) (c : Capture) (planes : Planes) :
    (s.storeCapture c planes).pending = s.pending := by
  unfold State.storeCapture
  dsimp only
  split <;> simp

@[simp] theorem State.endOfCapture_pending (s : State) (st : StationId) :
    (s.endOfCapture st).pending = s.pending := by
  unfold State.endOfCapture
  repeat' split
  all_goals simp

@[simp] theorem State.sensorRecord_pending (s : State) (st : StationId) (f : Nat) (kind : DefectKind) :
    (s.sensorRecord st f kind).pending = s.pending := by
  unfold State.sensorRecord
  repeat' split
  all_goals simp

@[simp] theorem State.closeSlots_pending (s : State) (st : StationId) (freed : Bool) :
    (s.closeSlots st freed).pending = s.pending := by
  unfold State.closeSlots
  dsimp only
  split <;> simp

/-! ### Work orders and deliveries -/

@[simp] theorem State.closeStation_pending (s : State) (st : StationId) :
    (s.closeStation st).pending = s.pending := by
  unfold State.closeStation
  dsimp only
  repeat' split
  all_goals simp

@[simp] theorem State.closeOrder_pending (s : State) (st : StationId) (ending : OrderEnd) (quiet freed : Bool) :
    (s.closeOrder st ending quiet freed).pending = s.pending := by
  unfold State.closeOrder
  dsimp only
  repeat' split
  all_goals simp

@[simp] theorem State.abortOrder_pending (s : State) (st : StationId) (quiet : Bool) :
    (s.abortOrder st quiet).pending = s.pending := by
  unfold State.abortOrder
  split <;> simp

@[simp] theorem State.closingTest_pending (s : State) (st : StationId) : (s.closingTest st).pending = s.pending := by
  unfold State.closingTest
  dsimp only
  repeat' split
  all_goals simp

@[simp] theorem State.afterCapture_pending (s : State) (st : StationId) :
    (s.afterCapture st).pending = s.pending := by
  unfold State.afterCapture
  split <;> simp

@[simp] theorem State.drain_pending (s : State) (st : StationId) (ending : OrderEnd) :
    (s.drain st ending).pending = s.pending := rfl

@[simp] theorem State.captureProgress_pending (s : State) (st : StationId) (f : Nat) :
    (s.captureProgress st f).pending = s.pending := by
  unfold State.captureProgress
  dsimp only
  repeat' split
  all_goals simp

@[simp] theorem State.stationAction_pending (s : State) (st : StationId) :
    (s.stationAction st).pending = s.pending := by
  unfold State.stationAction
  dsimp only
  repeat' split
  all_goals simp

@[simp] theorem State.advanceDeliver_pending (s : State) (st : StationId) (f : Nat) :
    (s.advanceDeliver st f).pending = s.pending := rfl

@[simp] theorem State.faultOrder_pending (s : State) (st : StationId) : (s.faultOrder st).pending = s.pending := by
  simp [State.faultOrder]

@[simp] theorem State.startDelivery_pending (s : State) (st : StationId) (b : OrderBody) (i : Item) :
    (s.startDelivery st b i).pending = s.pending := by
  unfold State.startDelivery
  dsimp only
  repeat' split
  all_goals simp

@[simp] theorem State.deliveryArbiter_pending (s : State) : s.deliveryArbiter.pending = s.pending := by
  unfold State.deliveryArbiter
  repeat' split
  all_goals simp

@[simp] theorem State.arbiterAtStart_pending (s : State) (st : StationId) :
    (s.arbiterAtStart st).pending = s.pending := by
  unfold State.arbiterAtStart
  split <;> simp

@[simp] theorem State.headLeaves_pending (next : State → State) (after : ∀ t, (next t).pending = t.pending) (s : State) :
    (s.headLeaves next).pending = s.pending := by
  unfold State.headLeaves
  split <;> simp [after]

end Sys2Proof.Machine
end

section
/-!
PROOFS. Every operation leaves the commands that wait: the stations' reports and requests, and the requests to the work
orders and the picture blocks.
-/

-- One proof after another, as in the model's tests: each thread's stack counts against the memory limit.
set_option Elab.async false

namespace Sys2Proof.Machine

/-! ### Station requests -/

@[simp] theorem State.setStation_pending (s : State) (n : Nat) (filter tenure : Option Nat) :
    (s.setStation n filter tenure).1.pending = s.pending := by
  unfold State.setStation
  split <;> simp

@[simp] theorem State.freeSource_pending (s : State) (st : StationId) : (s.freeSource st).pending = s.pending := rfl

@[simp] theorem State.reverifyIn_pending (s : State) (st : StationId) : (s.reverifyIn st).pending = s.pending := by
  unfold State.reverifyIn
  split <;> simp

@[simp] theorem State.rediscover_pending (s : State) (st : StationId) : (s.rediscover st).pending = s.pending := by
  simp [State.rediscover]

@[simp] theorem State.stationReset_pending (s : State) (n : Nat) : (s.stationReset n).1.pending = s.pending := by
  unfold State.stationReset
  split <;> simp

@[simp] theorem State.loopbackOn_pending (s : State) (n : Nat) : (s.loopbackOn n).1.pending = s.pending := by
  unfold State.loopbackOn
  repeat' split
  all_goals simp

@[simp] theorem State.loopbackOff_pending (s : State) (n : Nat) : (s.loopbackOff n).1.pending = s.pending := by
  unfold State.loopbackOff
  repeat' split
  all_goals simp

@[simp] theorem State.releaseNow_pending (s : State) (l : LaneId) (holder : StationId) :
    (s.releaseNow l holder).pending = s.pending := by
  unfold State.releaseNow
  split <;> simp

@[simp] theorem State.forceRelease_pending (s : State) (n : Nat) : (s.forceRelease n).1.pending = s.pending := by
  unfold State.forceRelease
  repeat' split
  all_goals simp

@[simp] theorem State.queryLanes_pending (s : State) : s.queryLanes.1.pending = s.pending := rfl

/-! ### Heartbeat and discovery -/

@[simp] theorem State.raiseLost_pending (s : State) (st : StationId) : (s.raiseLost st).pending = s.pending := rfl

@[simp] theorem State.heartbeatFailed_pending (s : State) (st : StationId) :
    (s.heartbeatFailed st).pending = s.pending := by
  unfold State.heartbeatFailed
  split <;> simp

@[simp] theorem State.discover_pending (s : State) (st : StationId) : (s.discover st).pending = s.pending := rfl

@[simp] theorem State.attached_pending (s : State) (st : StationId) : (s.attached st).pending = s.pending := by
  unfold State.attached
  split <;> simp

@[simp] theorem State.discoveryExpired_pending (s : State) (st : StationId) :
    (s.discoveryExpired st).pending = s.pending := rfl

@[simp] theorem State.heartbeatTaken_pending (s : State) (st : StationId) :
    (s.heartbeatTaken st).pending = s.pending := rfl

@[simp] theorem State.heartbeatExpired_pending (s : State) (st : StationId) :
    (s.heartbeatExpired st).pending = s.pending := by
  unfold State.heartbeatExpired
  dsimp only
  split <;> simp

@[simp] theorem State.foundCan_pending (s : State) (st : StationId) (threaded : Bool) :
    (s.foundCan st threaded).pending = s.pending := by simp [State.foundCan]

@[simp] theorem State.foundEmpty_pending (s : State) (st : StationId) : (s.foundEmpty st).pending = s.pending := by
  unfold State.foundEmpty
  split <;> simp

@[simp] theorem State.identTaken_pending (s : State) (st : StationId) (f : IdentFields) :
    (s.identTaken st f).pending = s.pending := by
  unfold State.identTaken
  repeat' split
  all_goals simp

/-! ### Chamber, film and custody -/

@[simp] theorem State.canGone_pending (s : State) (st : StationId) : (s.canGone st).pending = s.pending := by
  unfold State.canGone
  dsimp only
  split <;> simp

@[simp] theorem State.canSensed_pending (s : State) (st : StationId) (present : Bool) :
    (s.canSensed st present).pending = s.pending := by
  unfold State.canSensed
  dsimp only
  repeat' split
  all_goals simp

@[simp] theorem State.readTaken_pending (s : State) (st : StationId) (f : Station → Station) :
    (s.readTaken st f).pending = s.pending := by
  unfold State.readTaken
  dsimp only
  repeat' split
  all_goals simp

@[simp] theorem State.tagTaken_pending (s : State) (st : StationId) (tag : CanTag) :
    (s.tagTaken st tag).pending = s.pending := by simp [State.tagTaken]

@[simp] theorem State.markTaken_pending (s : State) (st : StationId) (mark : HeadMark) :
    (s.markTaken st mark).pending = s.pending := by simp [State.markTaken]

@[simp] theorem State.threadedTaken_pending (s : State) (st : StationId) : (s.threadedTaken st).pending = s.pending :=
  rfl

@[simp] theorem State.doubt_pending (s : State) (st : StationId) : (s.doubt st).pending = s.pending := by
  unfold State.doubt
  split <;> simp

@[simp] theorem State.filmOut_pending (s : State) (st : StationId) : (s.filmOut st).pending = s.pending := by
  unfold State.filmOut
  dsimp only
  split <;> simp

@[simp] theorem State.unthreadedTaken_pending (s : State) (st : StationId) :
    (s.unthreadedTaken st).pending = s.pending := by
  unfold State.unthreadedTaken
  split <;> simp

@[simp] theorem State.acidTaken_pending (s : State) (st : StationId) (reading : Int) :
    (s.acidTaken st reading).pending = s.pending := by
  unfold State.acidTaken
  dsimp only
  repeat' split
  all_goals simp

/-! ### The running pass -/

@[simp] theorem State.atSpeedTaken_pending (s : State) (st : StationId) (count : Nat) :
    (s.atSpeedTaken st count).pending = s.pending := by
  unfold State.atSpeedTaken
  split <;> simp

@[simp] theorem State.reposition_pending (s : State) (st : StationId) : (s.reposition st).pending = s.pending := by
  unfold State.reposition
  split <;> simp

@[simp] theorem State.judgeGate_pending (s : State) (st : StationId) (f : Nat) :
    (s.judgeGate st f).pending = s.pending := by
  unfold State.judgeGate
  dsimp only
  repeat' split
  all_goals simp

@[simp] theorem State.gateTaken_pending (s : State) (st : StationId) (count : Nat) :
    (s.gateTaken st count).pending = s.pending := by
  unfold State.gateTaken
  repeat' split
  all_goals simp

@[simp] theorem State.rewoundTaken_pending (s : State) (st : StationId) : (s.rewoundTaken st).pending = s.pending :=
  rfl

@[simp] theorem State.addTear_pending (s : State) (st : StationId) : (s.addTear st).pending = s.pending := by
  unfold State.addTear
  split <;> simp

@[simp] theorem State.tearFound_pending (s : State) (st : StationId) (f : Option Nat) :
    (s.tearFound st f).pending = s.pending := by
  unfold State.tearFound
  repeat' split
  all_goals simp

@[simp] theorem State.tearTaken_pending (s : State) (st : StationId) (count : Nat) :
    (s.tearTaken st count).pending = s.pending := by
  unfold State.tearTaken
  dsimp only
  repeat' split
  all_goals simp

@[simp] theorem State.spliceTaken_pending (s : State) (st : StationId) (count : Nat) :
    (s.spliceTaken st count).pending = s.pending := by
  unfold State.spliceTaken
  repeat' split
  all_goals simp

@[simp] theorem State.intervalAccepted_pending (s : State) (st : StationId) (i : Nat) (v : Int) :
    (s.intervalAccepted st i v).pending = s.pending := by
  unfold State.intervalAccepted
  dsimp only
  split <;> simp

@[simp] theorem State.leadingEdge_pending (s : State) (st : StationId) (i pitch x : Nat) :
    (s.leadingEdge st i pitch x).pending = s.pending := by
  unfold State.leadingEdge
  repeat' split
  all_goals simp

@[simp] theorem State.perfTaken_pending (s : State) (st : StationId) (f : PerfFields) :
    (s.perfTaken st f).pending = s.pending := by
  unfold State.perfTaken
  dsimp only
  repeat' split
  · rfl
  · rfl
  · rfl
  · exact State.foldl_pending (fun s => s.leadingEdge_pending st _ _) _ _

@[simp] theorem State.breakTaken_pending (s : State) (st : StationId) : (s.breakTaken st).pending = s.pending := by
  unfold State.breakTaken
  split <;> simp

@[simp] theorem State.seizeTaken_pending (s : State) (st : StationId) (names : List Byte) :
    (s.seizeTaken st names).pending = s.pending := by
  unfold State.seizeTaken
  dsimp only
  repeat' split
  all_goals simp

/-! ### Work order requests -/

@[simp] theorem State.fillOrder_pending (s : State) (st : StationId) (b : OrderBody) (p : Profile) (cues : List Cue) :
    (s.fillOrder st b p cues).pending = s.pending := rfl

@[simp] theorem State.openReel_pending (s : State) (st : StationId) (i first asked : Nat) (p : Profile)
    (cues : List Cue) : (s.openReel st i first asked p cues).1.pending = s.pending := by
  unfold State.openReel
  dsimp only
  repeat' split
  all_goals simp

@[simp] theorem State.openLoopback_pending (s : State) (st : StationId) (n : Nat) (p : Profile) (cues : List Cue) :
    (s.openLoopback st n p cues).1.pending = s.pending := by
  unfold State.openLoopback
  dsimp only
  repeat' split
  all_goals simp

@[simp] theorem State.openOrder_pending (s : State) (f : OpenFields) : (s.openOrder f).1.pending = s.pending := by
  unfold State.openOrder
  dsimp only
  repeat' split
  all_goals simp

@[simp] theorem State.setCues_pending (s : State) (n : Nat) (cues : List Cue) :
    (s.setCues n cues).1.pending = s.pending := by
  unfold State.setCues
  repeat' split
  all_goals simp

@[simp] theorem State.activate_pending (s : State) (st : StationId) : (s.activate st).pending = s.pending := rfl

@[simp] theorem State.startEmpty_pending (s : State) (st : StationId) : (s.startEmpty st).1.pending = s.pending := by
  simp [State.startEmpty]

@[simp] theorem State.startLoopback_pending (s : State) (st : StationId) :
    (s.startLoopback st).1.pending = s.pending := by simp [State.startLoopback]

@[simp] theorem State.startReel_pending (s : State) (st : StationId) (r : Reel) :
    (s.startReel st r).1.pending = s.pending := by simp [State.startReel]

@[simp] theorem State.start_pending (s : State) (n : Nat) : (s.start n).1.pending = s.pending := by
  unfold State.start
  dsimp only
  repeat' split
  all_goals simp

@[simp] theorem State.pause_pending (s : State) (n : Nat) : (s.pause n).1.pending = s.pending := by
  unfold State.pause
  repeat' split
  all_goals simp

@[simp] theorem State.stop_pending (s : State) (n : Nat) : (s.stop n).1.pending = s.pending := by
  unfold State.stop
  repeat' split
  all_goals simp

@[simp] theorem State.abort_pending (s : State) (n : Nat) : (s.abort n).1.pending = s.pending := by
  unfold State.abort
  repeat' split
  all_goals simp

/-! ### Requests to the picture blocks -/

@[simp] theorem State.markDefect_pending (s : State) (n f : Nat) (t : TileSpan) :
    (s.markDefect n f t).1.pending = s.pending := by
  unfold State.markDefect
  dsimp only
  repeat' split
  all_goals simp

@[simp] theorem State.setDetector_pending (s : State) (f : DetectorFields) :
    (s.setDetector f).1.pending = s.pending := rfl

@[simp] theorem State.queryDetector_pending (s : State) : s.queryDetector.1.pending = s.pending := rfl

@[simp] theorem State.setKeyframe_pending (s : State) (f : KeyframeFields) :
    (s.setKeyframe f).1.pending = s.pending := by
  unfold State.setKeyframe
  repeat' split
  all_goals simp

@[simp] theorem State.deleteKeyframe_pending (s : State) (i k : Nat) :
    (s.deleteKeyframe i k).1.pending = s.pending := by
  unfold State.deleteKeyframe
  repeat' split
  all_goals simp

@[simp] theorem State.clearGradeList_pending (s : State) (i : Nat) : (s.clearGradeList i).1.pending = s.pending := by
  unfold State.clearGradeList
  split <;> simp

@[simp] theorem State.queryDelivery_pending (s : State) : s.queryDelivery.1.pending = s.pending := rfl

end Sys2Proof.Machine
end

section
/-!
PROOFS. Every operation leaves the commands that wait: the requests to the registry and the stacks, the reports of the
lift, the link controller and the completions. With these, every command is answered by a next state (R64, R180).
-/

-- One proof after another, as in the model's tests: each thread's stack counts against the memory limit.
set_option Elab.async false

namespace Sys2Proof.Machine

/-! ### Registry requests -/

@[simp] theorem State.identifyAt_pending (s : State) (l : Location) : (s.identifyAt l).pending = s.pending := by
  unfold State.identifyAt
  split <;> simp

@[simp] theorem State.enrollReel_pending (s : State) (f : EnrollFields) : (s.enrollReel f).1.pending = s.pending := by
  unfold State.enrollReel
  dsimp only
  repeat' split
  all_goals simp

@[simp] theorem State.amendReel_pending (s : State) (i : Nat) (f : AmendFields) :
    (s.amendReel i f).1.pending = s.pending := by
  unfold State.amendReel
  dsimp only
  repeat' split
  all_goals simp

@[simp] theorem State.locateReel_pending (s : State) (i : Nat) (place : Location) :
    (s.locateReel i place).1.pending = s.pending := by
  unfold State.locateReel
  dsimp only
  repeat' split
  all_goals simp

@[simp] theorem State.retireReel_pending (s : State) (i : Nat) : (s.retireReel i).1.pending = s.pending := by
  unfold State.retireReel
  repeat' split
  all_goals simp

@[simp] theorem State.queryReel_pending (s : State) (i : Nat) : (s.queryReel i).1.pending = s.pending := by
  simp [State.queryReel]

@[simp] theorem State.listReels_pending (s : State) : s.listReels.1.pending = s.pending := rfl

@[simp] theorem State.querySegments_pending (s : State) (i : Nat) : (s.querySegments i).1.pending = s.pending := by
  simp [State.querySegments]

@[simp] theorem State.queryPassHistory_pending (s : State) (i : Nat) : (s.queryPassHistory i).1.pending = s.pending := by
  simp [State.queryPassHistory]

@[simp] theorem State.setSegments_pending (s : State) (i : Nat) (map : List Segment) :
    (s.setSegments i map).1.pending = s.pending := by
  unfold State.setSegments
  repeat' split
  all_goals simp

@[simp] theorem State.setSegmentMode_pending (s : State) (i f : Nat) (repair : Option RepairMode)
    (grade : Option GradeMode) : (s.setSegmentMode i f repair grade).1.pending = s.pending := by
  unfold State.setSegmentMode
  repeat' split
  all_goals simp

@[simp] theorem State.setQuarantineThreshold_pending (s : State) (v : Nat) :
    (s.setQuarantineThreshold v).1.pending = s.pending := rfl

@[simp] theorem State.releaseQuarantine_pending (s : State) (i : Nat) :
    (s.releaseQuarantine i).1.pending = s.pending := by
  unfold State.releaseQuarantine
  repeat' split
  all_goals simp

@[simp] theorem State.releaseHold_pending (s : State) (i : Nat) : (s.releaseHold i).1.pending = s.pending := by
  unfold State.releaseHold
  split <;> simp

/-! ### Stack requests -/

@[simp] theorem State.setDwell_pending (s : State) (z : Zone) (v : Nat) : (s.setDwell z v).1.pending = s.pending := by
  unfold State.setDwell
  split <;> simp

@[simp] theorem State.queryStaging_pending (s : State) : s.queryStaging.1.pending = s.pending := rfl

@[simp] theorem State.enqueueMove_pending (s : State) (m : MoveRecord) : (s.enqueueMove m).1.pending = s.pending := by
  unfold State.enqueueMove
  split <;> simp

@[simp] theorem State.fetch_pending (s : State) (i : Nat) : (s.fetch i).1.pending = s.pending := by
  unfold State.fetch
  repeat' split
  all_goals simp

@[simp] theorem State.mount_pending (s : State) (i n : Nat) (wait : Bool) :
    (s.mount i n wait).1.pending = s.pending := by
  unfold State.mount
  repeat' split
  all_goals simp

@[simp] theorem State.unmount_pending (s : State) (n : Nat) : (s.unmount n).1.pending = s.pending := by
  unfold State.unmount
  repeat' split
  all_goals simp

@[simp] theorem State.reshelve_pending (s : State) (i : Nat) : (s.reshelve i).1.pending = s.pending := by
  unfold State.reshelve
  repeat' split
  all_goals simp

@[simp] theorem State.cancelMove_pending (s : State) (n : MoveName) : (s.cancelMove n).1.pending = s.pending := by
  unfold State.cancelMove
  repeat' split
  all_goals simp

@[simp] theorem State.queryLift_pending (s : State) : s.queryLift.1.pending = s.pending := rfl

@[simp] theorem State.stopLift_pending (s : State) : s.stopLift.1.pending = s.pending := by
  unfold State.stopLift
  split <;> simp

@[simp] theorem State.resumeLift_pending (s : State) : s.resumeLift.1.pending = s.pending := by
  unfold State.resumeLift
  repeat' split
  all_goals simp

@[simp] theorem State.returnLift_pending (s : State) : s.returnLift.1.pending = s.pending := by
  unfold State.returnLift
  repeat' split
  all_goals simp

@[simp] theorem State.liftDirect_pending (s : State) : s.liftDirect.1.pending = s.pending := by
  unfold State.liftDirect
  split <;> simp

@[simp] theorem State.liftRelease_pending (s : State) : s.liftRelease.1.pending = s.pending := by
  unfold State.liftRelease
  split <;> simp

@[simp] theorem State.forward_pending (s : State) (c : ForwardedCommand) : (s.forward c).pending = s.pending := rfl

@[simp] theorem State.pass_pending (s : State) (c : ForwardedCommand) (r : Option Reason) :
    (s.pass c r).1.pending = s.pending := by
  unfold State.pass
  split <;> simp

@[simp] theorem State.liftPassGoTo_pending (s : State) (l : Location) : (s.liftPassGoTo l).1.pending = s.pending := by
  simp [State.liftPassGoTo]

@[simp] theorem State.liftPassPick_pending (s : State) (l : Location) : (s.liftPassPick l).1.pending = s.pending := by
  simp [State.liftPassPick]

@[simp] theorem State.liftPassPlace_pending (s : State) (l : Location) : (s.liftPassPlace l).1.pending = s.pending := by
  simp [State.liftPassPlace]

@[simp] theorem State.liftPassPark_pending (s : State) : s.liftPassPark.1.pending = s.pending := by
  simp [State.liftPassPark]

/-! ### Reports of the lift -/

@[simp] theorem State.liftArrived_pending (s : State) (number : Nat) :
    (s.liftArrived number).pending = s.pending := by
  unfold State.liftArrived
  split <;> simp

@[simp] theorem State.moveTimeout_pending (s : State) : s.moveTimeout.pending = s.pending := by
  unfold State.moveTimeout
  split <;> simp

@[simp] theorem State.liftFaulted_pending (s : State) : s.liftFaulted.pending = s.pending := by
  unfold State.liftFaulted
  split <;> simp

@[simp] theorem State.endForwardedIf_pending (s : State) (p : ForwardedCommand → Bool) :
    (s.endForwardedIf p).pending = s.pending := by
  unfold State.endForwardedIf
  split <;> simp

@[simp] theorem State.pickAt_pending (s : State) (l : Location) : (s.pickAt l).pending = s.pending := by
  unfold State.pickAt
  dsimp only
  repeat' split
  all_goals simp

@[simp] theorem State.liftPicked_pending (s : State) (l : Location) : (s.liftPicked l).pending = s.pending := by
  unfold State.liftPicked
  split <;> simp

@[simp] theorem State.placeReel_pending (s : State) (i : Nat) (l : Location) :
    (s.placeReel i l).pending = s.pending := by
  unfold State.placeReel
  repeat' split
  all_goals simp

@[simp] theorem State.placeUnidentified_pending (s : State) (l : Location) :
    (s.placeUnidentified l).pending = s.pending := by
  unfold State.placeUnidentified
  repeat' split
  all_goals simp

@[simp] theorem State.liftPlaced_pending (s : State) (l : Location) : (s.liftPlaced l).pending = s.pending := by
  unfold State.liftPlaced
  repeat' split
  all_goals simp

@[simp] theorem State.liftPositioned_pending (s : State) : s.liftPositioned.pending = s.pending := by
  simp [State.liftPositioned]

@[simp] theorem State.carriageHalted_pending (s : State) (loaded : Bool) :
    (s.carriageHalted loaded).pending = s.pending := by
  unfold State.carriageHalted
  repeat' split
  all_goals simp

@[simp] theorem State.carriageIdle_pending (s : State) (loaded : Bool) :
    (s.carriageIdle loaded).pending = s.pending := by
  unfold State.carriageIdle
  split <;> simp

@[simp] theorem State.carriageDirect_pending (s : State) (loaded : Bool) :
    (s.carriageDirect loaded).pending = s.pending := by
  unfold State.carriageDirect
  dsimp only
  repeat' split
  all_goals simp

@[simp] theorem State.carriageReport_pending (s : State) (loaded : Bool) :
    (s.carriageReport loaded).pending = s.pending := by
  unfold State.carriageReport
  dsimp only
  repeat' split
  all_goals simp

@[simp] theorem State.dwellMinute_pending (s : State) (p : Nat) : (s.dwellMinute p).pending = s.pending := by
  simp [State.dwellMinute]

@[simp] theorem State.resetLift_pending (s : State) : s.resetLift.pending = s.pending := by
  unfold State.resetLift
  dsimp only
  repeat' split
  all_goals simp

@[simp] theorem State.resetStacks_pending (s : State) : s.resetStacks.pending = s.pending := by
  simp [State.resetStacks]

/-! ### The link controller -/

@[simp] theorem State.putMask_pending (s : State) (mask : BitVec 32) : (s.putMask mask).pending = s.pending := rfl

@[simp] theorem State.putEnable_pending (s : State) (on : Bool) : (s.putEnable on).pending = s.pending := rfl

@[simp] theorem State.clearAlerts_pending (s : State) (flags : BitVec 32) :
    (s.clearAlerts flags).1.pending = s.pending := rfl

@[simp] theorem State.queryAlerts_pending (s : State) : s.queryAlerts.1.pending = s.pending := rfl

@[simp] theorem State.setClock_pending (s : State) (v : Nat) : (s.setClock v).1.pending = s.pending := rfl

@[simp] theorem State.secondEnds_pending (s : State) : s.secondEnds.pending = s.pending := rfl

@[simp] theorem State.identify_pending (s : State) : s.identify.1.pending = s.pending := rfl

@[simp] theorem State.clearLanes_pending (s : State) : s.clearLanes.pending = s.pending := by simp [State.clearLanes]

@[simp] theorem State.resetStation_pending (s : State) (st : StationId) : (s.resetStation st).pending = s.pending := by
  simp [State.resetStation]

@[simp] theorem State.resetSuite_pending (s : State) (h : RequestHeader) : (s.resetSuite h).pending = s.pending := by
  simp [State.resetSuite]

/-- Every request at LNK is answered in a state with the same commands waiting. -/
@[simp] theorem State.serve_pending (s : State) (r : Request) : (s.serve r).1.pending = s.pending := by
  cases r <;> simp [State.serve]

@[simp] theorem State.takeRequest_pending (s : State) (q : RequestHeader) (r : Request) :
    (s.takeRequest q r).pending = s.pending := by
  unfold State.takeRequest
  split <;> simp

@[simp] theorem State.takeOne_pending (s : State) (q : QueuedRequest) : (s.takeOne q).pending = s.pending := by
  unfold State.takeOne
  split <;> simp

@[simp] theorem State.takeNext_pending (s : State) : s.takeNext.pending = s.pending := by
  unfold State.takeNext
  repeat' split
  all_goals simp

@[simp] theorem State.reject_pending (s : State) (r : Rejection) : (s.reject r).pending = s.pending := rfl

@[simp] theorem State.arrive_pending (s : State) (q : QueuedRequest) : (s.arrive q).pending = s.pending := by
  unfold State.arrive
  repeat' split
  all_goals simp

@[simp] theorem State.request_pending (s : State) (n : RequestNumber) (r : Request) :
    (s.request n r).pending = s.pending := by simp [State.request]

@[simp] theorem State.frameArrives_pending (s : State) (l : List Byte) : (s.frameArrives l).pending = s.pending := by
  unfold State.frameArrives
  split <;> simp

@[simp] theorem State.messageSent_pending (s : State) : s.messageSent.pending = s.pending := by
  unfold State.messageSent
  split
  · rw [State.headLeaves_pending _ State.takeNext_pending, State.emit_pending]
  · rw [State.headLeaves_pending id fun _ => rfl, State.emit_pending]
  · rw [State.headLeaves_pending _ fun t => t.updLink_pending _, State.emit_pending]
  · rfl
  · rw [State.deliveryArbiter_pending, State.updLink_pending]
  · rfl
  · rfl

/-! ### Completions -/

@[simp] theorem State.laneCompletes_pending (s : State) (l : LaneId) : (s.laneCompletes l).pending = s.pending := by
  unfold State.laneCompletes
  dsimp only
  split <;> simp

@[simp] theorem State.countFrame_pending (s : State) (st : StationId) : (s.countFrame st).pending = s.pending := by
  unfold State.countFrame
  split <;> simp

@[simp] theorem State.captureStored_pending (s : State) (l : LaneId) (samples : List (Nat × Sample)) :
    (s.captureStored l samples).pending = s.pending := by
  unfold State.captureStored
  split <;> simp

@[simp] theorem State.intervalEnds_pending (s : State) : s.intervalEnds.pending = s.pending := by
  unfold State.intervalEnds
  dsimp only
  repeat' split
  all_goals simp

@[simp] theorem State.handTiles_pending (s : State) (st : StationId) (n : Nat) :
    (s.handTiles st n).pending = s.pending := by
  unfold State.handTiles
  split <;> simp

@[simp] theorem State.tellBefore_pending (s : State) (st : StationId) (f : Nat) :
    (s.tellBefore st f).pending = s.pending := by
  unfold State.tellBefore
  repeat' split
  all_goals simp

@[simp] theorem State.tellAfter_pending (s : State) (st : StationId) (f : Nat) :
    (s.tellAfter st f).pending = s.pending := by
  unfold State.tellAfter
  split <;> simp

@[simp] theorem State.raiseDropped_pending (s : State) (a : Analysis) (x : Slot) (e : Exam) :
    (s.raiseDropped a x e).pending = s.pending := by
  unfold State.raiseDropped
  split <;> simp

@[simp] theorem State.analysisReady_pending (s : State) (a : Analysis) (x : Slot) :
    (s.analysisReady a x).pending = s.pending := by simp [State.analysisReady]

@[simp] theorem State.analysisEnds_pending (s : State) : s.analysisEnds.pending = s.pending := by
  unfold State.analysisEnds
  repeat' split
  all_goals simp

@[simp] theorem State.endSlot_pending (s : State) (k : Nat) : (s.endSlot k).pending = s.pending := by
  unfold State.endSlot
  dsimp only
  split <;> simp

@[simp] theorem State.pictureEnds_pending (s : State) : s.pictureEnds.pending = s.pending := by
  unfold State.pictureEnds
  split
  · dsimp only
    split <;> simp
  · rfl

/-! ### Power -/

theorem State.occupyAt_pending (s : State) (p : Nat) : (s.occupyAt p).pending = s.pending := by
  unfold State.occupyAt
  split <;> simp

theorem State.powerOnPassed_pending (s : State) : s.powerOnPassed.pending = s.pending := by
  have occupied (t : State) : ((List.range 8).foldl State.occupyAt t).pending = t.pending :=
    State.foldl_pending State.occupyAt_pending (List.range 8) t
  unfold State.powerOnPassed
  dsimp only
  split <;> simp only [State.raise_pending, State.setCarriage_pending, apply_ite State.pending, occupied, ite_self,
    State.unpowered]

theorem State.applyPower_pending (s : State) : s.applyPower.pending = s.pending := by
  unfold State.applyPower
  split
  · rw [State.settle_pending, State.powerOnPassed_pending]
  · exact State.settle_pending _

/-! ### Every command -/

/-- An event whose update leaves the waiting commands is answered by a next state that has them. -/
theorem event_goesOn {f : State → State} (update : ∀ s, (f s).pending = s.pending) (s : State) :
    ∃ t, event f s = .next t ∧ t.pending = s.pending := by
  refine ⟨_, rfl, ?_⟩
  split
  · rw [State.settle_pending, update]
  · rfl

theorem request_goesOn (n : RequestNumber) (r : Request) (s : State) :
    ∃ t, event (fun s => s.request n r) s = .next t ∧ t.pending = s.pending :=
  event_goesOn (fun s => s.request_pending n r) s

/-- Settles O2: power comes or goes, a request arrives at LNK, or something is reported, and each of these is an update of
the state that leaves the waiting commands. -/
theorem everyCommandGoesOn : Obligations.EveryCommandGoesOn := by
  unfold Obligations.EveryCommandGoesOn
  intro c s
  cases c with
  | powerOn => exact ⟨_, rfl, s.applyPower_pending⟩
  | powerLoss b =>
    refine ⟨_, rfl, ?_⟩
    split <;> rfl
  | frameReceived l => exact event_goesOn (·.frameArrives_pending l) s
  | outboundMessageSent => exact event_goesOn State.messageSent_pending s
  | clockSecondTick => exact event_goesOn State.secondEnds_pending s
  | attach st => exact event_goesOn (·.attached_pending st) s
  | identReply st f => exact event_goesOn (·.identTaken_pending st f) s
  | heartbeat st => exact event_goesOn (·.heartbeatTaken_pending st) s
  | discoveryTimerExpiry st => exact event_goesOn (·.discoveryExpired_pending st) s
  | heartbeatTimerExpiry st => exact event_goesOn (·.heartbeatExpired_pending st) s
  | canPresent st b => exact event_goesOn (·.canSensed_pending st b) s
  | tagRead st tag => exact event_goesOn (·.tagTaken_pending st tag) s
  | headMarkRead st mark => exact event_goesOn (·.markTaken_pending st mark) s
  | acidReading st v => exact event_goesOn (·.acidTaken_pending st v) s
  | threaded st => exact event_goesOn (·.threadedTaken_pending st) s
  | unthreaded st => exact event_goesOn (·.unthreadedTaken_pending st) s
  | atSpeed st n => exact event_goesOn (·.atSpeedTaken_pending st n) s
  | frameAtGate st n => exact event_goesOn (·.gateTaken_pending st n) s
  | perfInterval st f => exact event_goesOn (·.perfTaken_pending st f) s
  | tearSense st n => exact event_goesOn (·.tearTaken_pending st n) s
  | splice st n => exact event_goesOn (·.spliceTaken_pending st n) s
  | filmBreak st => exact event_goesOn (·.breakTaken_pending st) s
  | seize st l => exact event_goesOn (·.seizeTaken_pending st l) s
  | rewound st => exact event_goesOn (·.rewoundTaken_pending st) s
  | captureStored l samples => exact event_goesOn (·.captureStored_pending l samples) s
  | loopbackFrameInterval => exact event_goesOn State.intervalEnds_pending s
  | analysisEnd => exact event_goesOn State.analysisEnds_pending s
  | pictureMessageEnd => exact event_goesOn State.pictureEnds_pending s
  | arrived n => exact event_goesOn (·.liftArrived_pending n) s
  | moveTimerExpiry => exact event_goesOn State.moveTimeout_pending s
  | liftFault => exact event_goesOn State.liftFaulted_pending s
  | picked l => exact event_goesOn (·.liftPicked_pending l) s
  | placed l => exact event_goesOn (·.liftPlaced_pending l) s
  | positioned => exact event_goesOn State.liftPositioned_pending s
  | carriage b => exact event_goesOn (·.carriageReport_pending b) s
  | dwellMinuteTick k => exact event_goesOn (·.dwellMinute_pending k) s
  | _ => exact request_goesOn _ _ s

end Sys2Proof.Machine
end
